-- ==== Sys2Proof/Word.lean ====
section
/-! DEFINITION. The one bit-vector word the part handles as bits: the byte of the channel link and of the
nonvolatile image, and the 16-bit CHECK. Everything the manual treats as a number (a duty, a width, a
voltage, a count) is a `Nat` or an `Int`. -/

namespace Sys2Proof

/-- One byte on LINK (R2) or in the nonvolatile image (R180). -/
abbrev Byte := BitVec 8

/-- The two CHECK bytes taken as one value, high byte first (R5). -/
abbrev Check := BitVec 16

end Sys2Proof
end

