-- ==== Sys2Proof/Config.lean ====
section
/-! DEFINITION. The constants the manual fixes for every CX48. There is no free value here: the manual
leaves no VALUE that a step writes open, and the reply instant (R9) is chosen by the sender of commands, who
says when REPLY_START happens. What the model itself chooses is in the assumption log, not here. -/

namespace Sys2Proof.Config

/-- LEAD, the first byte of every frame (Table 1-1). -/
def lead : Byte := 0xA7

/-- The largest payload length LEN may announce (Table 1-1, R3). -/
def maxLen : Nat := 48

/-- KIND codes (Table 1-3). -/
def kindChannels : Byte := 0x31
def kindSetupWrite : Byte := 0x42
def kindSetupRead : Byte := 0x43
def kindQuery : Byte := 0x44
def kindAction : Byte := 0x45
def kindAnswer : Byte := 0x52
def kindTelemetry : Byte := 0x53

/-- The CRC register's starting value and the generator polynomial (R5). -/
def crcStart : Check := 0xFFFF
def crcPolynomial : Check := 0x1021

/-- The active cue list holds at most this many instances (R126). -/
def maxInstances : Nat := 8

/-- The line count saturates at this magnitude (R97). -/
def lineEndstop : Int := 65535

/-- The length in bytes of the sixteen tables' entries in the image, without its CHECK (Table 11-8). -/
def imageLength : Nat := 853

end Sys2Proof.Config
end

