-- ==== Sys2Proof/Syntax.lean ====
section
/-! DEFINITION. The commands of the CX48: one constructor for each row of spec/opcode_table.json, in the
table's order. A command is a frame taken whole from LINK, a byte or a line event on LINK, an expiry of one
of the part's timers, an event of a sense input, the end of an operation of the settings store, or a reset.

A frame command carries the frame's payload bytes (LEN is their count). The rows that write one table carry
the entry index byte and the bytes that follow it (their payload is the table id, the index and those bytes).
The queries and actions carry nothing: their payload is the one selector or action byte of Table 11-5. The end of a
conversion carries what stands at every sense input; the scanner takes from it the input of the slot it converts. -/

namespace Sys2Proof

/-- The electrical level of an input line (R169) or of an encoder line (R97). -/
inductive Level where
  | low
  | high
  deriving DecidableEq, Repr

/-- What stands at the sense inputs at one moment, in the engineering units of Table 7-2 (R139): the voltages of
TAP1 to TAP4 above TAP0 in mV, the current leaving the pack through PSH± (negative for a charging current) and
the current through WSH± in mA, and the temperature at TSENSE in °C. -/
structure SenseInputs where
  tap1 : Int
  tap2 : Int
  tap3 : Int
  tap4 : Int
  packShunt : Int
  winchShunt : Int
  tsense : Int
  deriving DecidableEq, Repr

/-- What the verification of a store found (R183). -/
inductive Verify where
  /-- Every entry and the CHECK compared equal. -/
  | good
  /-- The entry at this place in image order (counted from 0) compared unequal; the store stopped there. -/
  | entryUnequal (place : Nat)
  /-- Every entry compared equal and the CHECK was read back as this value. -/
  | checkRead (asRead : Check)
  deriving DecidableEq, Repr

/-- The commands, one constructor per row of the table. -/
inductive Instr where
  | channels (payload : List Byte)
  | setupWrite (payload : List Byte)
  | linkRecordWrite (index : Byte) (entry : List Byte)
  | steerRecordWrite (index : Byte) (entry : List Byte)
  | driveRecordWrite (index : Byte) (entry : List Byte)
  | winchRecordWrite (index : Byte) (entry : List Byte)
  | lampWrite (index : Byte) (entry : List Byte)
  | sceneWrite (index : Byte) (entry : List Byte)
  | cueWrite (index : Byte) (entry : List Byte)
  | scanWrite (index : Byte) (entry : List Byte)
  | protectWrite (index : Byte) (entry : List Byte)
  | budgetWrite (index : Byte) (entry : List Byte)
  | inputWrite (index : Byte) (entry : List Byte)
  | setupRead (payload : List Byte)
  | statusQuery
  | measureQuery
  | winchQuery
  | budgetQuery
  | steerQuery
  | enterSetup
  | leaveSetup
  | store
  | restoreDefaults
  | softReset
  | clearProtect
  | winchHome
  | winchClear
  | unknownKindFrame (kind : Byte) (payload : List Byte)
  | checkMismatchFrame (kind : Byte) (payload : List Byte) (check : Check)
  | gapTimeout
  | framingError
  | lenDiscard (len : Byte)
  | replyStart
  | replyAbandon
  | replyComplete
  | holdTimerExpiry
  | servoPeriodStart
  | brakingTimerExpiry
  | rampTick
  | stallTimerExpiry
  | noMotionTimerExpiry
  | clutchTimerExpiry
  | encoderCount (enca encb : Level)
  | cueTick
  | conversionEnd (inputs : SenseInputs)
  | budgetTimerExpiry
  | sampleTick (in0 in1 in2 in3 : Level)
  | loadComplete (in0 in1 in2 in3 enca encb : Level)
  | eraseEnd
  | storeEnd (verify : Verify)
  | powerOnReset
  | brownOutReset
  | byteReceived (byte : Byte)
  | leaveReset
  deriving DecidableEq, Repr

end Sys2Proof
end

