-- ==== Sys2Proof/Decode.lean ====
section
/-! DEFINITION. The command a word spells. No row of spec/opcode_table.json gives bits (every row's "fields"
is empty and none has a "fixed" pattern), so no word spells a command. The bytes of the channel link are not
decoded here: they are taken by the receiver (Machine/Link.lean) and by the entry formats
(Machine/Operands.lean). -/

namespace Sys2Proof

/-- The command that the `nbits` bits of `w` spell by the table's bits: none, for every word. -/
def decodeTableWord (_nbits _w : Nat) : Option Instr := none

end Sys2Proof
end

