-- ==== Sys2Proof/Machine/Crc.lean ====
section
/-! DEFINITION. The CRC of the channel link and of the image (R5, R180). -/

namespace Sys2Proof.Machine

/-- One bit shifted out of the CRC register (R5). -/
def crcBit (c : Check) : Check :=
  if c.msb then (c <<< 1) ^^^ Config.crcPolynomial else c <<< 1

/-- One byte entering the CRC register, most significant bit first (R5). -/
def crcByte (c : Check) (b : Byte) : Check :=
  crcBit (crcBit (crcBit (crcBit (crcBit (crcBit (crcBit (crcBit (c ^^^ (b ++ (0 : Byte))))))))))

/-- The bytes of a list entering the CRC register in order. -/
def crcBytes : Check → List Byte → Check
  | c, [] => c
  | c, b :: bs => crcBytes (crcByte c b) bs

/-- The CRC of a byte sequence, from the starting value, with no final inversion (R5). -/
def crc (bytes : List Byte) : Check := crcBytes Config.crcStart bytes

/-- The CHECK of a frame: the CRC over KIND, LEN and the payload, in line order (R5). -/
def frameCheck (kind : Byte) (payload : List Byte) : Check :=
  crc (kind :: BitVec.ofNat 8 payload.length :: payload)

/-- The high and the low byte of a CHECK (R5, R190). -/
def checkHigh (c : Check) : Byte := c.extractLsb' 8 8
def checkLow (c : Check) : Byte := c.extractLsb' 0 8

end Sys2Proof.Machine
end

