-- ==== Sys2Proof/Machine/Tables.lean ====
section
/-! DEFINITION. The sixteen tables of the part (Table 1-9): the fields of an entry of each, and the defaults
that start-up loads when the image is invalid and that RESTORE_DEFAULTS sets. Numeric fields are `Nat` or
`Int`, judged against their ranges in Machine/Operands.lean; an enumerated field has a type of its own. -/

namespace Sys2Proof.Machine

/-- A vector given by its element at each index. -/
def tab {α : Type} {n : Nat} (f : Fin n → α) : Vector α n := Vector.ofFn f

/-- Failsafe mode of a FUNC entry (Table 2-2). -/
inductive FailsafeMode where
  | hold
  | preset
  deriving DecidableEq, Repr

/-- FUNC entry (table 1, Table 2-2), indexed by function slot. -/
structure FuncEntry where
  source : Option (Fin 10)
  reverse : Bool
  centre : Nat
  span : Nat
  deadband : Nat
  curve : Option (Fin 4)
  failsafe : FailsafeMode
  failsafeValue : Int
  deriving DecidableEq, Repr

/-- The band-type slots (Table 0-5). -/
inductive BandSlot where
  | steerSel
  | lightSel
  | aux1
  | aux2
  deriving DecidableEq, Repr

/-- BAND entry (table 3, Table 2-7). `slot` none is EMPTY. -/
structure BandEntry where
  slot : Option BandSlot
  pattern : Nat
  width : Nat
  band : Fin 8
  deriving DecidableEq, Repr

/-- Steer modes (Table 3-1). -/
inductive SteerMode where
  | front
  | rear
  | counter
  | crab
  deriving DecidableEq, Repr

/-- STEER record (table 4, Table 3-3). A mode map item of none is NO_CHANGE. -/
structure SteerRecord where
  modeMap : Vector (Option SteerMode) 8
  defaultMode : SteerMode
  movingCurrent : Nat
  holdingCurrent : Nat
  indicatorThreshold : Nat
  deriving DecidableEq, Repr

/-- GEOM entry (table 5, Table 3-4), index mode × 4 + corner. -/
structure GeomEntry where
  gain : Int
  ackermann : Nat
  deriving DecidableEq, Repr

/-- CORNER entry (table 6, Table 3-6). -/
structure CornerEntry where
  centre : Nat
  throwPos : Nat
  throwNeg : Nat
  lowLimit : Nat
  highLimit : Nat
  slewStep : Nat
  reverse : Bool
  deriving DecidableEq, Repr

/-- DRIVE record (table 7, Table 4-2). -/
structure DriveRecord where
  servoPeriod : Nat
  neutral : Nat
  forwardThrow : Nat
  reverseThrow : Nat
  forwardLimit : Nat
  reverseLimit : Nat
  limitForwardCap : Nat
  ratedCurrent : Nat
  reverseThreshold : Nat
  brakeDelta : Nat
  brakeHold : Nat
  deriving DecidableEq, Repr

/-- Freespool source of the WINCH record, other than NONE (Table 5-3). -/
inductive AuxSlot where
  | aux1
  | aux2
  deriving DecidableEq, Repr

/-- WINCH record (table 8, Table 5-3). -/
structure WinchRecord where
  ratedCurrent : Nat
  maxDuty : Nat
  rampStep : Nat
  maxLine : Nat
  slowZone : Nat
  slowDutyCap : Nat
  stallCurrent : Nat
  stallTime : Nat
  noMotionTime : Nat
  noMotionDuty : Nat
  releasePosition : Nat
  engagePosition : Nat
  clutchTimeout : Nat
  tempWarn : Nat
  tempTrip : Nat
  homeAllowance : Nat
  freespoolSource : Option AuxSlot
  freespoolBand : Fin 8
  deriving DecidableEq, Repr

/-- LAMP entry (table 9, Table 6-1), indexed by output. -/
structure LampEntry where
  ratedCurrent : Nat
  enabled : Bool
  deriving DecidableEq, Repr

/-- The level trigger sources (Table 6-6). -/
inductive LevelSource where
  | reverse
  | braking
  | turnLeft
  | turnRight
  | aligning
  | winchMoving
  | winchFree
  | winchFault
  | protCaution
  | protLimit
  | protCutoff
  | failsafe
  | setup
  | aux1Band (b : Fin 8)
  | aux2Band (b : Fin 8)
  | inLevel (n : Fin 4)
  deriving DecidableEq, Repr

/-- The edge trigger sources (Table 6-6). -/
inductive EdgeSource where
  | inEdge (n : Fin 4)
  | cueDone (k : Fin 16)
  | lineEnd
  | homeSeen
  deriving DecidableEq, Repr

/-- A trigger or cancel source of a cue, other than NONE. -/
inductive Trigger where
  | level (l : LevelSource)
  | edge (e : EdgeSource)
  deriving DecidableEq, Repr

/-- Cue modes (Table 6-4). -/
inductive CueMode where
  | oneShot
  | whileTrue
  | latch
  deriving DecidableEq, Repr

/-- CUE entry (table 11, Table 6-3). The mask's bit n is output Ln. -/
structure CueEntry where
  enabled : Bool
  trigger : Option Trigger
  mode : CueMode
  cancel : Option Trigger
  mask : BitVec 12
  onLevel : Nat
  offLevel : Nat
  onTime : Nat
  offTime : Nat
  cycles : Nat
  priority : Fin 4
  chain : Option (Fin 16)
  deriving DecidableEq, Repr

/-- The eight measured quantities (Table 7-2). -/
inductive Quantity where
  | cell1
  | cell2
  | cell3
  | cell4
  | packV
  | packI
  | winchI
  | temp
  deriving DecidableEq, Repr

/-- SCAN entry (table 12, Table 7-3). `source` none is EMPTY. -/
structure ScanEntry where
  source : Option Quantity
  count : Nat
  deriving DecidableEq, Repr

/-- PROTECT record (table 13, Table 7-5). -/
structure ProtectRecord where
  cellCount : Nat
  vCaution : Nat
  vLimit : Nat
  vCutoff : Nat
  hysteresis : Nat
  pFall : Nat
  pCut : Nat
  pRise : Nat
  iMax : Nat
  cautionFactor : Nat
  limitFactor : Nat
  cutoffFactor : Nat
  iTrip : Nat
  pOc : Nat
  quantum : Nat
  budgetPeriod : Nat
  deriving DecidableEq, Repr

/-- BUDGET entry (table 14, Table 8-2), indexed by claimant: STEER 0, DRIVE 1, WINCH 2, LIGHTS 3. -/
structure BudgetEntry where
  priority : Fin 4
  floor : Nat
  deriving DecidableEq, Repr

/-- INPUT entry (table 15, Table 9-2), indexed by line. -/
structure InputEntry where
  active : Level
  debounce : Nat
  deriving DecidableEq, Repr

/-- LINK record (table 16, Table 1-8). -/
structure LinkRecord where
  holdTime : Nat
  recovery : Nat
  telemetryInterval : Nat
  neutralWindow : Nat
  deriving DecidableEq, Repr

/-- The working copy of the sixteen tables, in the order of their ids. -/
structure Tables where
  func : Vector FuncEntry 8
  curve : Vector Int 36
  band : Vector BandEntry 16
  steer : SteerRecord
  geom : Vector GeomEntry 16
  corner : Vector CornerEntry 4
  drive : DriveRecord
  winch : WinchRecord
  lamp : Vector LampEntry 12
  scene : Vector (Vector Nat 12) 8
  cue : Vector CueEntry 16
  scan : Vector ScanEntry 8
  protect : ProtectRecord
  budget : Vector BudgetEntry 4
  input : Vector InputEntry 4
  link : LinkRecord
  deriving DecidableEq, Repr

/-! ## Defaults -/

/-- A FUNC default with the given source, deadband and failsafe mode (Table 2-3). -/
def funcDefault (source : Option (Fin 10)) (deadband : Nat) (failsafe : FailsafeMode) : FuncEntry :=
  { source := source, reverse := false, centre := 2048, span := 820, deadband := deadband,
    curve := none, failsafe := failsafe, failsafeValue := 0 }

/-- Table 2-3. -/
def defaultFunc : Vector FuncEntry 8 :=
  #v[funcDefault (some 0) 20 .hold, funcDefault (some 1) 30 .preset, funcDefault (some 2) 20 .hold,
     funcDefault (some 3) 20 .hold, funcDefault (some 4) 20 .hold, funcDefault (some 5) 20 .hold,
     funcDefault (some 6) 20 .hold, funcDefault none 20 .hold]

/-- The straight-line curves: point i is −1000 + 250 i (R30). -/
def defaultCurve : Vector Int 36 := tab fun i => -1000 + 250 * ((i.val % 9 : Nat) : Int)

/-- Table 2-8. -/
def defaultBand : Vector BandEntry 16 := tab fun i =>
  match i.val with
  | 0 => ⟨some .steerSel, 0b000000, 2, 0⟩
  | 1 => ⟨some .steerSel, 0b110000, 2, 2⟩
  | 2 => ⟨some .steerSel, 0b000000, 1, 1⟩
  | 3 => ⟨some .steerSel, 0b100000, 1, 1⟩
  | 4 => ⟨some .lightSel, 0b000000, 2, 0⟩
  | 5 => ⟨some .lightSel, 0b110000, 2, 2⟩
  | 6 => ⟨some .lightSel, 0b000000, 1, 1⟩
  | 7 => ⟨some .lightSel, 0b100000, 1, 1⟩
  | _ => ⟨none, 0, 1, 0⟩

/-- Table 3-3. -/
def defaultSteer : SteerRecord :=
  { modeMap := #v[some .front, some .counter, some .crab, none, none, none, none, none]
    defaultMode := .front, movingCurrent := 1200, holdingCurrent := 150, indicatorThreshold := 300 }

/-- Table 3-5. -/
def defaultGeom : Vector GeomEntry 16 :=
  #v[⟨1000, 250⟩, ⟨1000, 250⟩, ⟨0, 250⟩, ⟨0, 250⟩,
     ⟨0, 250⟩, ⟨0, 250⟩, ⟨-1000, 250⟩, ⟨-1000, 250⟩,
     ⟨1000, 300⟩, ⟨1000, 300⟩, ⟨-800, 300⟩, ⟨-800, 300⟩,
     ⟨1000, 0⟩, ⟨1000, 0⟩, ⟨1000, 0⟩, ⟨1000, 0⟩]

/-- Table 3-6. -/
def defaultCorner : Vector CornerEntry 4 := tab fun _ =>
  { centre := 1500, throwPos := 400, throwNeg := 400, lowLimit := 1000, highLimit := 2000,
    slewStep := 50, reverse := false }

/-- Table 4-2. -/
def defaultDrive : DriveRecord :=
  { servoPeriod := 10, neutral := 1500, forwardThrow := 500, reverseThrow := 500,
    forwardLimit := 1000, reverseLimit := 600, limitForwardCap := 500, ratedCurrent := 25000,
    reverseThreshold := 100, brakeDelta := 150, brakeHold := 500 }

/-- Table 5-3. -/
def defaultWinch : WinchRecord :=
  { ratedCurrent := 8000, maxDuty := 1000, rampStep := 5, maxLine := 12000, slowZone := 800,
    slowDutyCap := 300, stallCurrent := 20000, stallTime := 300, noMotionTime := 400,
    noMotionDuty := 400, releasePosition := 1900, engagePosition := 1100, clutchTimeout := 800,
    tempWarn := 90, tempTrip := 110, homeAllowance := 50, freespoolSource := some .aux1,
    freespoolBand := 2 }

/-- Table 6-1. -/
def defaultLamp : Vector LampEntry 12 := tab fun _ => ⟨250, true⟩

/-- Table 6-2. -/
def defaultScene : Vector (Vector Nat 12) 8 := tab fun k =>
  tab fun o => if k.val = 1 ∧ o.val < 4 then 255 else if k.val = 2 then 255 else 0

/-- A default WHILE cue: enabled, cancel NONE, cycles 1, chain NONE (Table 6-5). -/
def cueDefault (l : LevelSource) (mask : BitVec 12) (off time : Nat) (priority : Fin 4) : CueEntry :=
  { enabled := true, trigger := some (.level l), mode := .whileTrue, cancel := none, mask := mask,
    onLevel := 255, offLevel := off, onTime := time, offTime := time, cycles := 1,
    priority := priority, chain := none }

/-- Cues 6 to 15 of Table 6-5. -/
def cueUnused : CueEntry :=
  { enabled := false, trigger := none, mode := .oneShot, cancel := none, mask := 0, onLevel := 0,
    offLevel := 0, onTime := 1, offTime := 1, cycles := 1, priority := 0, chain := none }

/-- Table 6-5. -/
def defaultCue : Vector CueEntry 16 := tab fun k =>
  match k.val with
  | 0 => cueDefault .reverse 0b110000000000 255 50 1
  | 1 => cueDefault .braking 0b001100000000 255 50 2
  | 2 => cueDefault .turnLeft 0b000001010000 0 40 2
  | 3 => cueDefault .turnRight 0b000010100000 0 40 2
  | 4 => cueDefault .winchFault 0b111111111111 0 25 3
  | 5 => cueDefault .failsafe 0b000011110000 0 50 3
  | _ => cueUnused

/-- Table 7-3. -/
def defaultScan : Vector ScanEntry 8 :=
  #v[⟨some .cell1, 4⟩, ⟨some .cell2, 4⟩, ⟨some .cell3, 4⟩, ⟨some .packI, 2⟩,
     ⟨some .winchI, 2⟩, ⟨some .temp, 1⟩, ⟨some .packV, 1⟩, ⟨none, 1⟩]

/-- Table 7-5. -/
def defaultProtect : ProtectRecord :=
  { cellCount := 3, vCaution := 3500, vLimit := 3400, vCutoff := 3200, hysteresis := 100,
    pFall := 50, pCut := 2000, pRise := 200, iMax := 30000, cautionFactor := 750,
    limitFactor := 500, cutoffFactor := 50, iTrip := 45000, pOc := 5, quantum := 100,
    budgetPeriod := 20 }

/-- Table 8-2. -/
def defaultBudget : Vector BudgetEntry 4 := #v[⟨3, 1500⟩, ⟨2, 0⟩, ⟨2, 0⟩, ⟨0, 200⟩]

/-- Table 9-2. -/
def defaultInput : Vector InputEntry 4 := tab fun _ => ⟨.low, 4⟩

/-- Table 1-8. -/
def defaultLink : LinkRecord :=
  { holdTime := 500, recovery := 3, telemetryInterval := 10, neutralWindow := 50 }

/-- Every table at the defaults of its owner's chapter (R181, R186). -/
def defaultTables : Tables :=
  { func := defaultFunc, curve := defaultCurve, band := defaultBand, steer := defaultSteer,
    geom := defaultGeom, corner := defaultCorner, drive := defaultDrive, winch := defaultWinch,
    lamp := defaultLamp, scene := defaultScene, cue := defaultCue, scan := defaultScan,
    protect := defaultProtect, budget := defaultBudget, input := defaultInput, link := defaultLink }

end Sys2Proof.Machine
end

