-- ==== Sys2Proof/Machine/Blocks.lean ====
section
/-! DEFINITION. The state each block of the CX48 keeps (Table 0-1), and the value it takes after a reset. A
block's `…AfterReset` holds the values every kind of reset gives it; what differs by kind of reset (the line
count and homed, the protection state and cause, the reset-cause flags) is decided in Machine/Reset.lean. -/

namespace Sys2Proof.Machine

/-! ## Timers -/

/-- A timer of the part: stopped, or running toward an expiry. The expiry is named by the length the timer
was started with (in ms) and by the start it counts from: `starts` counts the starts since the reset, so a
timer started afresh is told from one left running (log entry 3). -/
structure Timer where
  running : Bool
  length : Nat
  starts : Nat
  deriving DecidableEq, Repr

def timerAfterReset : Timer := ⟨false, 0, 0⟩

/-- Start a timer afresh at a length. -/
def startTimer (length : Nat) (t : Timer) : Timer := ⟨true, length, t.starts + 1⟩

/-- Stop a timer. -/
def stopTimer (t : Timer) : Timer := { t with running := false }

/-! ## LNK -/

/-- Receive states (R3, Table 1-2). -/
inductive RxPhase where
  | hunt
  | kind
  | len
  | payload
  | checkHi
  | checkLo
  deriving DecidableEq, Repr

/-- The receiver (R3): the receive state, the KIND kept, the length announced, the payload bytes taken (their
count is the payload count), the running CRC, the CHECK high byte kept, and the gap timer. -/
structure Receiver where
  phase : RxPhase
  kind : Byte
  length : Nat
  taken : List Byte
  crc : Check
  checkHi : Byte
  gapRunning : Bool
  deriving DecidableEq, Repr

/-- The receiver in HUNT: what it keeps of a frame means nothing there and stands at 0 (log entry 4). -/
def receiverHunting : Receiver := ⟨.hunt, 0, 0, [], 0, 0, false⟩

/-- Completion notices a block attaches to a reply (R11). -/
inductive Notice where
  /-- INL: the ANSWER carries a STATUS record (R177). -/
  | statusReport
  /-- SST: the ANSWER is the one of an accepted SOFT_RESET (R187). -/
  | softReset
  deriving DecidableEq, Repr

/-- What a composed reply holds (R9): the outbound kind, the payload, the kind of the inbound frame answered
and the completion notices. -/
structure ReplyContent where
  kind : Byte
  payload : List Byte
  answered : Byte
  notices : List Notice
  deriving DecidableEq, Repr

/-- The reply record (R9). -/
inductive Reply where
  | empty
  | pending (c : ReplyContent)
  | sending (c : ReplyContent)
  deriving DecidableEq, Repr

/-- Run states (Table 1-7). -/
inductive RunState where
  | init
  | wait
  | run
  | failsafe
  | setup
  deriving DecidableEq, Repr

/-- LNK's state. `discarding` says that a start bit which performed a soft reset has begun a byte that is not
received yet: it is the first of a frame that is discarded (R187). -/
structure Link where
  receiver : Receiver
  discarding : Bool
  reply : Reply
  run : RunState
  hold : Timer
  recovery : Nat
  telemetryCount : Nat
  telemetryDue : Bool
  deriving DecidableEq, Repr

/-- R26. -/
def linkAfterReset : Link :=
  { receiver := receiverHunting, discarding := false, reply := .empty, run := .init, hold := timerAfterReset,
    recovery := 0, telemetryCount := 0, telemetryDue := false }

/-! ## FNM -/

/-- The function record (R27): eight values, four bands (none is NONE) and the rate-unsourced indication. -/
structure FunctionRecord where
  steer : Int
  throttle : Int
  winch : Int
  steerSel : Int
  lightSel : Int
  aux1 : Int
  aux2 : Int
  rate : Int
  steerSelBand : Option (Fin 8)
  lightSelBand : Option (Fin 8)
  aux1Band : Option (Fin 8)
  aux2Band : Option (Fin 8)
  rateUnsourced : Bool
  deriving DecidableEq, Repr

/-- R44. -/
def recordAfterReset : FunctionRecord :=
  { steer := 0, throttle := 0, winch := 0, steerSel := 0, lightSel := 0, aux1 := 0, aux2 := 0,
    rate := 0, steerSelBand := none, lightSelBand := none, aux1Band := none, aux2Band := none,
    rateUnsourced := true }

/-! ## STC -/

/-- Steer status (R45). -/
inductive SteerStatus where
  | steady
  | align
  deriving DecidableEq, Repr

/-- A corner record (Table 3-2). A corner is moving while its position differs from its target. -/
structure Corner where
  target : Int
  position : Int
  width : Int
  deriving DecidableEq, Repr

/-- STC's state (R45). Corners are in the order FL, FR, RL, RR. `active` is the corner pulse state ACTIVE. -/
structure Steering where
  mode : SteerMode
  requested : SteerMode
  status : SteerStatus
  modeHeld : Bool
  active : Bool
  filed : Nat
  record : FunctionRecord
  corners : Vector Corner 4
  deriving DecidableEq, Repr

/-- R69. The steer mode and the requested mode, which no frame can report before load complete sets them,
stand at FRONT until then (log entry 9). -/
def steeringAfterReset : Steering :=
  { mode := .front, requested := .front, status := .steady, modeHeld := false, active := false,
    filed := 0, record := recordAfterReset, corners := tab fun _ => ⟨0, 0, 0⟩ }

/-! ## DRV -/

/-- DRV's state: the pulse generator (R71, R72) and the throttle path (R75). The period timer's length is the
servo period in force. `pulses` are the widths of the pulses begun on S0–S6 at the last servo-period start,
0 for an output that stays low. The present widths of S0–S3 are STC's, and that of S5 is WCH's. -/
structure Drive where
  period : Timer
  s4Active : Bool
  s5Active : Bool
  s6Active : Bool
  s4Width : Int
  s6Width : Int
  pulses : Vector Int 7
  record : FunctionRecord
  t1 : Int
  t2 : Int
  grantUsed : Nat
  filed : Nat
  reverse : Bool
  braking : Bool
  brakingTimer : Timer
  deriving DecidableEq, Repr

/-- R84. -/
def driveAfterReset : Drive :=
  { period := timerAfterReset, s4Active := false, s5Active := false, s6Active := false,
    s4Width := 0, s6Width := 0, pulses := tab fun _ => 0, record := recordAfterReset,
    t1 := 0, t2 := 0, grantUsed := 0, filed := 0, reverse := false, braking := false,
    brakingTimer := timerAfterReset }

/-! ## WCH -/

/-- Winch states (Table 5-2). -/
inductive WinchState where
  | idle
  | haulIn
  | payOut
  | rampDown
  | clutchOut
  | freespool
  | clutchIn
  | fault
  deriving DecidableEq, Repr

/-- Winch direction (R85). -/
inductive Direction where
  | none
  | haulIn
  | payOut
  deriving DecidableEq, Repr

/-- Fault causes (Table 5-6). -/
inductive FaultCause where
  | none
  | stall
  | noMotion
  | hot
  | clutch
  | homeMiss
  deriving DecidableEq, Repr

/-- Bridge modes (R86). -/
inductive Bridge where
  | brake
  | driveIn
  | driveOut
  | coast
  deriving DecidableEq, Repr

/-- WCH's state (R85, R87, R89, R101). `command` is w. `request` is the freespool request. `ticking` says the
ramp tick runs. `enca` and `encb` are the encoder reference. -/
structure Winch where
  state : WinchState
  direction : Direction
  duty : Nat
  target : Nat
  command : Int
  line : Int
  homed : Bool
  cause : FaultCause
  further : Bool
  clutchTimer : Timer
  stallTimer : Timer
  noMotionTimer : Timer
  filed : Nat
  winchI : Int
  temp : Int
  record : FunctionRecord
  enca : Level
  encb : Level
  request : Bool
  releaseBlock : Bool
  clutchWidth : Int
  ticking : Bool
  deriving DecidableEq, Repr

/-- R114, with the line count and homed of a power-on reset. The clutch width is set at load complete, and
stands at 0 until then with S5 OFF (R73). The encoder reference is taken at load complete (R115), and stands
at (low, low) until then (log entry 9). -/
def winchAfterReset : Winch :=
  { state := .idle, direction := .none, duty := 0, target := 0, command := 0, line := 0,
    homed := false, cause := .none, further := false, clutchTimer := timerAfterReset,
    stallTimer := timerAfterReset, noMotionTimer := timerAfterReset, filed := 0, winchI := 0,
    temp := 0, record := recordAfterReset, enca := .low, encb := .low, request := false,
    releaseBlock := false, clutchWidth := 0, ticking := false }

/-! ## LTC -/

/-- An instance record of the active cue list (R116): the cue, the phase, the time left in it in cue ticks,
and the cycles left. -/
structure CueInstance where
  cue : Fin 16
  phaseOn : Bool
  timeLeft : Nat
  cyclesLeft : Nat
  deriving DecidableEq, Repr

/-- LTC's state (R116). `active` is the active cue list, oldest first. `kept` holds the kept value of every
level source, at the place `keptIndex` gives it. `ticking` says the cue tick runs, `pwm` that the PWM cycles
run (R117). -/
structure Lights where
  scene : Fin 8
  active : List CueInstance
  levels : Vector Nat 12
  outputs : Vector Nat 12
  dimming : Nat
  filed : Nat
  grantUsed : Nat
  kept : Vector Bool 33
  ticking : Bool
  pwm : Bool
  deriving DecidableEq, Repr

/-- R137. -/
def lightsAfterReset : Lights :=
  { scene := 0, active := [], levels := tab fun _ => 0, outputs := tab fun _ => 0, dimming := 1000,
    filed := 0, grantUsed := 0, kept := tab fun _ => false, ticking := false, pwm := false }

/-! ## MSC -/

/-- A pass in progress (R142): the list it took, the slot being converted, the conversions of it that have
ended, and their running sum (R141). -/
structure Pass where
  list : Vector ScanEntry 8
  slot : Fin 8
  done : Nat
  sum : Int
  deriving DecidableEq, Repr

/-- MSC's state. `pass` none is the stopped scanner. `values` are in the order of Table 7-2. -/
structure Scanner where
  values : Vector Int 8
  pass : Option Pass
  deriving DecidableEq, Repr

/-- R153. -/
def scannerAfterReset : Scanner := { values := tab fun _ => 0, pass := none }

/-! ## BPR -/

/-- Protection states (Table 7-1). -/
inductive ProtState where
  | normal
  | caution
  | limit
  | cutoff
  deriving DecidableEq, Repr

/-- The cause of a CUTOFF (R144). -/
inductive ProtCause where
  | none
  | undervolt
  | overcurrent
  deriving DecidableEq, Repr

/-- The six persistence counters (Table 7-6). -/
structure Counters where
  caution : Nat
  limit : Nat
  cutoff : Nat
  toCaution : Nat
  toNormal : Nat
  overcurrent : Nat
  deriving DecidableEq, Repr

/-- Every counter at 0. -/
def countersZero : Counters := ⟨0, 0, 0, 0, 0, 0⟩

/-- BPR's state (R144). -/
structure Protection where
  state : ProtState
  cause : ProtCause
  counters : Counters
  cap : Nat
  minCell : Int
  primed : Bool
  deriving DecidableEq, Repr

/-- R154, with the state and cause of a power-on reset. -/
def protectionAfterReset : Protection :=
  { state := .normal, cause := .none, counters := countersZero, cap := 0, minCell := 0, primed := false }

/-! ## CBU -/

/-- CBU's state (R156), indexed by claimant: STEER 0, DRIVE 1, WINCH 2, LIGHTS 3. A claim's priority and
floor are those of its BUDGET entry in force and are read there. `pointers` are the level pointers. -/
structure Budget where
  demand : Vector Nat 4
  grant : Vector Nat 4
  pointers : Vector (Option (Fin 4)) 4
  capUsed : Nat
  timer : Timer
  deriving DecidableEq, Repr

/-- R167. -/
def budgetAfterReset : Budget :=
  { demand := tab fun _ => 0, grant := tab fun _ => 0, pointers := tab fun _ => none, capUsed := 0,
    timer := timerAfterReset }

/-! ## INL -/

/-- One input line (R169). `armed` is the edge arm ARMED. -/
structure Line where
  level : Level
  runCount : Nat
  armed : Bool
  deriving DecidableEq, Repr

/-- The sticky flags (Table 9-3), in the bit order of the STATUS record (Table 11-9). -/
inductive Flag where
  | resetPower
  | resetSoft
  | resetBrown
  | imageDefaulted
  | storeDone
  | storeFail
  | failsafeEntered
  | throttleNotNeutral
  | protChanged
  | winchFault
  | lineEnd
  | edge (n : Fin 4)
  deriving DecidableEq, Repr

/-- INL's state. `flags` holds each flag at its bit of the STATUS record. `reported` is the reported set of a
STATUS answer awaiting transmission. `ticking` says the sample tick runs. -/
structure Inputs where
  lines : Vector Line 4
  ticking : Bool
  flags : Vector Bool 15
  reported : Option (Vector Bool 15)
  deriving DecidableEq, Repr

/-- A line after a reset: run count 0, edge arm ARMED (R173). The accepted level is taken at load complete,
and stands at HIGH until then (log entry 9). -/
def lineAfterReset : Line := { level := .high, runCount := 0, armed := true }

/-! ## SST -/

/-- Store states (Table 10-1). A store in flight holds the content taken at acceptance (R183). -/
inductive StoreState where
  | idle
  | erasing (content : Tables)
  | programming (content : Tables)
  deriving DecidableEq, Repr

/-- SST's state. `image` is the nonvolatile memory: the entry bytes and the CHECK as the memory holds them;
the empty list is an erased image. -/
structure Store where
  state : StoreState
  loaded : Bool
  pendingSoftReset : Bool
  image : List Byte
  deriving DecidableEq, Repr

/-- Table 10-1: SST after any reset, over the image as the memory holds it. -/
def storeAfterReset (image : List Byte) : Store :=
  { state := .idle, loaded := false, pendingSoftReset := false, image := image }

end Sys2Proof.Machine
end

