-- ==== Sys2Proof/Machine/State.lean ====
section
/-! DEFINITION. The state of the whole part, the outcomes that are not a next state, and the state right
after a power-on reset. -/

namespace Sys2Proof.Machine

/-- The part's state: one field per block (Table 0-1), the working copy of the tables, whether the part is
held in reset (R189), and the commands that wait, first in, first out. -/
structure State where
  pending : List Instr
  heldInReset : Bool
  link : Link
  record : FunctionRecord
  steering : Steering
  drive : Drive
  winch : Winch
  lights : Lights
  scanner : Scanner
  protection : Protection
  budget : Budget
  inputs : Inputs
  store : Store
  tables : Tables
  deriving DecidableEq, Repr

/-- The faults of the machine: none. No event the manual describes stops the part (a winch FAULT is a state
of the winch, R106), so no meaning raises one; safe. -/
inductive Fault where
  deriving DecidableEq, Repr

/-- The refusals. -/
inductive Refusal where
  /-- A command with no meaning yet: raised by an arm of `exec` only, by name; safe. Every command of the
  table has its meaning, so no arm raises it. -/
  | notModelled (mnemonic : String)
  deriving DecidableEq, Repr

/-- The sticky flags after the first power-on reset: RESET_POWER alone (R178). -/
def flagsAfterPowerOn : Vector Bool 15 := tab fun i => i.val == 0

/-- The machine right after a power-on reset: held in reset until LEAVE_RESET (R189), every block at its
power-on values (R26, R44, R69, R84, R114, R137, R153, R154, R167, R173, R178, Table 10-1), the image erased
(log entry 8) and the working copy, which is not in force before load complete (R181), at the defaults
(log entry 9). No command waits. -/
def State.reset : State :=
  { pending := []
    heldInReset := true
    link := linkAfterReset
    record := recordAfterReset
    steering := steeringAfterReset
    drive := driveAfterReset
    winch := winchAfterReset
    lights := lightsAfterReset
    scanner := scannerAfterReset
    protection := protectionAfterReset
    budget := budgetAfterReset
    inputs := { lines := tab fun _ => lineAfterReset, ticking := false, flags := flagsAfterPowerOn,
                reported := none }
    store := storeAfterReset []
    tables := defaultTables }

end Sys2Proof.Machine
end

