-- ==== Sys2Proof/Machine/Operands.lean ====
section
/-! DEFINITION. The byte formats of chapter 11: multi-byte fields (R190), the codes of enumerated fields
(Tables 11-5 to 11-7), the layout of an entry of every table (Table 11-8) with the ranges and cross-field
checks its owner applies (R28 … R170), the image (R180), and the CHANNELS payload (R191).

`decode…` reads an entry's bytes and gives none when an enumerated or yes/no field holds a value not listed
for it (R190); `…InRange` judges the numeric fields. A write is accepted when both pass. -/

namespace Sys2Proof.Machine

/-! ## Fields of one and more bytes, high byte first (R190) -/

/-- The u8 field at an offset. -/
def u8At (b : List Byte) (o : Nat) : Nat := (b.getD o 0).toNat

/-- The u16 field at an offset. -/
def u16At (b : List Byte) (o : Nat) : Nat := u8At b o * 256 + u8At b (o + 1)

/-- The u24 field at an offset. -/
def u24At (b : List Byte) (o : Nat) : Nat := u8At b o * 65536 + u16At b (o + 1)

/-- The s16 field at an offset: two's complement of its own width. -/
def s16At (b : List Byte) (o : Nat) : Int :=
  if u16At b o < 32768 then u16At b o else (u16At b o : Int) - 65536

/-- The bytes of a u8, u16, u24, s16 and s24 field. -/
def putU8 (n : Nat) : List Byte := [BitVec.ofNat 8 n]
def putU16 (n : Nat) : List Byte := [BitVec.ofNat 8 (n / 256), BitVec.ofNat 8 n]
def putU24 (n : Nat) : List Byte := BitVec.ofNat 8 (n / 65536) :: putU16 n
def putS16 (v : Int) : List Byte := putU16 (v % 65536).toNat
def putS24 (v : Int) : List Byte := putU24 (v % 16777216).toNat

/-- A yes/no field (chapter 11, opening). -/
def putBool (b : Bool) : List Byte := putU8 b.toNat
def boolAt (b : List Byte) (o : Nat) : Option Bool :=
  if u8At b o = 0 then some false else if u8At b o = 1 then some true else none

/-- A number below `n`. -/
def finOf (n v : Nat) : Option (Fin n) := if h : v < n then some ⟨v, h⟩ else none

/-- A number below `n`, or NONE as 0xFF (Table 11-6). -/
def finOrNone (n v : Nat) : Option (Option (Fin n)) :=
  if v = 255 then some none else (finOf n v).map some
def putFinOrNone {n : Nat} (v : Option (Fin n)) : List Byte :=
  putU8 (match v with | some i => i.val | none => 255)

def between (lo hi x : Nat) : Bool := decide (lo ≤ x) && decide (x ≤ hi)
def betweenI (lo hi x : Int) : Bool := decide (lo ≤ x) && decide (x ≤ hi)

/-! ## Enumerations (Table 11-6) -/

def runCode : RunState → Nat
  | .init => 0
  | .wait => 1
  | .run => 2
  | .failsafe => 3
  | .setup => 4

def protCode : ProtState → Nat
  | .normal => 0
  | .caution => 1
  | .limit => 2
  | .cutoff => 3

def protCauseCode : ProtCause → Nat
  | .none => 0
  | .undervolt => 1
  | .overcurrent => 2

def winchStateCode : WinchState → Nat
  | .idle => 0
  | .haulIn => 1
  | .payOut => 2
  | .rampDown => 3
  | .clutchOut => 4
  | .freespool => 5
  | .clutchIn => 6
  | .fault => 7

def directionCode : Direction → Nat
  | .none => 0
  | .haulIn => 1
  | .payOut => 2

def faultCauseCode : FaultCause → Nat
  | .none => 0
  | .stall => 1
  | .noMotion => 2
  | .hot => 3
  | .clutch => 4
  | .homeMiss => 5

def steerModeCode : SteerMode → Nat
  | .front => 0
  | .rear => 1
  | .counter => 2
  | .crab => 3

def steerModeOf : Nat → Option SteerMode
  | 0 => some .front
  | 1 => some .rear
  | 2 => some .counter
  | 3 => some .crab
  | _ => none

/-- A mode map item: a mode, or NO_CHANGE as 4. -/
def mapItemCode : Option SteerMode → Nat
  | some m => steerModeCode m
  | none => 4
def mapItemOf (v : Nat) : Option (Option SteerMode) :=
  if v = 4 then some none else (steerModeOf v).map some

def steerStatusCode : SteerStatus → Nat
  | .steady => 0
  | .align => 1

def failsafeModeCode : FailsafeMode → Nat
  | .hold => 0
  | .preset => 1
def failsafeModeOf : Nat → Option FailsafeMode
  | 0 => some .hold
  | 1 => some .preset
  | _ => none

/-- BAND slot; none is EMPTY. -/
def bandSlotCode : Option BandSlot → Nat
  | some .steerSel => 3
  | some .lightSel => 4
  | some .aux1 => 5
  | some .aux2 => 6
  | none => 255
def bandSlotOf (v : Nat) : Option (Option BandSlot) :=
  if v = 3 then some (some .steerSel)
  else if v = 4 then some (some .lightSel)
  else if v = 5 then some (some .aux1)
  else if v = 6 then some (some .aux2)
  else if v = 255 then some none
  else none

def freespoolCode : Option AuxSlot → Nat
  | some .aux1 => 5
  | some .aux2 => 6
  | none => 255
def freespoolOf (v : Nat) : Option (Option AuxSlot) :=
  if v = 5 then some (some .aux1)
  else if v = 6 then some (some .aux2)
  else if v = 255 then some none
  else none

def cueModeCode : CueMode → Nat
  | .oneShot => 0
  | .whileTrue => 1
  | .latch => 2
def cueModeOf : Nat → Option CueMode
  | 0 => some .oneShot
  | 1 => some .whileTrue
  | 2 => some .latch
  | _ => none

def levelCode : Level → Nat
  | .low => 0
  | .high => 1
def levelOf : Nat → Option Level
  | 0 => some .low
  | 1 => some .high
  | _ => none

/-- SCAN source (Table 7-2); none is EMPTY. -/
def scanSourceCode : Option Quantity → Nat
  | none => 0
  | some .cell1 => 1
  | some .cell2 => 2
  | some .cell3 => 3
  | some .cell4 => 4
  | some .packV => 5
  | some .packI => 6
  | some .winchI => 7
  | some .temp => 8
def scanSourceOf : Nat → Option (Option Quantity)
  | 0 => some none
  | 1 => some (some .cell1)
  | 2 => some (some .cell2)
  | 3 => some (some .cell3)
  | 4 => some (some .cell4)
  | 5 => some (some .packV)
  | 6 => some (some .packI)
  | 7 => some (some .winchI)
  | 8 => some (some .temp)
  | _ => none

/-- The code and the parameter byte of a trigger source (Table 11-7). -/
def triggerCode : Option Trigger → Nat × Nat
  | none => (0, 0)
  | some (.level .reverse) => (1, 0)
  | some (.level .braking) => (2, 0)
  | some (.level .turnLeft) => (3, 0)
  | some (.level .turnRight) => (4, 0)
  | some (.level .aligning) => (5, 0)
  | some (.level .winchMoving) => (6, 0)
  | some (.level .winchFree) => (7, 0)
  | some (.level .winchFault) => (8, 0)
  | some (.level .protCaution) => (9, 0)
  | some (.level .protLimit) => (10, 0)
  | some (.level .protCutoff) => (11, 0)
  | some (.level .failsafe) => (12, 0)
  | some (.level .setup) => (13, 0)
  | some (.level (.aux1Band b)) => (14, b.val)
  | some (.level (.aux2Band b)) => (15, b.val)
  | some (.level (.inLevel n)) => (16, n.val)
  | some (.edge (.inEdge n)) => (32, n.val)
  | some (.edge (.cueDone k)) => (33, k.val)
  | some (.edge .lineEnd) => (34, 0)
  | some (.edge .homeSeen) => (35, 0)

/-- The sources whose parameter byte is 0, by code. -/
def plainTriggerOf : Nat → Option (Option Trigger)
  | 0 => some none
  | 1 => some (some (.level .reverse))
  | 2 => some (some (.level .braking))
  | 3 => some (some (.level .turnLeft))
  | 4 => some (some (.level .turnRight))
  | 5 => some (some (.level .aligning))
  | 6 => some (some (.level .winchMoving))
  | 7 => some (some (.level .winchFree))
  | 8 => some (some (.level .winchFault))
  | 9 => some (some (.level .protCaution))
  | 10 => some (some (.level .protLimit))
  | 11 => some (some (.level .protCutoff))
  | 12 => some (some (.level .failsafe))
  | 13 => some (some (.level .setup))
  | 34 => some (some (.edge .lineEnd))
  | 35 => some (some (.edge .homeSeen))
  | _ => none

/-- The source that a code and a parameter byte name; none is a RANGE (Table 11-7, R120). -/
def triggerOf (code param : Nat) : Option (Option Trigger) :=
  if code = 14 then (finOf 8 param).map fun b => some (.level (.aux1Band b))
  else if code = 15 then (finOf 8 param).map fun b => some (.level (.aux2Band b))
  else if code = 16 then (finOf 4 param).map fun n => some (.level (.inLevel n))
  else if code = 32 then (finOf 4 param).map fun n => some (.edge (.inEdge n))
  else if code = 33 then (finOf 16 param).map fun k => some (.edge (.cueDone k))
  else if param = 0 then plainTriggerOf code
  else none

/-- A claimant, or NONE as 0xF (Table 11-6). -/
def pointerNibble : Option (Fin 4) → Nat
  | some c => c.val
  | none => 15

/-! ## Entries (Table 11-8): bytes, reading, ranges -/

def encodeFunc (e : FuncEntry) : List Byte :=
  putFinOrNone e.source ++ putBool e.reverse ++ putU16 e.centre ++ putU16 e.span ++ putU8 e.deadband
    ++ putFinOrNone e.curve ++ putU8 (failsafeModeCode e.failsafe) ++ putS16 e.failsafeValue

def decodeFunc (b : List Byte) : Option FuncEntry := do
  let source ← finOrNone 10 (u8At b 0)
  let reverse ← boolAt b 1
  let curve ← finOrNone 4 (u8At b 7)
  let failsafe ← failsafeModeOf (u8At b 8)
  return { source := source, reverse := reverse, centre := u16At b 2, span := u16At b 4,
           deadband := u8At b 6, curve := curve, failsafe := failsafe, failsafeValue := s16At b 9 }

/-- Table 2-2, and the cross-field check on slot 1, THROTTLE (R28). -/
def funcInRange (slot : Nat) (e : FuncEntry) : Bool :=
  between 0 4095 e.centre && between 200 2047 e.span && between 0 200 e.deadband
    && betweenI (-1000) 1000 e.failsafeValue
    && (slot != 1 || (e.failsafe == .preset && e.failsafeValue == 0))

def encodeCurve (p : Int) : List Byte := putS16 p
def decodeCurve (b : List Byte) : Option Int := some (s16At b 0)

/-- R30. -/
def curveInRange (p : Int) : Bool := betweenI (-1000) 1000 p

def encodeBand (e : BandEntry) : List Byte :=
  putU8 (bandSlotCode e.slot) ++ putU8 e.pattern ++ putU8 e.width ++ putU8 e.band.val

def decodeBand (b : List Byte) : Option BandEntry := do
  let slot ← bandSlotOf (u8At b 0)
  let band ← finOf 8 (u8At b 3)
  return { slot := slot, pattern := u8At b 1, width := u8At b 2, band := band }

/-- Table 2-7, R35. -/
def bandInRange (e : BandEntry) : Bool := between 0 63 e.pattern && between 1 6 e.width

def encodeSteer (r : SteerRecord) : List Byte :=
  r.modeMap.toList.flatMap (fun m => putU8 (mapItemCode m)) ++ putU8 (steerModeCode r.defaultMode)
    ++ putU16 r.movingCurrent ++ putU16 r.holdingCurrent ++ putU16 r.indicatorThreshold

/-- A vector whose elements may each be missing: none when one is. -/
def collect {α : Type} {n : Nat} (f : Fin n → Option α) : Option (Vector α n) :=
  if h : ∀ i, (f i).isSome = true then some (tab fun i => (f i).get (h i)) else none

def decodeSteer (b : List Byte) : Option SteerRecord := do
  let modeMap ← collect fun i : Fin 8 => mapItemOf (u8At b i.val)
  let defaultMode ← steerModeOf (u8At b 8)
  return { modeMap := modeMap, defaultMode := defaultMode, movingCurrent := u16At b 9,
           holdingCurrent := u16At b 11, indicatorThreshold := u16At b 13 }

/-- Table 3-3, R46. -/
def steerInRange (r : SteerRecord) : Bool :=
  between 0 5000 r.movingCurrent && between 0 2000 r.holdingCurrent && between 0 1000 r.indicatorThreshold

def encodeGeom (e : GeomEntry) : List Byte := putS16 e.gain ++ putU16 e.ackermann
def decodeGeom (b : List Byte) : Option GeomEntry :=
  some { gain := s16At b 0, ackermann := u16At b 2 }

/-- Table 3-4, R47. -/
def geomInRange (e : GeomEntry) : Bool := betweenI (-1000) 1000 e.gain && between 0 500 e.ackermann

def encodeCorner (e : CornerEntry) : List Byte :=
  putU16 e.centre ++ putU16 e.throwPos ++ putU16 e.throwNeg ++ putU16 e.lowLimit ++ putU16 e.highLimit
    ++ putU16 e.slewStep ++ putBool e.reverse

def decodeCorner (b : List Byte) : Option CornerEntry := do
  let reverse ← boolAt b 12
  return { centre := u16At b 0, throwPos := u16At b 2, throwNeg := u16At b 4, lowLimit := u16At b 6,
           highLimit := u16At b 8, slewStep := u16At b 10, reverse := reverse }

/-- Table 3-6, and the low limit below the high limit (R48). -/
def cornerInRange (e : CornerEntry) : Bool :=
  between 800 2200 e.centre && between 0 700 e.throwPos && between 0 700 e.throwNeg
    && between 500 2500 e.lowLimit && between 500 2500 e.highLimit && between 1 1000 e.slewStep
    && decide (e.lowLimit < e.highLimit)

def encodeDrive (r : DriveRecord) : List Byte :=
  putU8 r.servoPeriod ++ putU16 r.neutral ++ putU16 r.forwardThrow ++ putU16 r.reverseThrow
    ++ putU16 r.forwardLimit ++ putU16 r.reverseLimit ++ putU16 r.limitForwardCap
    ++ putU24 r.ratedCurrent ++ putU16 r.reverseThreshold ++ putU16 r.brakeDelta ++ putU16 r.brakeHold

def decodeDrive (b : List Byte) : Option DriveRecord :=
  some { servoPeriod := u8At b 0, neutral := u16At b 1, forwardThrow := u16At b 3,
         reverseThrow := u16At b 5, forwardLimit := u16At b 7, reverseLimit := u16At b 9,
         limitForwardCap := u16At b 11, ratedCurrent := u24At b 13, reverseThreshold := u16At b 16,
         brakeDelta := u16At b 18, brakeHold := u16At b 20 }

/-- Table 4-2, R74. -/
def driveInRange (r : DriveRecord) : Bool :=
  between 5 20 r.servoPeriod && between 1000 2000 r.neutral && between 0 700 r.forwardThrow
    && between 0 700 r.reverseThrow && between 0 1000 r.forwardLimit && between 0 1000 r.reverseLimit
    && between 0 1000 r.limitForwardCap && between 1000 100000 r.ratedCurrent
    && between 0 1000 r.reverseThreshold && between 10 1000 r.brakeDelta && between 100 2000 r.brakeHold

def encodeWinch (r : WinchRecord) : List Byte :=
  putU16 r.ratedCurrent ++ putU16 r.maxDuty ++ putU8 r.rampStep ++ putU16 r.maxLine ++ putU16 r.slowZone
    ++ putU16 r.slowDutyCap ++ putU16 r.stallCurrent ++ putU16 r.stallTime ++ putU16 r.noMotionTime
    ++ putU16 r.noMotionDuty ++ putU16 r.releasePosition ++ putU16 r.engagePosition
    ++ putU16 r.clutchTimeout ++ putU8 r.tempWarn ++ putU8 r.tempTrip ++ putU16 r.homeAllowance
    ++ putU8 (freespoolCode r.freespoolSource) ++ putU8 r.freespoolBand.val

def decodeWinch (b : List Byte) : Option WinchRecord := do
  let source ← freespoolOf (u8At b 29)
  let band ← finOf 8 (u8At b 30)
  return { ratedCurrent := u16At b 0, maxDuty := u16At b 2, rampStep := u8At b 4, maxLine := u16At b 5,
           slowZone := u16At b 7, slowDutyCap := u16At b 9, stallCurrent := u16At b 11,
           stallTime := u16At b 13, noMotionTime := u16At b 15, noMotionDuty := u16At b 17,
           releasePosition := u16At b 19, engagePosition := u16At b 21, clutchTimeout := u16At b 23,
           tempWarn := u8At b 25, tempTrip := u8At b 26, homeAllowance := u16At b 27,
           freespoolSource := source, freespoolBand := band }

/-- Table 5-3, and the temperature warn below the temperature trip (R88). -/
def winchInRange (r : WinchRecord) : Bool :=
  between 500 30000 r.ratedCurrent && between 100 1000 r.maxDuty && between 1 100 r.rampStep
    && between 100 65000 r.maxLine && between 0 5000 r.slowZone && between 100 1000 r.slowDutyCap
    && between 1000 50000 r.stallCurrent && between 10 2000 r.stallTime && between 50 2000 r.noMotionTime
    && between 100 1000 r.noMotionDuty && between 800 2200 r.releasePosition
    && between 800 2200 r.engagePosition && between 100 3000 r.clutchTimeout && between 40 150 r.tempWarn
    && between 40 150 r.tempTrip && between 0 500 r.homeAllowance && decide (r.tempWarn < r.tempTrip)

def encodeLamp (e : LampEntry) : List Byte := putU16 e.ratedCurrent ++ putBool e.enabled
def decodeLamp (b : List Byte) : Option LampEntry := do
  let enabled ← boolAt b 2
  return { ratedCurrent := u16At b 0, enabled := enabled }

/-- Table 6-1, R118. -/
def lampInRange (e : LampEntry) : Bool := between 0 3000 e.ratedCurrent

def encodeScene (v : Vector Nat 12) : List Byte := v.toList.flatMap putU8
def decodeScene (b : List Byte) : Option (Vector Nat 12) := some (tab fun o => u8At b o.val)

/-- Every level is a whole byte (R119). -/
def sceneInRange (v : Vector Nat 12) : Bool := v.toList.all (between 0 255)

def encodeCue (e : CueEntry) : List Byte :=
  putBool e.enabled ++ putU8 (triggerCode e.trigger).1 ++ putU8 (triggerCode e.trigger).2
    ++ putU8 (cueModeCode e.mode) ++ putU8 (triggerCode e.cancel).1 ++ putU8 (triggerCode e.cancel).2
    ++ putU16 e.mask.toNat ++ putU8 e.onLevel ++ putU8 e.offLevel ++ putU8 e.onTime ++ putU8 e.offTime
    ++ putU8 e.cycles ++ putU8 e.priority.val ++ putFinOrNone e.chain

/-- The output mask; mask bits 12–15 set are a RANGE (R191). -/
def maskOf (v : Nat) : Option (BitVec 12) := if v < 4096 then some (BitVec.ofNat 12 v) else none

def decodeCue (b : List Byte) : Option CueEntry := do
  let enabled ← boolAt b 0
  let trigger ← triggerOf (u8At b 1) (u8At b 2)
  let mode ← cueModeOf (u8At b 3)
  let cancel ← triggerOf (u8At b 4) (u8At b 5)
  let mask ← maskOf (u16At b 6)
  let priority ← finOf 4 (u8At b 13)
  let chain ← finOrNone 16 (u8At b 14)
  return { enabled := enabled, trigger := trigger, mode := mode, cancel := cancel, mask := mask,
           onLevel := u8At b 8, offLevel := u8At b 9, onTime := u8At b 10, offTime := u8At b 11,
           cycles := u8At b 12, priority := priority, chain := chain }

/-- Table 6-3, and a WHILE cue's trigger a level source (R120). -/
def cueInRange (e : CueEntry) : Bool :=
  between 0 255 e.onLevel && between 0 255 e.offLevel && between 1 255 e.onTime && between 1 255 e.offTime
    && between 1 255 e.cycles
    && (e.mode != .whileTrue || (match e.trigger with | some (.level _) => true | _ => false))

def encodeScan (e : ScanEntry) : List Byte := putU8 (scanSourceCode e.source) ++ putU8 e.count
def decodeScan (b : List Byte) : Option ScanEntry := do
  let source ← scanSourceOf (u8At b 0)
  return { source := source, count := u8At b 1 }

/-- The cell number of a source, 0 for a source that is no cell. -/
def cellNumber : Option Quantity → Nat
  | some .cell1 => 1
  | some .cell2 => 2
  | some .cell3 => 3
  | some .cell4 => 4
  | _ => 0

/-- Table 7-3, and no cell above the PROTECT record's cell count (R140). -/
def scanInRange (cellCount : Nat) (e : ScanEntry) : Bool :=
  (e.count == 1 || e.count == 2 || e.count == 4 || e.count == 8)
    && decide (cellNumber e.source ≤ cellCount)

def encodeProtect (r : ProtectRecord) : List Byte :=
  putU8 r.cellCount ++ putU16 r.vCaution ++ putU16 r.vLimit ++ putU16 r.vCutoff ++ putU16 r.hysteresis
    ++ putU16 r.pFall ++ putU16 r.pCut ++ putU16 r.pRise ++ putU24 r.iMax ++ putU16 r.cautionFactor
    ++ putU16 r.limitFactor ++ putU16 r.cutoffFactor ++ putU24 r.iTrip ++ putU8 r.pOc
    ++ putU16 r.quantum ++ putU8 r.budgetPeriod

def decodeProtect (b : List Byte) : Option ProtectRecord :=
  some { cellCount := u8At b 0, vCaution := u16At b 1, vLimit := u16At b 3, vCutoff := u16At b 5,
         hysteresis := u16At b 7, pFall := u16At b 9, pCut := u16At b 11, pRise := u16At b 13,
         iMax := u24At b 15, cautionFactor := u16At b 18, limitFactor := u16At b 20,
         cutoffFactor := u16At b 22, iTrip := u24At b 24, pOc := u8At b 27, quantum := u16At b 28,
         budgetPeriod := u8At b 30 }

/-- Table 7-5, the order of the thresholds, and a cell count not below any cell named in the SCAN list
(R143). -/
def protectInRange (scan : Vector ScanEntry 8) (r : ProtectRecord) : Bool :=
  between 2 4 r.cellCount && between 2000 4500 r.vCaution && between 2000 4500 r.vLimit
    && between 2000 4500 r.vCutoff && between 10 500 r.hysteresis && between 1 1000 r.pFall
    && between 1 5000 r.pCut && between 1 1000 r.pRise && between 1000 100000 r.iMax
    && between 100 1000 r.cautionFactor && between 100 1000 r.limitFactor && between 0 500 r.cutoffFactor
    && between 1000 149999 r.iTrip && between 1 100 r.pOc && between 10 1000 r.quantum
    && between 10 100 r.budgetPeriod
    && decide (r.vLimit < r.vCaution) && decide (r.vCutoff < r.vLimit)
    && scan.toList.all (fun e => decide (cellNumber e.source ≤ r.cellCount))

def encodeBudget (e : BudgetEntry) : List Byte := putU8 e.priority.val ++ putU16 e.floor
def decodeBudget (b : List Byte) : Option BudgetEntry := do
  let priority ← finOf 4 (u8At b 0)
  return { priority := priority, floor := u16At b 1 }

/-- Table 8-2, R158. -/
def budgetInRange (e : BudgetEntry) : Bool := between 0 20000 e.floor

def encodeInput (e : InputEntry) : List Byte := putU8 (levelCode e.active) ++ putU8 e.debounce
def decodeInput (b : List Byte) : Option InputEntry := do
  let active ← levelOf (u8At b 0)
  return { active := active, debounce := u8At b 1 }

/-- Table 9-2, R170. -/
def inputInRange (e : InputEntry) : Bool := between 0 15 e.debounce

def encodeLink (r : LinkRecord) : List Byte :=
  putU16 r.holdTime ++ putU8 r.recovery ++ putU8 r.telemetryInterval ++ putU16 r.neutralWindow
def decodeLink (b : List Byte) : Option LinkRecord :=
  some { holdTime := u16At b 0, recovery := u8At b 2, telemetryInterval := u8At b 3,
         neutralWindow := u16At b 4 }

/-- Table 1-8, and a hold time that is a multiple of 10 ms (R21). -/
def linkInRange (r : LinkRecord) : Bool :=
  between 100 2000 r.holdTime && decide (r.holdTime % 10 = 0) && between 1 10 r.recovery
    && between 0 50 r.telemetryInterval && between 0 200 r.neutralWindow

/-! ## Tables by id (Table 1-9) -/

inductive TableId where
  | func
  | curve
  | band
  | steer
  | geom
  | corner
  | drive
  | winch
  | lamp
  | scene
  | cue
  | scan
  | protect
  | budget
  | input
  | link
  deriving DecidableEq, Repr

def tableIdOf : Nat → Option TableId
  | 1 => some .func
  | 2 => some .curve
  | 3 => some .band
  | 4 => some .steer
  | 5 => some .geom
  | 6 => some .corner
  | 7 => some .drive
  | 8 => some .winch
  | 9 => some .lamp
  | 10 => some .scene
  | 11 => some .cue
  | 12 => some .scan
  | 13 => some .protect
  | 14 => some .budget
  | 15 => some .input
  | 16 => some .link
  | _ => none

/-- The number of entries of a table. -/
def entryCount : TableId → Nat
  | .func => 8
  | .curve => 36
  | .band => 16
  | .steer => 1
  | .geom => 16
  | .corner => 4
  | .drive => 1
  | .winch => 1
  | .lamp => 12
  | .scene => 8
  | .cue => 16
  | .scan => 8
  | .protect => 1
  | .budget => 4
  | .input => 4
  | .link => 1

/-- The length in bytes of an entry (Table 11-8). -/
def entryLength : TableId → Nat
  | .func => 11
  | .curve => 2
  | .band => 4
  | .steer => 15
  | .geom => 4
  | .corner => 13
  | .drive => 22
  | .winch => 31
  | .lamp => 3
  | .scene => 12
  | .cue => 15
  | .scan => 2
  | .protect => 31
  | .budget => 3
  | .input => 2
  | .link => 6

/-- The tables of access class SETUP; the others are RUNTIME (Table 1-9, R22). -/
def setupClass : TableId → Bool
  | .func => false
  | .curve => false
  | .band => false
  | .scene => false
  | .cue => false
  | .steer => true
  | .geom => true
  | .corner => true
  | .drive => true
  | .winch => true
  | .lamp => true
  | .scan => true
  | .protect => true
  | .budget => true
  | .input => true
  | .link => true

/-- The bytes of an entry, as a SETUP_READ returns them (R24). An index outside the table gives no bytes. -/
def entryBytes (t : Tables) (id : TableId) (i : Nat) : List Byte :=
  match id with
  | .func => (t.func[i]?.map encodeFunc).getD []
  | .curve => (t.curve[i]?.map encodeCurve).getD []
  | .band => (t.band[i]?.map encodeBand).getD []
  | .steer => encodeSteer t.steer
  | .geom => (t.geom[i]?.map encodeGeom).getD []
  | .corner => (t.corner[i]?.map encodeCorner).getD []
  | .drive => encodeDrive t.drive
  | .winch => encodeWinch t.winch
  | .lamp => (t.lamp[i]?.map encodeLamp).getD []
  | .scene => (t.scene[i]?.map encodeScene).getD []
  | .cue => (t.cue[i]?.map encodeCue).getD []
  | .scan => (t.scan[i]?.map encodeScan).getD []
  | .protect => encodeProtect t.protect
  | .budget => (t.budget[i]?.map encodeBudget).getD []
  | .input => (t.input[i]?.map encodeInput).getD []
  | .link => encodeLink t.link

/-! ## The image (R180) -/

/-- Every entry of every table, in the order of table id and entry index. -/
def encodeTables (t : Tables) : List Byte :=
  t.func.toList.flatMap encodeFunc ++ t.curve.toList.flatMap encodeCurve
    ++ t.band.toList.flatMap encodeBand ++ encodeSteer t.steer ++ t.geom.toList.flatMap encodeGeom
    ++ t.corner.toList.flatMap encodeCorner ++ encodeDrive t.drive ++ encodeWinch t.winch
    ++ t.lamp.toList.flatMap encodeLamp ++ t.scene.toList.flatMap encodeScene
    ++ t.cue.toList.flatMap encodeCue ++ t.scan.toList.flatMap encodeScan ++ encodeProtect t.protect
    ++ t.budget.toList.flatMap encodeBudget ++ t.input.toList.flatMap encodeInput ++ encodeLink t.link

/-- The image a store writes: the entry bytes, then the CHECK over them. -/
def imageOf (t : Tables) : List Byte :=
  encodeTables t ++ [checkHigh (crc (encodeTables t)), checkLow (crc (encodeTables t))]

/-- The `n` entries of `len` bytes that start at `base`. -/
def decodeEntries {α : Type} (n len base : Nat) (f : List Byte → Option α) (b : List Byte) :
    Option (Vector α n) :=
  collect fun i : Fin n => f ((b.drop (base + i.val * len)).take len)

/-- The tables that the entry bytes of an image hold; none where an enumerated field holds a value not
listed for it. -/
def decodeTables (b : List Byte) : Option Tables := do
  let func ← decodeEntries 8 11 0 decodeFunc b
  let curve ← decodeEntries 36 2 88 decodeCurve b
  let band ← decodeEntries 16 4 160 decodeBand b
  let steer ← decodeSteer (b.drop 224)
  let geom ← decodeEntries 16 4 239 decodeGeom b
  let corner ← decodeEntries 4 13 303 decodeCorner b
  let drive ← decodeDrive (b.drop 355)
  let winch ← decodeWinch (b.drop 377)
  let lamp ← decodeEntries 12 3 408 decodeLamp b
  let scene ← decodeEntries 8 12 444 decodeScene b
  let cue ← decodeEntries 16 15 540 decodeCue b
  let scan ← decodeEntries 8 2 780 decodeScan b
  let protect ← decodeProtect (b.drop 796)
  let budget ← decodeEntries 4 3 827 decodeBudget b
  let input ← decodeEntries 4 2 839 decodeInput b
  let link ← decodeLink (b.drop 847)
  return { func := func, curve := curve, band := band, steer := steer, geom := geom, corner := corner,
           drive := drive, winch := winch, lamp := lamp, scene := scene, cue := cue, scan := scan,
           protect := protect, budget := budget, input := input, link := link }

/-- Every entry passes the validation its owner applies to a SETUP_WRITE, the cross-field checks and the
check between PROTECT and SCAN included (R180). -/
def tablesValid (t : Tables) : Bool :=
  (List.finRange 8).all (fun i => funcInRange i.val t.func[i])
    && t.curve.toList.all curveInRange && t.band.toList.all bandInRange && steerInRange t.steer
    && t.geom.toList.all geomInRange && t.corner.toList.all cornerInRange && driveInRange t.drive
    && winchInRange t.winch && t.lamp.toList.all lampInRange && t.scene.toList.all sceneInRange
    && t.cue.toList.all cueInRange && t.scan.toList.all (scanInRange t.protect.cellCount)
    && protectInRange t.scan t.protect && t.budget.toList.all budgetInRange
    && t.input.toList.all inputInRange && linkInRange t.link

/-- The CHECK kept after the entry bytes. -/
def imageCheck (image : List Byte) : Check :=
  image.getD Config.imageLength 0 ++ image.getD (Config.imageLength + 1) 0

/-- The tables of a valid image; none when the image is invalid (R180). -/
def loadImage (image : List Byte) : Option Tables :=
  if image.length = Config.imageLength + 2
      ∧ imageCheck image = crc (image.take Config.imageLength) then
    (decodeTables (image.take Config.imageLength)).filter tablesValid
  else none

/-! ## The CHANNELS payload (R191) -/

/-- Raw channel value `c`, 0–4095. -/
def rawChannel (p : List Byte) (c : Nat) : Nat :=
  if c % 2 = 0 then u8At p (3 * (c / 2)) * 16 + u8At p (3 * (c / 2) + 1) / 16
  else u8At p (3 * (c / 2) + 1) % 16 * 256 + u8At p (3 * (c / 2) + 2)

/-- The ten raw channel values. -/
def rawChannels (p : List Byte) : Vector Nat 10 := tab fun c => rawChannel p c.val

/-- Receiver-failsafe: bit 0 of payload byte 15. -/
def receiverFailsafe (p : List Byte) : Bool := (p.getD 15 0).getLsbD 0

/-- Reply-permitted: bit 1 of payload byte 15. -/
def replyPermitted (p : List Byte) : Bool := (p.getD 15 0).getLsbD 1

end Sys2Proof.Machine
end

