-- ==== Sys2Proof/Machine/Flags.lean ====
section
/-! DEFINITION. INL's sticky flags (R174 to R178): setting, reporting, clearing, and what a reset does to
them. -/

namespace Sys2Proof.Machine

/-- The bit of a flag in the STATUS record (Table 11-9). -/
def flagIndex : Flag → Fin 15
  | .resetPower => 0
  | .resetSoft => 1
  | .resetBrown => 2
  | .imageDefaulted => 3
  | .storeDone => 4
  | .storeFail => 5
  | .failsafeEntered => 6
  | .throttleNotNeutral => 7
  | .protChanged => 8
  | .winchFault => 9
  | .lineEnd => 10
  | .edge n => ⟨11 + n.val, by omega⟩

/-- Set a flag; a flag of the reported set that is set again leaves the set (R174, R176). -/
def raiseFlag (f : Flag) (x : Inputs) : Inputs :=
  { x with flags := x.flags.set (flagIndex f).val true
           reported := x.reported.map fun r => r.set (flagIndex f).val false }

/-- Set a flag of the part. -/
def setFlag (f : Flag) (s : State) : State := { s with inputs := raiseFlag f s.inputs }

/-- Set each flag of a list. -/
def setFlags (fs : List Flag) (s : State) : State :=
  { s with inputs := fs.foldl (fun x f => raiseFlag f x) s.inputs }

/-- Any flag is set: flags-pending (R174). -/
def flagsPending (x : Inputs) : Bool := x.flags.toList.any id

/-- The logical value of line `n`, given its INPUT entry: active while the accepted level is the entry's
active level (R169). -/
def lineActive (x : Inputs) (t : Vector InputEntry 4) (n : Fin 4) : Bool :=
  x.lines[n].level == t[n].active

/-- The edge arm of line `n` after a STATUS completion that cleared the flags of `r` (R175). -/
def armAfterClearing (r : Vector Bool 15) (active : Bool) (n : Fin 4) (l : Line) : Line :=
  if r[flagIndex (.edge n)] then { l with armed := !active } else l

/-- The STATUS answer is complete: clear the flags of the reported set, settle the edge arms, discard the
set (R177). -/
def clearReported (t : Vector InputEntry 4) (x : Inputs) : Inputs :=
  match x.reported with
  | none => x
  | some r =>
    { x with flags := tab fun i => x.flags[i] && !r[i]
             lines := tab fun n => armAfterClearing r (lineActive x t n) n x.lines[n]
             reported := none }

/-- The kinds of reset. -/
inductive ResetKind where
  | powerOn
  | brownOut
  | soft
  deriving DecidableEq, Repr

/-- The sticky flags after a reset (R178). -/
def flagsAfterReset (k : ResetKind) (f : Vector Bool 15) : Vector Bool 15 :=
  tab fun i =>
    if i = flagIndex .resetPower then (match k with | .powerOn => true | _ => f[i])
    else if i = flagIndex .resetSoft then
      (match k with | .powerOn => false | .brownOut => f[i] | .soft => true)
    else if i = flagIndex .resetBrown then
      (match k with | .powerOn => false | .brownOut => true | .soft => f[i])
    else false

end Sys2Proof.Machine
end

