-- ==== Sys2Proof/Machine/Ops.lean ====
section
/-! DEFINITION. Operations several blocks share: rounding (R1), the filing of a claim (R157), the reading of a
grant, the places of the measured values, and the quantities other blocks read from an owner (Table 0-2). -/

namespace Sys2Proof.Machine

/-! ## Arithmetic (R1) -/

/-- The value moved into a range. -/
def clampTo (lo hi v : Int) : Int := max lo (min hi v)

/-- A quotient rounded to the nearest whole number, an exact half away from zero (R1). -/
def roundDiv (n d : Int) : Int :=
  if 0 ≤ n then (2 * n + d).tdiv (2 * d) else -((2 * (-n) + d).tdiv (2 * d))

/-! ## Claims (R156, R157) -/

/-- File a claim update for claimant `c` when the evaluated demand differs from the filed one. -/
def fileClaim (c : Fin 4) (filed evaluated : Nat) (b : Budget) : Budget :=
  if evaluated = filed then b else { b with demand := b.demand.set c.val evaluated }

/-! ## Measured values (Table 7-2) -/

/-- The place of a quantity among the measured values. -/
def quantityIndex : Quantity → Fin 8
  | .cell1 => 0
  | .cell2 => 1
  | .cell3 => 2
  | .cell4 => 3
  | .packV => 4
  | .packI => 5
  | .winchI => 6
  | .temp => 7

/-- The range of a quantity. -/
def quantityRange : Quantity → Int × Int
  | .cell1 => (0, 5000)
  | .cell2 => (0, 5000)
  | .cell3 => (0, 5000)
  | .cell4 => (0, 5000)
  | .packV => (0, 20000)
  | .packI => (0, 150000)
  | .winchI => (0, 50000)
  | .temp => (-40, 150)

/-- A conversion result saturated to its source's range (R139). -/
def saturate (q : Quantity) (v : Int) : Int := clampTo (quantityRange q).1 (quantityRange q).2 v

/-- The voltage of the pack's positive tap above TAP0: the tap that a cell count of 2 to 4 names (R139, R143). -/
def packTap (cellCount : Nat) (x : SenseInputs) : Int :=
  match cellCount with
  | 2 => x.tap2
  | 3 => x.tap3
  | _ => x.tap4

/-- The input of a source (Table 7-2): a cell is its tap above the one below it, PACK_V is taken at the tap that
the cell count in force names, PACK_I at PSH±, WINCH_I at WSH±, TEMP at TSENSE (R139). -/
def sourceInput (cellCount : Nat) (x : SenseInputs) : Quantity → Int
  | .cell1 => x.tap1
  | .cell2 => x.tap2 - x.tap1
  | .cell3 => x.tap3 - x.tap2
  | .cell4 => x.tap4 - x.tap3
  | .packV => packTap cellCount x
  | .packI => x.packShunt
  | .winchI => x.winchShunt
  | .temp => x.tsense

/-- The measured value of a quantity. -/
def measured (s : State) (q : Quantity) : Int := s.scanner.values[quantityIndex q]

/-! ## State read across blocks (Table 0-2) -/

/-- Line `n` is active (R169). -/
def inputActive (s : State) (n : Fin 4) : Bool := lineActive s.inputs s.tables.input n

/-- The grant of a claimant, as the claim table holds it (R164). -/
def grantOf (s : State) (c : Fin 4) : Nat := s.budget.grant[c]

/-- The throttle of the function record is within the neutral window (R15, R19, R151). -/
def throttleNeutral (s : State) : Bool := decide (s.record.throttle.natAbs ≤ s.tables.link.neutralWindow)

/-- A store is in flight (R181's chapter, Table 10-1). -/
def storeInFlight (x : Store) : Bool :=
  match x.state with
  | .idle => false
  | .erasing _ => true
  | .programming _ => true

end Sys2Proof.Machine
end

