-- ==== Sys2Proof/Machine/Lights.lean ====
section
/-! DEFINITION. The light controller (chapter 6): trigger sources, the active cue list, composition, dimming
and the cue tick. -/

namespace Sys2Proof.Machine

/-! ## Trigger sources -/

/-- The place of a level source among the kept values. -/
def keptIndex : LevelSource → Fin 33
  | .reverse => 0
  | .braking => 1
  | .turnLeft => 2
  | .turnRight => 3
  | .aligning => 4
  | .winchMoving => 5
  | .winchFree => 6
  | .winchFault => 7
  | .protCaution => 8
  | .protLimit => 9
  | .protCutoff => 10
  | .failsafe => 11
  | .setup => 12
  | .aux1Band b => ⟨13 + b.val, by omega⟩
  | .aux2Band b => ⟨21 + b.val, by omega⟩
  | .inLevel n => ⟨29 + n.val, by omega⟩

/-- The kept value of a level source. -/
def keptValue (k : Vector Bool 33) (l : LevelSource) : Bool := k[keptIndex l]

/-- The kept values after the deliveries of a list, in order. -/
def keptAfter : List (LevelSource × Bool) → Vector Bool 33 → Vector Bool 33
  | [], k => k
  | (l, v) :: rest, k => keptAfter rest (k.set (keptIndex l).val v)

/-- One event delivered to LTC: new values of level sources, and a firing (R121, R123). -/
structure LightMsg where
  sets : List (LevelSource × Bool)
  fired : Option EdgeSource
  deriving DecidableEq, Repr

/-- A level source that passes from false to true rises (R121). -/
def rises (old new : Vector Bool 33) (l : LevelSource) : Bool := !keptValue old l && keptValue new l

/-- A level source that passes from true to false falls (R121). -/
def falls (old new : Vector Bool 33) (l : LevelSource) : Bool := keptValue old l && !keptValue new l

/-- A source rises or fires at an event. -/
def happens (old new : Vector Bool 33) (fired : Option EdgeSource) : Option Trigger → Bool
  | none => false
  | some (.level l) => rises old new l
  | some (.edge e) => decide (fired = some e)

/-! ## The active cue list -/

/-- The active cue list during an event: the list, the cues whose instances this event started, and whether
it has added, removed or changed an instance. -/
structure Roster where
  active : List CueInstance
  started : List (Fin 16)
  changed : Bool
  deriving DecidableEq, Repr

/-- Cue `k` has an instance in the list. -/
def isActive (k : Fin 16) (l : List CueInstance) : Bool := l.any fun i => i.cue == k

/-- The victim of R126: the instance of lowest priority, the oldest among several. -/
def victimOf (cues : Vector CueEntry 16) : List CueInstance → Option CueInstance
  | [] => none
  | i :: rest =>
    match victimOf cues rest with
    | none => some i
    | some v => if cues[i.cue].priority ≤ cues[v.cue].priority then some i else some v

/-- A new instance of cue `k` (R127). -/
def newInstance (cues : Vector CueEntry 16) (k : Fin 16) : CueInstance :=
  { cue := k, phaseOn := true, timeLeft := cues[k].onTime, cyclesLeft := cues[k].cycles }

/-- The capacity check (R126): append with room, else evict a victim of lower priority, else drop. -/
def admitCue (cues : Vector CueEntry 16) (k : Fin 16) (r : Roster) : Roster :=
  if r.active.length < Config.maxInstances then
    { active := r.active ++ [newInstance cues k], started := k :: r.started, changed := true }
  else
    match victimOf cues r.active with
    | none => r
    | some v =>
      if cues[v.cue].priority < cues[k].priority then
        { active := r.active.filter (fun i => i.cue != v.cue) ++ [newInstance cues k]
          started := k :: r.started, changed := true }
      else r

/-- The kept value of a cue's trigger source, false for one that is no level source. -/
def triggerTrue (kept : Vector Bool 33) (e : CueEntry) : Bool :=
  match e.trigger with
  | some (.level l) => keptValue kept l
  | _ => false

/-- A start request for cue `k` (R125); `chained` when it arrives by chaining. -/
def startCue (cues : Vector CueEntry 16) (kept : Vector Bool 33) (chained : Bool) (k : Fin 16)
    (r : Roster) : Roster :=
  if !cues[k].enabled then r
  else if isActive k r.active then r
  else if chained && cues[k].mode == .whileTrue && !triggerTrue kept cues[k] then r
  else admitCue cues k r

/-- The start requests of a list of cues, each taken whole before the next (R124). -/
def startCues (cues : Vector CueEntry 16) (kept : Vector Bool 33) : List (Fin 16) → Roster → Roster
  | [], r => r
  | k :: ks, r => startCues cues kept ks (startCue cues kept false k r)

/-- An instance this event removes (R124, step 1): a WHILE instance whose trigger source falls, a LATCH
instance whose cancel source rises or fires. -/
def removedAt (cues : Vector CueEntry 16) (old new : Vector Bool 33) (fired : Option EdgeSource)
    (i : CueInstance) : Bool :=
  match cues[i.cue].mode with
  | .whileTrue =>
    (match cues[i.cue].trigger with
     | some (.level l) => falls old new l
     | _ => false)
  | .latch => happens old new fired cues[i.cue].cancel
  | .oneShot => false

/-- A LATCH cue whose cancel source is its trigger source, with an instance active: an event of that source
removes the instance and makes no start request (R125). -/
def togglesOff (cues : Vector CueEntry 16) (active : List CueInstance) (k : Fin 16) : Bool :=
  cues[k].mode == .latch && cues[k].cancel == cues[k].trigger && isActive k active

/-- The cues that receive a start request at an event (R124, step 2), in ascending index. -/
def requestedAt (cues : Vector CueEntry 16) (old new : Vector Bool 33) (fired : Option EdgeSource)
    (active : List CueInstance) : List (Fin 16) :=
  (List.finRange 16).filter fun k =>
    cues[k].enabled && happens old new fired cues[k].trigger && !togglesOff cues active k

/-- Steps 1 and 2 of R124. -/
def rosterAt (cues : Vector CueEntry 16) (old new : Vector Bool 33) (fired : Option EdgeSource)
    (active : List CueInstance) : Roster :=
  startCues cues new (requestedAt cues old new fired active)
    { active := active.filter fun i => !removedAt cues old new fired i, started := [],
      changed := active.any (removedAt cues old new fired) }

/-! ## Composition (R132 to R134) -/

/-- The winner of output `o`: of the instances whose mask includes it, the one of highest priority, and
among several the one nearest the tail. -/
def winnerOf (cues : Vector CueEntry 16) (o : Fin 12) : List CueInstance → Option CueInstance
  | [] => none
  | i :: rest =>
    match winnerOf cues o rest with
    | none => if cues[i.cue].mask.getLsbD o.val then some i else none
    | some v =>
      if cues[i.cue].mask.getLsbD o.val && decide (cues[v.cue].priority < cues[i.cue].priority) then some i
      else some v

/-- The composed level of output `o` (R132). -/
def composedLevel (t : Tables) (scene : Fin 8) (active : List CueInstance) (o : Fin 12) : Nat :=
  if !t.lamp[o].enabled then 0
  else
    match winnerOf t.cue o active with
    | none => t.scene[scene][o]
    | some i => if i.phaseOn then t.cue[i.cue].onLevel else t.cue[i.cue].offLevel

/-- The LIGHTS demand of a level buffer (R133). -/
def lightsDemand (lamp : Vector LampEntry 12) (levels : Vector Nat 12) : Nat :=
  ((List.finRange 12).map fun o =>
    if lamp[o].enabled then levels[o] * lamp[o].ratedCurrent / 255 else 0).sum

/-- The dimming factor (R134). -/
def dimmingFor (demand grant : Nat) : Nat :=
  if demand = 0 then 1000 else min 1000 (grant * 1000 / demand)

/-- One composition (R132 to R135): the level buffer, the demand, the grant used, the dimming factor and the
output levels. -/
def compose (t : Tables) (grant : Nat) (x : Lights) : Lights :=
  let levels := tab fun o => composedLevel t x.scene x.active o
  let demand := lightsDemand t.lamp levels
  let f := dimmingFor demand grant
  { x with levels := levels
           outputs := tab fun o => levels[o] * f / 1000
           dimming := f
           filed := demand
           grantUsed := grant }

/-! ## Events (R124) -/

/-- LTC after an event, the composition included when `composes` asks for one or the list has changed. -/
def lightsEvent (t : Tables) (grant : Nat) (composes : Bool) (m : LightMsg) (x : Lights) : Lights :=
  let new := keptAfter m.sets x.kept
  let r := rosterAt t.cue x.kept new m.fired x.active
  let y := { x with kept := new, active := r.active }
  if composes || r.changed then compose t grant y else y

/-- Put LTC's new state in place and file its demand when it has changed (R133). -/
def putLights (x : Lights) (s : State) : State :=
  { s with lights := x, budget := fileClaim 3 s.lights.filed x.filed s.budget }

/-- One event delivered to LTC. -/
def lightEvent (m : LightMsg) (s : State) : State :=
  putLights (lightsEvent s.tables (grantOf s 3) false m s.lights) s

/-- Events delivered to LTC one after another. -/
def lightEvents (ms : List LightMsg) (s : State) : State := ms.foldl (fun s m => lightEvent m s) s

/-- A composition with no other change: an accepted LAMP or SCENE write (R118, R119). -/
def recompose (s : State) : State := putLights (compose s.tables (grantOf s 3) s.lights) s

/-! ## The function update (R119, R122) -/

/-- The sources LTC evaluates from the delivered record. -/
def updateSources (threshold : Nat) (r : FunctionRecord) : List (LevelSource × Bool) :=
  [(.turnLeft, decide (r.steer < -(threshold : Int))), (.turnRight, decide ((threshold : Int) < r.steer))]
    ++ (List.finRange 8).map (fun b => (.aux1Band b, r.aux1Band == some b))
    ++ (List.finRange 8).map (fun b => (.aux2Band b, r.aux2Band == some b))

/-- The scene a LIGHT_SEL band selects (R119). -/
def sceneOf (band : Option (Fin 8)) : Fin 8 := band.getD 0

/-- LTC takes a function update: the scene in force and the four kinds of source, as one event. -/
def lightsUpdate (r : FunctionRecord) (s : State) : State :=
  let x := { s.lights with scene := sceneOf r.lightSelBand }
  putLights
    (lightsEvent s.tables (grantOf s 3) (s.lights.scene != sceneOf r.lightSelBand)
      { sets := updateSources s.tables.steer.indicatorThreshold r, fired := none } x) s

/-! ## Writing cues (R131, R138) -/

/-- An accepted write of CUE entry `k`, with the new table in force: its instance is removed, a WHILE cue
whose source is true receives a start request, and LTC recomposes. -/
def lightsCueWritten (t : Tables) (grant : Nat) (k : Fin 16) (x : Lights) : Lights :=
  let r : Roster := { active := x.active.filter fun i => i.cue != k, started := [], changed := true }
  let r' :=
    if t.cue[k].mode == .whileTrue && triggerTrue x.kept t.cue[k] then startCue t.cue x.kept false k r
    else r
  compose t grant { x with active := r'.active }

/-- RESTORE_DEFAULTS at LTC, with the default tables in force: every instance is removed, each WHILE cue
whose source is true receives a start request, one composition ends the event (R138). -/
def lightsRestored (t : Tables) (grant : Nat) (x : Lights) : Lights :=
  let ks := (List.finRange 16).filter fun k =>
    t.cue[k].mode == .whileTrue && triggerTrue x.kept t.cue[k]
  let r := startCues t.cue x.kept ks { active := [], started := [], changed := true }
  compose t grant { x with active := r.active }

/-! ## The cue tick (R128, R129) -/

/-- The instance of cue `k` in the list replaced. -/
def replaceInstance (k : Fin 16) (i : CueInstance) (l : List CueInstance) : List CueInstance :=
  l.map fun j => if j.cue == k then i else j

/-- The completion of the ONE_SHOT instance of cue `k` (R129): it leaves the list, CUE_DONE(k) fires, LATCH
instances cancelled by it go, the chained cue and then the cues triggered by it receive start requests. -/
def completeCue (cues : Vector CueEntry 16) (kept : Vector Bool 33) (k : Fin 16) (r : Roster) : Roster :=
  let fired := some (EdgeSource.cueDone k)
  let without := r.active.filter fun i => i.cue != k
  let requests := requestedAt cues kept kept fired without
  let r1 : Roster :=
    { r with active := without.filter fun i => !removedAt cues kept kept fired i, changed := true }
  let r2 :=
    match cues[k].chain with
    | some j => startCue cues kept true j r1
    | none => r1
  startCues cues kept requests r2

/-- One instance counted down (R128). -/
def countDown (cues : Vector CueEntry 16) (kept : Vector Bool 33) (i : CueInstance) (r : Roster) : Roster :=
  let k := i.cue
  let put (j : CueInstance) (ch : Bool) : Roster :=
    { r with active := replaceInstance k j r.active, changed := r.changed || ch }
  if i.timeLeft ≤ 1 then
    if i.phaseOn then put { i with phaseOn := false, timeLeft := cues[k].offTime } true
    else
      match cues[k].mode with
      | .oneShot =>
        if i.cyclesLeft ≤ 1 then completeCue cues kept k r
        else put { i with phaseOn := true, timeLeft := cues[k].onTime, cyclesLeft := i.cyclesLeft - 1 } true
      | _ => put { i with phaseOn := true, timeLeft := cues[k].onTime } true
  else put { i with timeLeft := i.timeLeft - 1 } false

/-- The walk over the cues that had an instance when the tick began: one whose instance has gone, or was
started during the tick, is passed over. -/
def walkCues (cues : Vector CueEntry 16) (kept : Vector Bool 33) : List (Fin 16) → Roster → Roster
  | [], r => r
  | k :: ks, r =>
    if k ∈ r.started then walkCues cues kept ks r
    else
      match r.active.find? fun i => i.cue == k with
      | none => walkCues cues kept ks r
      | some i => walkCues cues kept ks (countDown cues kept i r)

/-- LTC after a cue tick (R128, R135). -/
def lightsTick (t : Tables) (grant : Nat) (x : Lights) : Lights :=
  let r := walkCues t.cue x.kept (x.active.map (·.cue)) { active := x.active, started := [], changed := false }
  let y := { x with active := r.active }
  if r.changed || grant != x.grantUsed then compose t grant y else { y with grantUsed := grant }

/-! ## Start-up (R136) -/

/-- The level sources' present values, read from their owners at load complete; the sources of the function
record are false, since it holds its reset values. -/
def presentSources (s : State) : List (LevelSource × Bool) :=
  [(.reverse, s.drive.reverse), (.braking, s.drive.braking),
   (.aligning, s.steering.status == .align),
   (.winchMoving, s.winch.state == .haulIn || s.winch.state == .payOut || s.winch.state == .rampDown),
   (.winchFree, s.winch.state == .clutchOut || s.winch.state == .freespool || s.winch.state == .clutchIn),
   (.winchFault, s.winch.state == .fault),
   (.protCaution, s.protection.state != .normal),
   (.protLimit, s.protection.state == .limit || s.protection.state == .cutoff),
   (.protCutoff, s.protection.state == .cutoff),
   (.failsafe, s.link.run == .failsafe), (.setup, s.link.run == .setup)]
    ++ (List.finRange 4).map (fun n => (.inLevel n, inputActive s n))

/-- LTC at load complete: the cue tick and the PWM cycles start, the sources that are true rise as one event,
and the composition of scene 0 ends it. -/
def lightsStartUp (s : State) : State :=
  putLights
    (lightsEvent s.tables (grantOf s 3) true { sets := presentSources s, fired := none }
      { s.lights with ticking := true, pwm := true }) s

/-! ## Outputs (R117) -/

/-- The numerator over 255 of the part of its 1 ms cycle for which output `o` is high: its output level, and
0 while the PWM cycles do not run. -/
def lampHigh (x : Lights) (o : Fin 12) : Nat := if x.pwm then x.outputs[o] else 0

end Sys2Proof.Machine
end

