-- ==== Sys2Proof/Machine/Steering.lean ====
section
/-! DEFINITION. The steering controller (chapter 3): the steering computation, mode change through ALIGN, the
slew and the pulse widths, and the STEER claim. Corners are FL 0, FR 1, RL 2, RR 3. -/

namespace Sys2Proof.Machine

/-! ## The steering computation (R50 to R53) -/

/-- The rate factor r (R50). -/
def rateFactor (r : FunctionRecord) : Int :=
  if r.rateUnsourced then 1000 else 600 + (r.rate * 400).tdiv 1000

/-- The scaled steer s' (R50). -/
def scaledSteer (r : FunctionRecord) : Int := (r.steer * rateFactor r).tdiv 1000

/-- The index of a mode (Table 3-1). -/
def modeIndex : SteerMode → Fin 4
  | .front => 0
  | .rear => 1
  | .counter => 2
  | .crab => 3

/-- The GEOM entry of a corner in a mode: index mode × 4 + corner (R47). -/
def geomEntry (g : Vector GeomEntry 16) (m : SteerMode) (c : Fin 4) : GeomEntry :=
  g[(⟨(modeIndex m).val * 4 + c.val, by omega⟩ : Fin 16)]

/-- FL and RL are the left corners. -/
def leftCorner (c : Fin 4) : Bool := c == 0 || c == 2

/-- The corner is on the outside of the turn (R52). -/
def outerCorner (s : Int) (c : Fin 4) : Bool :=
  if 0 < s then leftCorner c else if s < 0 then !leftCorner c else false

/-- A corner's share (R51). -/
def cornerShare (e : GeomEntry) (s : Int) : Int := (s * e.gain).tdiv 1000

/-- A corner's target (R51 to R53). -/
def cornerTarget (g : Vector GeomEntry 16) (m : SteerMode) (s : Int) (c : Fin 4) : Int :=
  let e := geomEntry g m c
  let k := cornerShare e s
  if outerCorner s c then k - (k * (e.ackermann : Int) * (s.natAbs : Int)).tdiv 1000000 else k

/-! ## Slew and width (R55 to R58) -/

/-- The effective step from the slew step, the grant G and the filed demand D (R55). -/
def effectiveStep (slew grant demand : Nat) : Nat :=
  if 0 < demand ∧ grant < demand then max 1 (slew * grant / demand) else slew

/-- A position moved toward its target by a step (R56). -/
def slewToward (step : Nat) (a t : Int) : Int :=
  if (t - a).natAbs ≤ step then t else if a < t then a + step else a - step

/-- The width of a position, rounded, then clamped (R57, R58). -/
def cornerWidth (e : CornerEntry) (a : Int) : Int :=
  let u := if e.reverse then -a else a
  let q := if 0 ≤ u then roundDiv (u * e.throwPos) 1000 else roundDiv (u * e.throwNeg) 1000
  clampTo e.lowLimit e.highLimit (e.centre + q)

/-! ## The STEER claim (R59) -/

/-- The moving indication (Table 3-2). -/
def cornerMoving (c : Corner) : Bool := c.position != c.target

/-- STC's demand (R59). -/
def steerDemand (r : SteerRecord) (x : Steering) : Nat :=
  if x.active then
    (x.corners.toList.map fun c => if cornerMoving c then r.movingCurrent else r.holdingCurrent).sum
  else 0

/-- Evaluate the demand and keep it as the filed demand. -/
def steerFile (r : SteerRecord) (x : Steering) : Steering := { x with filed := steerDemand r x }

/-- Put STC's new state in place, file its claim when the demand has changed, and deliver its change of
ALIGNING to LTC (R121). -/
def putSteering (x : Steering) (s : State) : State :=
  lightEvents
    (if s.steering.status = x.status then []
     else [{ sets := [(.aligning, x.status == .align)], fired := none }])
    { s with steering := x, budget := fileClaim 0 s.steering.filed x.filed s.budget }

/-! ## Function update (R49, R60 to R63) -/

/-- New targets for the four corners. -/
def withTargets (f : Fin 4 → Int) (x : Steering) : Steering :=
  { x with corners := tab fun c => { x.corners[c] with target := f c } }

/-- The steering computation for the mode in force, from the stored record (R53). -/
def steerCompute (t : Tables) (x : Steering) : Steering :=
  withTargets (fun c => cornerTarget t.geom x.mode (scaledSteer x.record) c) x

/-- Corner pulse activation (R60), at the first function update in whatever run state it falls (log entry 19). -/
def activateCorners (t : Tables) (x : Steering) : Steering :=
  if x.active then x
  else { x with active := true
                corners := tab fun c => { x.corners[c] with width := cornerWidth t.corner[c] 0 } }

/-- The mode request taken from a STEER_SEL band (R61). -/
def requestedFor (map : Vector (Option SteerMode) 8) (band : Option (Fin 8)) (present : SteerMode) :
    SteerMode :=
  match band with
  | none => present
  | some b => map[b].getD present

/-- STC takes a function update (R49). -/
def steeringUpdate (t : Tables) (r : FunctionRecord) (x : Steering) : Steering :=
  let x1 := activateCorners t { x with record := r }
  let x2 := { x1 with requested := requestedFor t.steer.modeMap r.steerSelBand x1.requested }
  let x3 :=
    match x2.status with
    | .align => x2
    | .steady =>
      if x2.requested = x2.mode then steerCompute t x2
      else withTargets (fun _ => 0) { x2 with status := .align, modeHeld := false }
  steerFile t.steer x3

/-! ## Servo-period start (R54, R64, R65) -/

/-- Every corner is at position 0. -/
def allCentred (x : Steering) : Bool := x.corners.toList.all fun c => c.position == 0

/-- One corner moved and its width made. -/
def moveCorner (e : CornerEntry) (grant demand : Nat) (c : Corner) : Corner :=
  let a := slewToward (effectiveStep e.slewStep grant demand) c.position c.target
  { c with position := a, width := cornerWidth e a }

/-- The completion check of ALIGN (R64, R65). -/
def alignCheck (t : Tables) (w : WinchState) (x : Steering) : Steering :=
  match x.status with
  | .steady => x
  | .align =>
    if allCentred x then
      if w = .haulIn then { x with modeHeld := true }
      else steerCompute t { x with mode := x.requested, status := .steady, modeHeld := false }
    else x

/-- STC takes a servo-period start (R54). R69 says that the first pulses after the first function update are centre
widths, and R54 and R72 make them from positions that have just moved toward the targets of that update: that the
model follows R54 and R72, so that the first pulse can be off centre, is its choice (log entry 20). -/
def steeringPeriod (t : Tables) (grant : Nat) (w : WinchState) (x : Steering) : Steering :=
  if x.active then
    steerFile t.steer
      (alignCheck t w
        { x with corners := tab fun c => moveCorner t.corner[c] grant x.filed x.corners[c] })
  else x

end Sys2Proof.Machine
end

