-- ==== Sys2Proof/Machine/Drive.lean ====
section
/-! DEFINITION. Drive and pulse outputs (chapter 4): the throttle path, its trigger sources, the auxiliary
output and the pulse generator. Claimant 1 is DRIVE. -/

namespace Sys2Proof.Machine

/-! ## The throttle path (R76 to R81) -/

/-- Limits and LIMIT-state cap (R76). -/
def throttleT1 (r : DriveRecord) (p : ProtState) (t : Int) : Int :=
  let a :=
    if 0 < t then (t * r.forwardLimit).tdiv 1000
    else if t < 0 then (t * r.reverseLimit).tdiv 1000
    else 0
  if p = .limit ∧ (r.limitForwardCap : Int) < a then r.limitForwardCap else a

/-- The throttle is zeroed: outside RUN, or in CUTOFF (R78). -/
def driveZeroed (rs : RunState) (p : ProtState) : Bool := rs != .run || p == .cutoff

/-- The DRIVE demand (R77, R78). -/
def driveDemand (r : DriveRecord) (zeroed : Bool) (t1 : Int) : Nat :=
  if zeroed then 0 else t1.natAbs * r.ratedCurrent / 1000

/-- The ceiling C (R78). -/
def driveCeiling (r : DriveRecord) (grant : Nat) : Nat := min 1000 (grant * 1000 / r.ratedCurrent)

/-- t2 (R78). -/
def throttleT2 (r : DriveRecord) (zeroed : Bool) (grant : Nat) (t1 : Int) : Int :=
  if zeroed then 0 else clampTo (-(driveCeiling r grant : Int)) (driveCeiling r grant) t1

/-- The S4 width (R79). -/
def throttleWidth (r : DriveRecord) (t2 : Int) : Int :=
  r.neutral + (if 0 < t2 then roundDiv (t2 * r.forwardThrow) 1000 else roundDiv (t2 * r.reverseThrow) 1000)

/-- REVERSE (R80). -/
def reverseOf (r : DriveRecord) (t2 : Int) : Bool := decide (t2 < -(r.reverseThreshold : Int))

/-- A throttle fall from the previous t2 to the new one (R81). -/
def throttleFall (r : DriveRecord) (previous new : Int) : Bool :=
  (new == 0 || new.sign == previous.sign) && decide (new.natAbs + r.brakeDelta ≤ previous.natAbs)

/-- One computation of the throttle path, whole (R75). -/
def throttlePath (r : DriveRecord) (rs : RunState) (p : ProtState) (grant : Nat) (x : Drive) : Drive :=
  let z := driveZeroed rs p
  let t1 := throttleT1 r p x.record.throttle
  let t2 := throttleT2 r z grant t1
  let fall := throttleFall r x.t2 t2
  { x with t1 := t1
           t2 := t2
           grantUsed := grant
           filed := driveDemand r z t1
           s4Width := throttleWidth r t2
           reverse := reverseOf r t2
           braking := x.braking || fall
           brakingTimer := if fall then startTimer r.brakeHold x.brakingTimer else x.brakingTimer }

/-- The deliveries of REVERSE and of BRAKING that LTC receives, each a change of its own, in that order. -/
def driveMsgs (old new : Drive) : List LightMsg :=
  (if old.reverse = new.reverse then [] else [{ sets := [(.reverse, new.reverse)], fired := none }])
    ++ (if old.braking = new.braking then [] else [{ sets := [(.braking, new.braking)], fired := none }])

/-- Put DRV's new state in place, file its claim when the demand has changed, deliver its sources. -/
def putDrive (x : Drive) (s : State) : State :=
  lightEvents (driveMsgs s.drive x)
    { s with drive := x, budget := fileClaim 1 s.drive.filed x.filed s.budget }

/-- DRV runs the throttle path on everything as it stands (R75). -/
def driveCompute (s : State) : State :=
  putDrive (throttlePath s.tables.drive s.link.run s.protection.state (grantOf s 1) s.drive) s

/-! ## Function update (R75, R83) -/

/-- The S6 width (R83). -/
def auxWidth (v : Int) : Int := 1500 + roundDiv (v * 500) 1000

/-- DRV takes a function update. -/
def driveUpdate (r : FunctionRecord) (s : State) : State :=
  putDrive
    { throttlePath s.tables.drive s.link.run s.protection.state (grantOf s 1) { s.drive with record := r } with
      s6Active := true, s6Width := auxWidth r.aux2 } s

/-! ## The pulse generator (R71, R72) -/

/-- The output is ACTIVE (R73): S0–S3 by the corner pulse state, S4 to S6 each by its own. -/
def outputActive (s : State) (o : Fin 7) : Bool :=
  if o.val < 4 then s.steering.active
  else if o = 4 then s.drive.s4Active
  else if o = 5 then s.drive.s5Active
  else s.drive.s6Active

/-- The present width of an output, as its owner holds it; 0 while the output is OFF. -/
def presentWidth (s : State) (o : Fin 7) : Int :=
  if outputActive s o then
    if h : o.val < 4 then s.steering.corners[(⟨o.val, h⟩ : Fin 4)].width
    else if o = 4 then s.drive.s4Width
    else if o = 5 then s.winch.clutchWidth
    else s.drive.s6Width
  else 0

/-- Every ACTIVE output begins one pulse of its present width; every OFF output stays low (R72). -/
def beginPulses (s : State) : State :=
  { s with drive := { s.drive with pulses := tab fun o => presentWidth s o } }

/-- The period timer is started with the servo period of the DRIVE record in force (R71). -/
def startPeriod (s : State) : State :=
  { s with drive := { s.drive with period := startTimer s.tables.drive.servoPeriod s.drive.period } }

end Sys2Proof.Machine
end

