-- ==== Sys2Proof/Machine/Winch.lean ====
section
/-! DEFINITION. The winch controller (chapter 5): target duty and the WINCH claim, starting and stopping,
line count and homing, the clutch handshake, faults. Claimant 2 is WINCH. -/

namespace Sys2Proof.Machine

/-- What WCH reads of the rest of the part while it handles one event: the WINCH record in force, the run
state, the protection state, its grant, and the accepted levels of the home and the clutch switch. -/
structure WinchContext where
  record : WinchRecord
  run : RunState
  prot : ProtState
  grant : Nat
  homeActive : Bool
  engaged : Bool
  deriving DecidableEq, Repr

def winchContext (s : State) : WinchContext :=
  { record := s.tables.winch, run := s.link.run, prot := s.protection.state, grant := grantOf s 2,
    homeActive := inputActive s 0, engaged := inputActive s 1 }

/-- WCH in the course of one event: its state, and what it has delivered to LTC and to INL so far. -/
structure WinchStep where
  winch : Winch
  msgs : List LightMsg
  flags : List Flag
  deriving DecidableEq, Repr

/-- An event at WCH begins with nothing delivered. -/
def winchBegin (w : Winch) : WinchStep := { winch := w, msgs := [], flags := [] }

/-- WCH's state changed, with nothing delivered. -/
def onWinch (f : Winch → Winch) (x : WinchStep) : WinchStep := { x with winch := f x.winch }

/-- Put WCH's new state in place, file its claim when the demand has changed, deliver to INL and LTC. -/
def putWinch (x : WinchStep) (s : State) : State :=
  lightEvents x.msgs
    (setFlags x.flags
      { s with winch := x.winch, budget := fileClaim 2 s.winch.filed x.winch.filed s.budget })

/-! ## States and outputs (Table 5-2, R86, R87) -/

/-- HAUL_IN or PAY_OUT. -/
def hauling : WinchState → Bool
  | .haulIn => true
  | .payOut => true
  | _ => false

/-- The group of states in which WINCH_MOVING is true (R112). -/
def winchMoves : WinchState → Bool
  | .haulIn => true
  | .payOut => true
  | .rampDown => true
  | _ => false

/-- The group of states in which WINCH_FREE is true (R112). -/
def winchFrees : WinchState → Bool
  | .clutchOut => true
  | .freespool => true
  | .clutchIn => true
  | _ => false

/-- CLUTCH_OUT or FREESPOOL: the clutch servo stands at its release position (R87). -/
def released : WinchState → Bool
  | .clutchOut => true
  | .freespool => true
  | _ => false

/-- The S5 width a state uses (Table 5-2). -/
def positionFor (r : WinchRecord) (st : WinchState) : Int :=
  if released st then r.releasePosition else r.engagePosition

/-- The bridge mode (Table 5-2, R86). -/
def bridgeMode (w : Winch) : Bridge :=
  match w.state with
  | .haulIn => .driveIn
  | .payOut => .driveOut
  | .rampDown => (match w.direction with | .payOut => .driveOut | _ => .driveIn)
  | .freespool => .coast
  | _ => .brake

/-- What the bridge does in one PWM cycle, in parts of 1000 of the cycle (R86): for how long it drives through BRA,
in the haul-in sense, for how long through BRB, in the pay-out sense, and for how long both low sides are on. A
part in none of the three has every switch off. -/
structure BridgeCycle where
  bra : Nat
  brb : Nat
  lowSides : Nat
  deriving DecidableEq, Repr

/-- The PWM cycle of a bridge mode at a duty (R86). -/
def cycleOf (duty : Nat) : Bridge → BridgeCycle
  | .brake => { bra := 0, brb := 0, lowSides := 1000 }
  | .driveIn => { bra := duty, brb := 0, lowSides := 1000 - duty }
  | .driveOut => { bra := 0, brb := duty, lowSides := 1000 - duty }
  | .coast => { bra := 0, brb := 0, lowSides := 0 }

/-- What BRA and BRB carry in the PWM cycles that begin while the winch stands as it does (R86). -/
def bridgeCycle (w : Winch) : BridgeCycle := cycleOf w.duty (bridgeMode w)

/-- The change of LTC's three winch sources at a state change, as one event; none where no source changes. -/
def winchSources (old new : WinchState) : List LightMsg :=
  let sets :=
    (if winchMoves old = winchMoves new then [] else [(LevelSource.winchMoving, winchMoves new)])
      ++ (if winchFrees old = winchFrees new then [] else [(LevelSource.winchFree, winchFrees new)])
      ++ (if (old == .fault) = (new == .fault) then [] else [(LevelSource.winchFault, new == .fault)])
  if sets.isEmpty then [] else [{ sets := sets, fired := none }]

/-- A state change: the state, the direction, the clutch width where the clutch moves (R87), and the sources
(R112). -/
def enterWinch (c : WinchContext) (st : WinchState) (d : Direction) (x : WinchStep) : WinchStep :=
  { x with
    winch :=
      { x.winch with
        state := st, direction := d
        clutchWidth :=
          if released x.winch.state = released st then x.winch.clutchWidth else positionFor c.record st }
    msgs := x.msgs ++ winchSources x.winch.state st }

/-! ## Target duty and the WINCH claim (R91, R92) -/

/-- The uncapped target (R91, steps 1 and 2). -/
def uncappedTarget (c : WinchContext) (w : Winch) : Nat :=
  let base := w.command.natAbs * c.record.maxDuty / 1000
  let slow := w.state = .haulIn ∧ (w.homed = false ∨ w.line < (c.record.slowZone : Int))
  let a := if slow then min base c.record.slowDutyCap else base
  if (c.record.tempWarn : Int) ≤ w.temp then min a (c.record.maxDuty / 2) else a

/-- The target duty (R91). -/
def targetDuty (c : WinchContext) (w : Winch) : Nat :=
  if hauling w.state then min (uncappedTarget c w) (c.grant * 1000 / c.record.ratedCurrent) else 0

/-- The WINCH demand (R92). -/
def winchDemand (c : WinchContext) (w : Winch) : Nat :=
  if hauling w.state then uncappedTarget c w * c.record.ratedCurrent / 1000 else 0

/-- A target computation. -/
def retarget (c : WinchContext) (x : WinchStep) : WinchStep :=
  onWinch (fun w => { w with target := targetDuty c w }) x

/-- Evaluate the demand and keep it as the filed demand (R92). -/
def refile (c : WinchContext) (x : WinchStep) : WinchStep :=
  onWinch (fun w => { w with filed := winchDemand c w }) x

/-! ## Transitions -/

/-- CLUTCH_OUT is entered from IDLE when its conditions hold (R102). -/
def tryRelease (c : WinchContext) (x : WinchStep) : WinchStep :=
  if x.winch.state = .idle ∧ x.winch.request = true ∧ c.run = .run ∧ c.prot ≠ .cutoff
      ∧ x.winch.releaseBlock = false then
    onWinch (fun w => { w with clutchTimer := startTimer c.record.clutchTimeout w.clutchTimer })
      (enterWinch c .clutchOut .none x)
  else x

/-- Entry to IDLE, and the check made at every entry to it (R102). -/
def toIdle (c : WinchContext) (x : WinchStep) : WinchStep :=
  tryRelease c
    (refile c
      (onWinch (fun w => { w with target := 0, clutchTimer := stopTimer w.clutchTimer })
        (enterWinch c .idle .none x)))

/-- HAUL_IN or PAY_OUT stops by a ramp: the direction is kept, target and demand 0 (R94). -/
def toRampDown (c : WinchContext) (x : WinchStep) : WinchStep :=
  refile c (retarget c (enterWinch c .rampDown x.winch.direction x))

/-- CLUTCH_IN: the servo engages, the clutch timer starts afresh; with the clutch switch active the clutch
is engaged already, and the state is IDLE at once (R103, R104). -/
def toClutchIn (c : WinchContext) (x : WinchStep) : WinchStep :=
  let y :=
    refile c
      (onWinch (fun w => { w with clutchTimer := startTimer c.record.clutchTimeout w.clutchTimer })
        (enterWinch c .clutchIn .none x))
  if c.engaged then toIdle c y else y

/-- A fault (R106). -/
def winchFaulted (c : WinchContext) (cause : FaultCause) (x : WinchStep) : WinchStep :=
  if x.winch.state = .fault then onWinch (fun w => { w with further := true }) x
  else
    let y := enterWinch c .fault .none x
    { y with
      winch :=
        { y.winch with
          duty := 0, target := 0, filed := 0, cause := cause, further := false
          clutchTimer := stopTimer y.winch.clutchTimer
          stallTimer := stopTimer y.winch.stallTimer
          noMotionTimer := stopTimer y.winch.noMotionTimer }
      flags := y.flags ++ [.winchFault] }

/-! ## Commands (R90, R93 to R96, R101) -/

/-- The freespool request, from the record WCH holds (R101). -/
def freespoolRequest (r : WinchRecord) (f : FunctionRecord) : Bool :=
  match r.freespoolSource with
  | none => false
  | some .aux1 => f.aux1Band == some r.freespoolBand
  | some .aux2 => f.aux2Band == some r.freespoolBand

/-- Re-evaluate the request; an absent request lifts the release block (R101). -/
def evaluateRequest (c : WinchContext) (w : Winch) : Winch :=
  { w with request := freespoolRequest c.record w.record
           releaseBlock := w.releaseBlock && freespoolRequest c.record w.record }

/-- Act on the request as re-evaluated: a withdrawn one returns the clutch, a present one in IDLE releases
it (R102, R103). -/
def actOnRequest (c : WinchContext) (x : WinchStep) : WinchStep :=
  if released x.winch.state then
    if x.winch.request then x else toClutchIn c x
  else tryRelease c x

/-- Start allowed (R93). -/
def startAllowed (c : WinchContext) (w : Winch) : Bool :=
  c.run == .run && c.prot != .cutoff && !w.request

/-- A haul-in may start or resume (R93, R95). -/
def haulAllowed (c : WinchContext) (w : Winch) : Bool := startAllowed c w && !c.homeActive

/-- A pay-out may start or resume (R93, R95). -/
def payAllowed (c : WinchContext) (w : Winch) : Bool :=
  startAllowed c w && !(w.homed && decide ((c.record.maxLine : Int) ≤ w.line))

/-- Enter HAUL_IN or PAY_OUT: the direction, the target, the demand. -/
def toHauling (c : WinchContext) (st : WinchState) (d : Direction) (x : WinchStep) : WinchStep :=
  refile c (retarget c (enterWinch c st d x))

/-- Act on the command of a function update (R93 to R95). -/
def actOnCommand (c : WinchContext) (x : WinchStep) : WinchStep :=
  let w := x.winch
  match w.state with
  | .idle =>
    if 0 < w.command && haulAllowed c w then toHauling c .haulIn .haulIn x
    else if w.command < 0 && payAllowed c w then toHauling c .payOut .payOut x
    else x
  | .haulIn => if 0 < w.command then retarget c x else toRampDown c x
  | .payOut => if w.command < 0 then retarget c x else toRampDown c x
  | .rampDown =>
    if 0 < w.command && w.direction == .haulIn && haulAllowed c w then toHauling c .haulIn .haulIn x
    else if w.command < 0 && w.direction == .payOut && payAllowed c w then toHauling c .payOut .payOut x
    else x
  | .clutchOut => x
  | .freespool => x
  | .clutchIn => x
  | .fault => x

/-- WCH takes a function update: the record, the command, the request first, then the command (R90, R101). -/
def winchUpdate (c : WinchContext) (r : FunctionRecord) (w : Winch) : WinchStep :=
  let w1 := evaluateRequest c { w with record := r, command := if c.run = .run then r.winch else 0 }
  refile c (actOnCommand c (actOnRequest c (winchBegin w1)))

/-- The command set to 0 and acted on; `returns` when the change also returns a released clutch (R96). -/
def winchHalt (c : WinchContext) (returns : Bool) (w : Winch) : WinchStep :=
  let x := winchBegin { w with command := 0 }
  if hauling w.state then toRampDown c x
  else if released w.state && returns then toClutchIn c x
  else x

/-- WCH takes a run-state change (R90, R96, R102, R103). -/
def winchRunChange (c : WinchContext) (w : Winch) : WinchStep :=
  if c.run = .run then winchBegin w else winchHalt c (c.run == .failsafe) w

/-- WCH takes a protection change (R96, R102, R103). -/
def winchProtChange (c : WinchContext) (w : Winch) : WinchStep :=
  if c.prot = .cutoff then winchHalt c true w else winchBegin w

/-- WCH takes an ENTER_SETUP request (R102, R103): a released clutch returns, with the release block. -/
def winchEnterSetup (c : WinchContext) (w : Winch) : WinchStep :=
  if released w.state then toClutchIn c (winchBegin { w with releaseBlock := true }) else winchBegin w

/-! ## The WINCH record written (R87, R88) -/

/-- An accepted WINCH write, with the new record in force. -/
def winchWritten (c : WinchContext) (w : Winch) : WinchStep :=
  let w1 := evaluateRequest c { w with clutchWidth := positionFor c.record w.state }
  refile c (retarget c (actOnRequest c (winchBegin w1)))

/-! ## The ramp tick (R89) -/

/-- The duty moved toward the target by the ramp step. -/
def rampDuty (step duty target : Nat) : Nat :=
  if duty ≤ target then (if target - duty ≤ step then target else duty + step)
  else (if duty - target ≤ step then target else duty - step)

/-- Steps 1 and 2: the target, and the duty in the moving states. -/
def rampMove (c : WinchContext) (w : Winch) : Winch :=
  let t := targetDuty c w
  { w with target := t, duty := if winchMoves w.state then rampDuty c.record.rampStep w.duty t else w.duty }

/-- Step 4: the no-motion timer and the stall timer. -/
def rampTimers (c : WinchContext) (w : Winch) : Winch :=
  { w with
    noMotionTimer :=
      if c.record.noMotionDuty ≤ w.duty then
        (if w.noMotionTimer.running then w.noMotionTimer
         else startTimer c.record.noMotionTime w.noMotionTimer)
      else stopTimer w.noMotionTimer
    stallTimer := if w.duty = 0 then stopTimer w.stallTimer else w.stallTimer }

/-- WCH takes a ramp tick. -/
def winchTick (c : WinchContext) (w : Winch) : WinchStep :=
  let x := winchBegin (rampMove c w)
  let y := if x.winch.state = .rampDown ∧ x.winch.duty = 0 then toIdle c x else x
  refile c (onWinch (rampTimers c) y)

/-! ## Line count and homing (R97 to R100, R110) -/

/-- The place of an encoder pair in the pay-out sequence (R97). -/
def encoderPhase : Level → Level → Nat
  | .low, .low => 0
  | .high, .low => 1
  | .high, .high => 2
  | .low, .high => 3

/-- The step a change of the pair stands for: pay-out +1, haul-in −1, none for an unchanged or illegal
pair. -/
def encoderStep (w : Winch) (a b : Level) : Int :=
  if encoderPhase a b = (encoderPhase w.enca w.encb + 1) % 4 then 1
  else if encoderPhase w.enca w.encb = (encoderPhase a b + 1) % 4 then -1
  else 0

/-- The line end (R98). -/
def lineEndReached (c : WinchContext) (w : Winch) : Bool :=
  w.homed && decide (w.line = (c.record.maxLine : Int))

/-- The missed home (R110). -/
def homeMissed (c : WinchContext) (w : Winch) : Bool :=
  w.state == .haulIn && w.homed && decide (w.line < -(c.record.homeAllowance : Int))

/-- One valid count: the no-motion timer, the line end of a pay-out step, the missed home. -/
def winchCounted (c : WinchContext) (d : Int) (w : Winch) : WinchStep :=
  let w1 :=
    { w with
      line := w.line + d
      noMotionTimer :=
        if w.noMotionTimer.running then startTimer c.record.noMotionTime w.noMotionTimer
        else w.noMotionTimer }
  let x := winchBegin w1
  let x1 :=
    if 0 < d && lineEndReached c w1 then
      let y := { x with msgs := x.msgs ++ [{ sets := [], fired := some .lineEnd }]
                        flags := x.flags ++ [.lineEnd] }
      if w1.state = .payOut then toRampDown c y else y
    else x
  if homeMissed c w1 then winchFaulted c .homeMiss x1 else x1

/-- WCH takes a change of the encoder pair (R97). A step beyond either end of the count is not counted. -/
def winchEncoder (c : WinchContext) (a b : Level) (w : Winch) : WinchStep :=
  let d := encoderStep w a b
  let w1 := { w with enca := a, encb := b }
  if d = 0 ∨ Config.lineEndstop < (w.line + d).natAbs then winchBegin w1 else winchCounted c d w1

/-- The active event of the home switch (R99). -/
def winchHomeEvent (c : WinchContext) (w : Winch) : WinchStep :=
  let x : WinchStep :=
    { winch := { w with line := 0, homed := true }
      msgs := [{ sets := [], fired := some .homeSeen }], flags := [] }
  if w.state = .haulIn then
    toIdle c
      (onWinch (fun w => { w with duty := 0, noMotionTimer := stopTimer w.noMotionTimer
                                  stallTimer := stopTimer w.stallTimer }) x)
  else x

/-! ## The clutch switch (R102, R104) -/

/-- The active event of the clutch switch. -/
def winchEngaged (c : WinchContext) (w : Winch) : WinchStep :=
  if w.state = .clutchIn then toIdle c (winchBegin w) else winchBegin w

/-- The inactive event of the clutch switch. -/
def winchDisengaged (c : WinchContext) (w : Winch) : WinchStep :=
  if w.state = .clutchOut then
    refile c
      (enterWinch c .freespool .none (winchBegin { w with clutchTimer := stopTimer w.clutchTimer }))
  else winchBegin w

/-! ## Values delivered by MSC (R107, R109) -/

/-- A WINCH_I value. -/
def winchCurrent (c : WinchContext) (v : Int) (w : Winch) : WinchStep :=
  winchBegin
    { w with
      winchI := v
      stallTimer :=
        if (c.record.stallCurrent : Int) ≤ v then
          (if 0 < w.duty ∧ w.stallTimer.running = false then startTimer c.record.stallTime w.stallTimer
           else w.stallTimer)
        else stopTimer w.stallTimer }

/-- A TEMP value. In FAULT with cause HOT a value at or above the trip does nothing more. -/
def winchTemp (c : WinchContext) (v : Int) (w : Winch) : WinchStep :=
  let x := winchBegin { w with temp := v }
  if (c.record.tempTrip : Int) ≤ v ∧ ¬(w.state = .fault ∧ w.cause = .hot) then winchFaulted c .hot x else x

/-! ## Actions (R100, R111) -/

/-- WINCH_CLEAR's conditions. -/
def clearAllowed (c : WinchContext) (w : Winch) : Bool :=
  w.state == .fault && w.command == 0 && (w.cause != .hot || decide (w.temp < (c.record.tempWarn : Int)))

/-- An accepted WINCH_CLEAR. -/
def winchCleared (c : WinchContext) (w : Winch) : WinchStep :=
  let x := winchBegin { w with cause := .none, further := false }
  if c.engaged then toIdle c x
  else
    refile c
      (onWinch (fun w => { w with clutchTimer := startTimer c.record.clutchTimeout w.clutchTimer })
        (enterWinch c .clutchIn .none x))

/-! ## Load complete (R115) -/

/-- WCH at load complete: the encoder reference, the ramp tick, the engage position, and the winch placed by
the clutch switch. LTC reads the winch state at its own start-up (R136), so nothing is delivered. -/
def winchPlaced (c : WinchContext) (a b : Level) (w : Winch) : Winch :=
  { w with
    enca := a, encb := b, ticking := true, clutchWidth := c.record.engagePosition
    state := if c.engaged then .idle else .clutchIn
    clutchTimer := if c.engaged then w.clutchTimer else startTimer c.record.clutchTimeout w.clutchTimer }

/-- One event handled by WCH, with everything it reads as it stands. -/
def onWinchEvent (f : WinchContext → Winch → WinchStep) (s : State) : State :=
  putWinch (f (winchContext s) s.winch) s

end Sys2Proof.Machine
end

