-- ==== Sys2Proof/Machine/Mapping.lean ====
section
/-! DEFINITION. The function mapper (chapter 2): normalization, band decoding, failsafe values, the function
update; and the delivery of a run-state change (chapter 1). -/

namespace Sys2Proof.Machine

/-! ## Normalization (R31 to R34) -/

/-- Scaling, clamping and reversal (R31). -/
def scaleRaw (e : FuncEntry) (x : Nat) : Int :=
  let v := clampTo (-1000) 1000 ((((x : Int) - e.centre) * 1000).tdiv e.span)
  if e.reverse then -v else v

/-- The deadband (R32). -/
def applyDeadband (d : Nat) (v : Int) : Int :=
  if v.natAbs ≤ d then 0
  else v.sign * ((((v.natAbs : Int) - d) * 1000).tdiv (1000 - d))

/-- The point p_i of a curve (R30). -/
def curvePoint (t : Vector Int 36) (k : Fin 4) (i : Nat) : Int := (t[k.val * 9 + i]?).getD 0

/-- The curve (R33). -/
def applyCurve (t : Vector Int 36) (k : Fin 4) (v : Int) : Int :=
  let i := min 7 ((v + 1000).tdiv 250).toNat
  let x := -1000 + 250 * (i : Int)
  let p := curvePoint t k i
  clampTo (-1000) 1000 (p + ((curvePoint t k (i + 1) - p) * (v - x)).tdiv 250)

/-- The value of a slot (R31 to R34). -/
def slotValue (t : Tables) (raw : Vector Nat 10) (e : FuncEntry) : Int :=
  match e.source with
  | none => 0
  | some c =>
    let v := applyDeadband e.deadband (scaleRaw e raw[c])
    match e.curve with
    | none => v
    | some k => applyCurve t.curve k v

/-! ## Band decoding (R36, R37) -/

/-- The BAND entry matches a raw value: the top N bits agree. -/
def bandMatches (x : Nat) (e : BandEntry) : Bool :=
  x / 2 ^ (12 - e.width) == e.pattern / 2 ^ (6 - e.width)

/-- The first match among the entries that name the slot. -/
def firstMatch (slot : BandSlot) (x : Nat) : List BandEntry → Option (Fin 8)
  | [] => none
  | e :: rest => if e.slot == some slot && bandMatches x e then some e.band else firstMatch slot x rest

/-- The band of a slot after a normalization; with no source or no match it keeps its value (R37). -/
def slotBand (t : Tables) (raw : Vector Nat 10) (slot : BandSlot) (e : FuncEntry) (present : Option (Fin 8)) :
    Option (Fin 8) :=
  match e.source with
  | none => present
  | some c =>
    match firstMatch slot raw[c] t.band.toList with
    | some b => some b
    | none => present

/-- The record a frame's raw values give (R38). -/
def normalize (t : Tables) (raw : Vector Nat 10) (r : FunctionRecord) : FunctionRecord :=
  { steer := slotValue t raw t.func[0]
    throttle := slotValue t raw t.func[1]
    winch := slotValue t raw t.func[2]
    steerSel := 0
    lightSel := 0
    aux1 := 0
    aux2 := slotValue t raw t.func[6]
    rate := slotValue t raw t.func[7]
    steerSelBand := slotBand t raw .steerSel t.func[3] r.steerSelBand
    lightSelBand := slotBand t raw .lightSel t.func[4] r.lightSelBand
    aux1Band := slotBand t raw .aux1 t.func[5] r.aux1Band
    aux2Band := slotBand t raw .aux2 t.func[6] r.aux2Band
    rateUnsourced := t.func[7].source.isNone }

/-! ## Failsafe values (R41) -/

/-- A slot's value at FAILSAFE entry. -/
def failsafeOf (e : FuncEntry) (v : Int) : Int :=
  match e.failsafe with
  | .hold => v
  | .preset => e.failsafeValue

/-- The record with its failsafe values; bands and the rate-unsourced indication are kept. -/
def failsafeRecord (t : Vector FuncEntry 8) (r : FunctionRecord) : FunctionRecord :=
  { r with
    steer := failsafeOf t[0] r.steer
    throttle := failsafeOf t[1] r.throttle
    winch := failsafeOf t[2] r.winch
    aux2 := failsafeOf t[6] r.aux2
    rate := failsafeOf t[7] r.rate
    steerSel := 0
    lightSel := 0
    aux1 := 0 }

/-! ## The function update (R39) -/

/-- STC takes the function update. -/
def steeringTakesUpdate (r : FunctionRecord) (s : State) : State :=
  putSteering (steeringUpdate s.tables r s.steering) s

/-- WCH takes the function update. -/
def winchTakesUpdate (r : FunctionRecord) (s : State) : State := onWinchEvent (fun c w => winchUpdate c r w) s

/-- The record replaced, and delivered to STC, DRV, WCH and LTC, in that order (log entry 5). -/
def functionUpdate (r : FunctionRecord) (s : State) : State :=
  lightsUpdate r (winchTakesUpdate r (driveUpdate r (steeringTakesUpdate r { s with record := r })))

/-- A processed frame's raw values handed to FNM (R38). -/
def handToMapper (payload : List Byte) (s : State) : State :=
  functionUpdate (normalize s.tables (rawChannels payload) s.record) s

/-! ## Run-state changes (chapter 1, R43, R66, R75, R90, R121) -/

/-- The run state set, with nothing delivered. -/
def putRun (new : RunState) (s : State) : State := { s with link := { s.link with run := new } }

/-- LTC's sources of the run state (R121). -/
def runSources (new : RunState) : LightMsg :=
  { sets := [(.failsafe, new == .failsafe), (.setup, new == .setup)], fired := none }

/-- A run-state change delivered to DRV, WCH and LTC, in that order; STC and INL keep nothing of it
(R67, R169). -/
def deliverRun (new : RunState) (s : State) : State :=
  lightEvent (runSources new) (onWinchEvent winchRunChange (driveCompute (putRun new s)))

/-- FNM at the change into FAILSAFE: the failsafe values, and one function update after the change (R41). -/
def applyFailsafe (s : State) : State := functionUpdate (failsafeRecord s.tables.func s.record) s

/-! ## LNK's part of a run-state change -/

/-- The hold timer started afresh at the hold time in force (R16). -/
def restartHold (s : State) : State :=
  { s with link := { s.link with hold := startTimer s.tables.link.holdTime s.link.hold } }

/-- The hold timer stopped (R16). -/
def stopHold (s : State) : State := { s with link := { s.link with hold := stopTimer s.link.hold } }

/-- The recovery count set (R18). -/
def putRecovery (n : Nat) (s : State) : State := { s with link := { s.link with recovery := n } }

/-- Entry to FAILSAFE (R17, R41). -/
def enterFailsafe (s : State) : State :=
  applyFailsafe (deliverRun .failsafe (setFlag .failsafeEntered (restartHold (putRecovery 0 s))))

end Sys2Proof.Machine
end

