-- ==== Sys2Proof/Machine/Measure.lean ====
section
/-! DEFINITION. The measurement scanner and battery protection (chapter 7). -/

namespace Sys2Proof.Machine

/-! ## The cap (R150) -/

/-- The cap of a protection state (Table 7-7). -/
def capFor (r : ProtectRecord) : ProtState → Nat
  | .normal => r.iMax
  | .caution => r.iMax * r.cautionFactor / 1000
  | .limit => r.iMax * r.limitFactor / 1000
  | .cutoff => r.iMax * r.cutoffFactor / 1000

/-- The cap set from the present state and the record in force. -/
def recomputeCap (s : State) : State :=
  { s with protection := { s.protection with cap := capFor s.tables.protect s.protection.state } }

/-! ## A protection change (R149) -/

/-- LTC's sources of the protection state (R121). -/
def protSources (p : ProtState) : LightMsg :=
  { sets := [(.protCaution, p != .normal), (.protLimit, p == .limit || p == .cutoff), (.protCutoff, p == .cutoff)]
    fired := none }

/-- BPR's new state put in place, PROT_CHANGED set, and the change delivered to DRV, WCH and LTC, in that
order. -/
def deliverProtection (p : Protection) (s : State) : State :=
  lightEvent (protSources p.state)
    (onWinchEvent winchProtChange (driveCompute (setFlag .protChanged { s with protection := p })))

/-! ## Evaluation of a pass (R144 to R148) -/

/-- The measured value of cell `n` (1 to 4), and whether the list names it. -/
def cellQuantity : Fin 4 → Quantity
  | 0 => .cell1
  | 1 => .cell2
  | 2 => .cell3
  | 3 => .cell4

/-- The list names the quantity in at least one slot. -/
def listed (list : Vector ScanEntry 8) (q : Quantity) : Bool := list.toList.any fun e => e.source == some q

/-- The lowest of a list of values. -/
def lowest : List Int → Option Int
  | [] => none
  | v :: rest => match lowest rest with | none => some v | some w => some (min v w)

/-- The min cell of a pass that used `list`, none when the list names no cell up to the cell count (R144). -/
def minCellOf (cellCount : Nat) (list : Vector ScanEntry 8) (values : Vector Int 8) : Option Int :=
  lowest
    (((List.finRange 4).filter fun n => decide (n.val < cellCount) && listed list (cellQuantity n)).map fun n =>
      values[quantityIndex (cellQuantity n)])

/-- One persistence counter updated (R146). -/
def countPass (holds : Bool) (bound count : Nat) : Nat := if holds then min (count + 1) bound else 0

/-- The six persistence counters updated from a pass (Table 7-6). -/
def countersAfter (r : ProtectRecord) (minCell : Option Int) (packI : Int) (c : Counters) : Counters :=
  let below (v : Nat) : Bool := match minCell with | none => false | some m => decide (m < (v : Int))
  let above (v : Nat) : Bool := match minCell with | none => false | some m => decide ((v : Int) ≤ m)
  { caution := countPass (below r.vCaution) r.pFall c.caution
    limit := countPass (below r.vLimit) r.pFall c.limit
    cutoff := countPass (below r.vCutoff) r.pCut c.cutoff
    toCaution := countPass (above (r.vLimit + r.hysteresis)) r.pRise c.toCaution
    toNormal := countPass (above (r.vCaution + r.hysteresis)) r.pRise c.toNormal
    overcurrent := countPass (decide ((r.iTrip : Int) < packI)) r.pOc c.overcurrent }

/-- The state and cause that the counters call for: CUTOFF before a fall, a fall before a rise (R147,
R148). -/
def judge (r : ProtectRecord) (c : Counters) (st : ProtState) : Option (ProtState × ProtCause) :=
  match st with
  | .cutoff => none
  | .normal =>
    if c.overcurrent = r.pOc then some (.cutoff, .overcurrent)
    else if c.cutoff = r.pCut then some (.cutoff, .undervolt)
    else if c.limit = r.pFall then some (.limit, .none)
    else if c.caution = r.pFall then some (.caution, .none)
    else none
  | .caution =>
    if c.overcurrent = r.pOc then some (.cutoff, .overcurrent)
    else if c.cutoff = r.pCut then some (.cutoff, .undervolt)
    else if c.limit = r.pFall then some (.limit, .none)
    else if c.toNormal = r.pRise then some (.normal, .none)
    else none
  | .limit =>
    if c.overcurrent = r.pOc then some (.cutoff, .overcurrent)
    else if c.cutoff = r.pCut then some (.cutoff, .undervolt)
    else if c.toCaution = r.pRise then some (.caution, .none)
    else none

/-- BPR evaluates a pass that used `list` (R145). -/
def evaluatePass (list : Vector ScanEntry 8) (s : State) : State :=
  let r := s.tables.protect
  let m := minCellOf r.cellCount list s.scanner.values
  let p := { s.protection with minCell := m.getD s.protection.minCell, primed := true }
  if s.protection.primed then
    let c := countersAfter r m (measured s .packI) s.protection.counters
    match judge r c s.protection.state with
    | none => { s with protection := { p with counters := c } }
    | some (st, cause) =>
      deliverProtection
        { p with counters := { c with toCaution := 0, toNormal := 0 }, state := st, cause := cause,
                 cap := capFor r st } s
  else { s with protection := p }

/-! ## Conversions and passes (R141, R142) -/

/-- The first non-EMPTY slot at or after place `i`. -/
def nextSlot (list : Vector ScanEntry 8) (i : Nat) : Option (Fin 8) :=
  (List.finRange 8).find? fun k => decide (i ≤ k.val) && list[k].source.isSome

/-- The pass that starts with the list in force; none, the stopped scanner, when every slot is EMPTY. -/
def startPass (list : Vector ScanEntry 8) : Option Pass :=
  (nextSlot list 0).map fun k => { list := list, slot := k, done := 0, sum := 0 }

/-- A completed slot's value handed to WCH, where WCH reads it (R107, R109). -/
def handValue (q : Quantity) (v : Int) (s : State) : State :=
  match q with
  | .winchI => onWinchEvent (fun c w => winchCurrent c v w) s
  | .temp => onWinchEvent (fun c w => winchTemp c v w) s
  | _ => s

/-- The measured value and the pass set, with nothing handed on. -/
def putScanner (q : Quantity) (v : Int) (p : Option Pass) (s : State) : State :=
  { s with scanner := { values := s.scanner.values.set (quantityIndex q).val v, pass := p } }

/-- The pass set. -/
def putPass (p : Option Pass) (s : State) : State := { s with scanner := { s.scanner with pass := p } }

/-- A slot of quantity `q` completes with value `v`: the value is handed on, and either the next slot begins
or the pass completes, BPR evaluates it and the next pass starts. -/
def completeSlot (p : Pass) (q : Quantity) (v : Int) (s : State) : State :=
  match nextSlot p.list (p.slot.val + 1) with
  | some k => handValue q v (putScanner q v (some { p with slot := k, done := 0, sum := 0 }) s)
  | none => evaluatePass p.list (handValue q v (putScanner q v (startPass s.tables.scan) s))

/-- The end of one conversion (R141): the input of the slot's source, read with the cell count in force, saturated
to the source's range (R139), enters the sum. -/
def conversionEnded (x : SenseInputs) (s : State) : State :=
  match s.scanner.pass with
  | none => s
  | some p =>
    match p.list[p.slot].source with
    | none => s
    | some q =>
      let sum := p.sum + saturate q (sourceInput s.tables.protect.cellCount x q)
      if p.list[p.slot].count ≤ p.done + 1 then completeSlot p q (sum.tdiv p.list[p.slot].count) s
      else putPass (some { p with done := p.done + 1, sum := sum }) s

/-- A pass starts at once where a write gives a stopped scanner work (R142). -/
def wakeScanner (s : State) : State :=
  match s.scanner.pass with
  | some _ => s
  | none => putPass (startPass s.tables.scan) s

/-! ## CLEAR_PROTECT (R151) -/

/-- The conditions of an accepted clear, the state being CUTOFF. -/
def clearProtectAllowed (s : State) : Bool :=
  s.protection.primed
    && (match s.protection.cause with
        | .undervolt =>
          decide (((s.tables.protect.vLimit + s.tables.protect.hysteresis : Nat) : Int) ≤ s.protection.minCell)
        | .overcurrent => decide (measured s .packI ≤ ((s.tables.protect.iTrip / 2 : Nat) : Int))
        | .none => true)
    && throttleNeutral s && !hauling s.winch.state

/-- An accepted clear. -/
def protectCleared (s : State) : State :=
  deliverProtection
    { s.protection with state := .limit, cause := .none, counters := countersZero,
                        cap := capFor s.tables.protect .limit } s

end Sys2Proof.Machine
end

