-- ==== Sys2Proof/Machine/Budgeting.lean ====
section
/-! DEFINITION. The current budget unit (chapter 8): rotation, the floor pass, the quantum pass. -/

namespace Sys2Proof.Machine

/-- What a budget computation works on: the remaining amount R, the working grants, the level pointers. -/
structure Deal where
  left : Nat
  grants : Vector Nat 4
  pointers : Vector (Option (Fin 4)) 4
  deriving DecidableEq, Repr

/-- The four claimants in the order that starts after a pointer (R161). -/
def cycleAfter : Option (Fin 4) → List (Fin 4)
  | none => [0, 1, 2, 3]
  | some p => [p + 1, p + 2, p + 3, p]

/-- The rotation order of level `lv` with a pointer (R161). -/
def rotation (t : Vector BudgetEntry 4) (lv : Fin 4) (p : Option (Fin 4)) : List (Fin 4) :=
  (cycleAfter p).filter fun c => t[c].priority == lv

/-- The levels from the highest down. -/
def levelsDown : List (Fin 4) := [3, 2, 1, 0]

/-- Add an amount to a claimant's working grant and take it from R. -/
def serve (c : Fin 4) (amount : Nat) (d : Deal) : Deal :=
  { d with left := d.left - amount, grants := d.grants.set c.val (d.grants[c] + amount) }

/-- The floor served to one claimant (R162). -/
def serveFloor (t : Vector BudgetEntry 4) (demand : Vector Nat 4) (d : Deal) (c : Fin 4) : Deal :=
  if 0 < demand[c] then serve c (min t[c].floor (min demand[c] d.left)) d else d

/-- The floor pass (R162). -/
def floorPass (t : Vector BudgetEntry 4) (demand : Vector Nat 4) (d : Deal) : Deal :=
  levelsDown.foldl (fun d lv => (rotation t lv d.pointers[lv]).foldl (serveFloor t demand) d) d

/-- The claimant the next deal of a level goes to: the first in rotation whose working grant is below its
demand (R163). -/
def nextClaimant (t : Vector BudgetEntry 4) (demand : Vector Nat 4) (lv : Fin 4) (d : Deal) : Option (Fin 4) :=
  (rotation t lv d.pointers[lv]).find? fun c => decide (d.grants[c] < demand[c])

/-- One deal to claimant `c` of level `lv` (R163). -/
def dealTo (quantum : Nat) (demand : Vector Nat 4) (lv c : Fin 4) (d : Deal) : Deal :=
  { serve c (min quantum (min (demand[c] - d.grants[c]) d.left)) d with
    pointers := d.pointers.set lv.val (some c) }

/-- The deals of one level, at most `fuel` of them: R falls by at least 1 at each deal of a quantum above 0,
so a fuel of R is enough (R163). -/
def dealLevel (t : Vector BudgetEntry 4) (quantum : Nat) (demand : Vector Nat 4) (lv : Fin 4) :
    Nat → Deal → Deal
  | 0, d => d
  | fuel + 1, d =>
    if d.left = 0 then d
    else
      match nextClaimant t demand lv d with
      | none => d
      | some c => dealLevel t quantum demand lv fuel (dealTo quantum demand lv c d)

/-- The quantum pass (R163). -/
def quantumPass (t : Vector BudgetEntry 4) (quantum : Nat) (demand : Vector Nat 4) (d : Deal) : Deal :=
  levelsDown.foldl (fun d lv => dealLevel t quantum demand lv d.left d) d

/-- The division of a cap: the floor pass, then the quantum pass (R160). -/
def divideCap (t : Vector BudgetEntry 4) (quantum cap : Nat) (demand : Vector Nat 4)
    (pointers : Vector (Option (Fin 4)) 4) : Deal :=
  quantumPass t quantum demand
    (floorPass t demand { left := cap, grants := tab fun _ => 0, pointers := pointers })

/-- The grants and the pointers written together, and the cap used kept (R164). -/
def putGrants (d : Deal) (s : State) : State :=
  { s with budget := { s.budget with grant := d.grants, pointers := d.pointers, capUsed := s.protection.cap } }

/-- One budget computation (R160, R164). -/
def computeBudget (s : State) : State :=
  putGrants
    (divideCap s.tables.budget s.tables.protect.quantum s.protection.cap s.budget.demand s.budget.pointers) s

/-- The budget timer started at the budget period in force (R159). -/
def startBudgetTimer (s : State) : State :=
  { s with budget := { s.budget with timer := startTimer s.tables.protect.budgetPeriod s.budget.timer } }

end Sys2Proof.Machine
end

