-- ==== Sys2Proof/Machine/Lines.lean ====
section
/-! DEFINITION. The input lines (chapter 9): debouncing and accepted transitions. -/

namespace Sys2Proof.Machine

/-- WCH takes the active or inactive event of line `n` (R99, R102, R104). -/
def winchLineEvent (n : Fin 4) (active : Bool) (c : WinchContext) (w : Winch) : WinchStep :=
  if n = 0 then (if active then winchHomeEvent c w else winchBegin w)
  else if n = 1 then (if active then winchEngaged c w else winchDisengaged c w)
  else winchBegin w

/-- LTC's event of line `n` (R123): IN_LEVEL(n), with IN_EDGE(n) at the active event. -/
def lineLightMsg (n : Fin 4) (active : Bool) : LightMsg :=
  { sets := [(.inLevel n, active)], fired := if active then some (.inEdge n) else none }

/-- EDGEn and the edge arm at an event of line `n` (R175). -/
def edgeAtEvent (n : Fin 4) (active : Bool) (x : Inputs) : Inputs :=
  if active then (if x.lines[n].armed then raiseFlag (.edge n) x else x)
  else { x with lines := x.lines.set n.val { x.lines[n] with armed := true } }

/-- The active or inactive event of line `n`: the edge flag, then WCH, then LTC (R172). -/
def lineEvent (n : Fin 4) (active : Bool) (s : State) : State :=
  lightEvent (lineLightMsg n active)
    (onWinchEvent (winchLineEvent n active) { s with inputs := edgeAtEvent n active s.inputs })

/-- A line after a sample (R171): its state, and whether the sample made an accepted transition. -/
def sampleLine (debounce : Nat) (sample : Level) (l : Line) : Line × Bool :=
  if sample = l.level then ({ l with runCount := 0 }, false)
  else if debounce + 1 ≤ l.runCount + 1 then ({ l with level := sample, runCount := 0 }, true)
  else ({ l with runCount := l.runCount + 1 }, false)

/-- Line `n` put in place. -/
def putLine (n : Fin 4) (l : Line) (s : State) : State :=
  { s with inputs := { s.inputs with lines := s.inputs.lines.set n.val l } }

/-- One line sampled at a sample tick. -/
def takeSample (sample : Level) (n : Fin 4) (s : State) : State :=
  let r := sampleLine s.tables.input[n].debounce sample s.inputs.lines[n]
  let s1 := putLine n r.1 s
  if r.2 then lineEvent n (inputActive s1 n) s1 else s1

/-- The four lines sampled, IN0 first (log entry 5). -/
def takeSamples (samples : Vector Level 4) (s : State) : State :=
  (List.finRange 4).foldl (fun s n => takeSample samples[n] n s) s

/-- The events of line `n` after its INPUT entry was replaced: an accepted transition when its logical value
has changed (R170). `before` is the active level of the entry replaced. -/
def lineRewritten (before : Level) (n : Fin 4) (s : State) : State :=
  if s.tables.input[n].active = before then s else lineEvent n (inputActive s n) s

/-- INL at load complete: the present levels are accepted, the sample tick starts (R173). -/
def acceptLevels (samples : Vector Level 4) (s : State) : State :=
  { s with
    inputs :=
      { s.inputs with lines := tab fun n => { s.inputs.lines[n] with level := samples[n] }, ticking := true } }

end Sys2Proof.Machine
end

