-- ==== Sys2Proof/Machine/Reset.lean ====
section
/-! DEFINITION. The kinds of reset, load complete and the store (chapter 10). -/

namespace Sys2Proof.Machine

/-! ## Resets (R188, R189) -/

/-- WCH after a reset: a soft reset keeps the line count and homed (R114). -/
def winchReset (k : ResetKind) (w : Winch) : Winch :=
  match k with
  | .soft => { winchAfterReset with line := w.line, homed := w.homed }
  | _ => winchAfterReset

/-- BPR after a reset: a soft reset keeps the protection state and the cause (R154). -/
def protectionReset (k : ResetKind) (p : Protection) : Protection :=
  match k with
  | .soft => { protectionAfterReset with state := p.state, cause := p.cause }
  | _ => protectionAfterReset

/-- Every block after a reset of a kind. A power-on and a brown-out reset hold the part in reset (R189). A
store in flight has left the image erased since its acceptance, so a reset that stops it finds the image
invalid (R185). The commands that wait are the sender's and stay. -/
def resetPart (k : ResetKind) (s : State) : State :=
  { pending := s.pending
    heldInReset := k != .soft
    link := linkAfterReset
    record := recordAfterReset
    steering := steeringAfterReset
    drive := driveAfterReset
    winch := winchReset k s.winch
    lights := lightsAfterReset
    scanner := scannerAfterReset
    protection := protectionReset k s.protection
    budget := budgetAfterReset
    inputs := { lines := tab fun _ => lineAfterReset, ticking := false,
                flags := flagsAfterReset k s.inputs.flags, reported := none }
    store := storeAfterReset s.store.image
    tables := defaultTables }

/-! ## Load complete (R181, Table 10-2) -/

/-- The working copy built from the image, or from the defaults with IMAGE_DEFAULTED. -/
def loadTables (s : State) : State :=
  match loadImage s.store.image with
  | some t => { s with tables := t, store := { s.store with loaded := true } }
  | none => setFlag .imageDefaulted { s with tables := defaultTables, store := { s.store with loaded := true } }

/-- STC at load complete (R69). -/
def steeringLoaded (s : State) : State :=
  { s with
    steering :=
      { s.steering with mode := s.tables.steer.defaultMode, requested := s.tables.steer.defaultMode } }

/-- DRV at load complete: the period timer, S4 and S5 ACTIVE, the throttle path run once (R71, R73, R84). -/
def driveLoaded (s : State) : State :=
  driveCompute (startPeriod { s with drive := { s.drive with s4Active := true, s5Active := true } })

/-- WCH at load complete (R115). -/
def winchLoaded (a b : Level) (s : State) : State :=
  { s with winch := winchPlaced (winchContext s) a b s.winch }

/-- MSC starts its first pass, BPR sets the cap, CBU starts its timer (R142, R150, R159). -/
def batteryLoaded (s : State) : State :=
  startBudgetTimer (recomputeCap (putPass (startPass s.tables.scan) s))

/-- Load complete delivered to every block. -/
def loadCompleted (samples : Vector Level 4) (a b : Level) (s : State) : State :=
  lightsStartUp
    (batteryLoaded
      (winchLoaded a b (driveLoaded (steeringLoaded (putRun .wait (acceptLevels samples (loadTables s)))))))

/-! ## The store (R183) -/

/-- SST's state replaced. -/
def putStore (x : Store) (s : State) : State := { s with store := x }

/-- An accepted STORE: the content is taken, the erase begins, the image is invalid from here. -/
def storeBegun (s : State) : State :=
  putStore { s.store with state := .erasing s.tables, image := [] } s

/-- What the image holds when a store ends with the given verification. A store stopped at an entry leaves
the entries before it and no CHECK. -/
def imageAfterStore (content : Tables) : Verify → List Byte
  | .good => imageOf content
  | .entryUnequal place => (encodeTables content).take (min place (Config.imageLength - 1))
  | .checkRead c => encodeTables content ++ [checkHigh c, checkLow c]

/-- The store ends verified. -/
def verified (content : Tables) : Verify → Bool
  | .good => true
  | .entryUnequal _ => false
  | .checkRead c => c == crc (encodeTables content)

/-- The end of programming and verifying. -/
def storeEnded (content : Tables) (v : Verify) (s : State) : State :=
  setFlag (if verified content v then .storeDone else .storeFail)
    (putStore { s.store with state := .idle, image := imageAfterStore content v } s)

/-! ## RESTORE_DEFAULTS (R186) -/

/-- Every owner treats the defaults as accepted writes of its entries: STC, DRV, WCH, LTC, MSC with BPR, and
INL, in that order (R70, R74, R88, R138, R155, R168, R179). FNM, CBU and LNK change nothing more. That the lines
whose logical value inverts deliver their events in ascending order, IN0 first, is the model's choice (log
entry 5). -/
def defaultsRestored (s : State) : State :=
  let s1 := { s with tables := defaultTables }
  let s2 := putSteering (steerFile s1.tables.steer s1.steering) s1
  let s3 := onWinchEvent winchWritten (driveCompute s2)
  let s4 := putLights (lightsRestored s3.tables (grantOf s3 3) s3.lights) s3
  let s5 := recomputeCap (wakeScanner s4)
  (List.finRange 4).foldl (fun x n => lineRewritten s.tables.input[n].active n x) s5

end Sys2Proof.Machine
end

