-- ==== Sys2Proof/Machine/Answers.lean ====
section
/-! DEFINITION. Result codes (Table 1-4), the composition of replies (R6, R9), the query records and the
TELEMETRY payload (Tables 11-9 to 11-14). -/

namespace Sys2Proof.Machine

/-- Result codes (Table 1-4). -/
inductive Result where
  | done
  | length
  | table
  | index
  | range
  | state
  | busy
  | refused
  | unknown
  deriving DecidableEq, Repr

def resultCode : Result → Byte
  | .done => 0
  | .length => 1
  | .table => 2
  | .index => 3
  | .range => 4
  | .state => 5
  | .busy => 6
  | .refused => 7
  | .unknown => 8

/-! ## Replies (R6, R9) -/

/-- The reply record replaced. -/
def putReply (r : Reply) (s : State) : State := { s with link := { s.link with reply := r } }

/-- An ANSWER composed: the kind answered, the result code, and what a DONE read or query carries. -/
def answerWith (kind : Byte) (r : Result) (extra : List Byte) (notices : List Notice) (s : State) : State :=
  putReply
    (.pending { kind := Config.kindAnswer, payload := kind :: resultCode r :: extra, answered := kind,
                notices := notices }) s

/-- An ANSWER of LEN 2, with no notice. -/
def answer (kind : Byte) (r : Result) (s : State) : State := answerWith kind r [] [] s

/-- The bytes of a reply on the line (Table 11-2). -/
def replyBytes (c : ReplyContent) : List Byte :=
  Config.lead :: c.kind :: BitVec.ofNat 8 c.payload.length :: c.payload
    ++ [checkHigh (frameCheck c.kind c.payload), checkLow (frameCheck c.kind c.payload)]

/-! ## Query records -/

/-- A bit set: bit n of the value belongs to item n of the list (R191). -/
def bitSet : List Bool → Nat
  | [] => 0
  | b :: rest => b.toNat + 2 * bitSet rest

/-- The STATUS record (R176, Table 11-9). -/
def statusRecord (s : State) : List Byte :=
  putU16 (bitSet s.inputs.flags.toList) ++ putU8 (runCode s.link.run) ++ putU8 (protCode s.protection.state)
    ++ putU8 (winchStateCode s.winch.state) ++ putU8 (steerModeCode s.steering.mode)
    ++ putU8 (steerStatusCode s.steering.status) ++ putU8 (bitSet ((List.finRange 4).map (inputActive s)))

/-- The MEASURE record (R152, Table 11-10). -/
def measureRecord (s : State) : List Byte :=
  putU16 (measured s .cell1).toNat ++ putU16 (measured s .cell2).toNat ++ putU16 (measured s .cell3).toNat
    ++ putU16 (measured s .cell4).toNat ++ putU16 (measured s .packV).toNat
    ++ putU24 (measured s .packI).toNat ++ putU16 (measured s .winchI).toNat ++ putS16 (measured s .temp)
    ++ putU16 s.protection.minCell.toNat ++ putBool s.protection.primed
    ++ putU8 (protCode s.protection.state) ++ putU8 (protCauseCode s.protection.cause)
    ++ putU24 s.protection.cap

/-- The WINCH record (R113, Table 11-11). -/
def winchRecord (s : State) : List Byte :=
  putU8 (winchStateCode s.winch.state) ++ putU8 (directionCode s.winch.direction) ++ putU16 s.winch.duty
    ++ putU16 s.winch.target ++ putS24 s.winch.line ++ putBool s.winch.homed
    ++ putU8 (faultCauseCode s.winch.cause) ++ putBool s.winch.further ++ putBool (inputActive s 1)

/-- The claim of one claimant as the BUDGET record carries it. -/
def claimRecord (s : State) (c : Fin 4) : List Byte :=
  putU24 s.budget.demand[c] ++ putU24 s.budget.grant[c] ++ putU8 s.tables.budget[c].priority.val
    ++ putU16 s.tables.budget[c].floor

/-- Two level pointers in one byte, the first in the high nibble (R191). -/
def pointerPair (s : State) (a b : Fin 4) : List Byte :=
  putU8 (pointerNibble s.budget.pointers[a] * 16 + pointerNibble s.budget.pointers[b])

/-- The BUDGET record (R166, Table 11-12). -/
def budgetRecord (s : State) : List Byte :=
  putU24 s.protection.cap ++ putU24 s.budget.capUsed ++ claimRecord s 0 ++ claimRecord s 1 ++ claimRecord s 2
    ++ claimRecord s 3 ++ pointerPair s 0 1 ++ pointerPair s 2 3

/-- A corner as the STEER record carries it. -/
def cornerRecord (c : Corner) : List Byte := putS16 c.target ++ putS16 c.position ++ putU16 c.width.toNat

/-- The STEER record (R68, Table 11-13). -/
def steerRecord (s : State) : List Byte :=
  putU8 (steerModeCode s.steering.mode) ++ putU8 (steerModeCode s.steering.requested)
    ++ putU8 (steerStatusCode s.steering.status) ++ putBool s.steering.modeHeld
    ++ cornerRecord s.steering.corners[0] ++ cornerRecord s.steering.corners[1]
    ++ cornerRecord s.steering.corners[2] ++ cornerRecord s.steering.corners[3]

/-- The TELEMETRY payload (R13, Table 11-14). -/
def telemetryPayload (s : State) : List Byte :=
  putU8 (runCode s.link.run) ++ putU8 (protCode s.protection.state) ++ putU16 s.protection.minCell.toNat
    ++ putU16 (measured s .packV).toNat ++ putU24 (measured s .packI).toNat
    ++ putU8 (winchStateCode s.winch.state) ++ putS24 s.winch.line ++ putBool s.winch.homed
    ++ putU8 (steerModeCode s.steering.mode) ++ putBool (s.steering.status == .align)
    ++ putBool (flagsPending s.inputs)

/-- The query selectors (Table 11-5). -/
inductive Selector where
  | status
  | measure
  | winch
  | budget
  | steer
  deriving DecidableEq, Repr

def selectorOf : Nat → Option Selector
  | 1 => some .status
  | 2 => some .measure
  | 3 => some .winch
  | 4 => some .budget
  | 5 => some .steer
  | _ => none

def selectorCode : Selector → Byte
  | .status => 1
  | .measure => 2
  | .winch => 3
  | .budget => 4
  | .steer => 5

/-- The record of a selector. -/
def queryRecord (q : Selector) (s : State) : List Byte :=
  match q with
  | .status => statusRecord s
  | .measure => measureRecord s
  | .winch => winchRecord s
  | .budget => budgetRecord s
  | .steer => steerRecord s

/-- The flags reported become the reported set (R176). -/
def recordReported (s : State) : State := { s with inputs := { s.inputs with reported := some s.inputs.flags } }

/-- A QUERY that passed its checks: the record, and for STATUS the reported set and the notice (R176). -/
def answerQuery (q : Selector) (s : State) : State :=
  match q with
  | .status =>
    answerWith Config.kindQuery .done (selectorCode .status :: statusRecord s) [.statusReport] (recordReported s)
  | .measure => answerWith Config.kindQuery .done (selectorCode .measure :: measureRecord s) [] s
  | .winch => answerWith Config.kindQuery .done (selectorCode .winch :: winchRecord s) [] s
  | .budget => answerWith Config.kindQuery .done (selectorCode .budget :: budgetRecord s) [] s
  | .steer => answerWith Config.kindQuery .done (selectorCode .steer :: steerRecord s) [] s

/-- A QUERY frame (Table 1-5). -/
def queryFrame (payload : List Byte) (s : State) : State :=
  if s.link.run = .init then answer Config.kindQuery .state s
  else if payload.length ≠ 1 then answer Config.kindQuery .length s
  else
    match selectorOf (u8At payload 0) with
    | none => answer Config.kindQuery .unknown s
    | some q => answerQuery q s

end Sys2Proof.Machine
end

