-- ==== Sys2Proof/Machine/Setup.lean ====
section
/-! DEFINITION. SETUP_WRITE and SETUP_READ (R7, R22 to R24, Table 1-5): the checks, the replacement of an
entry, and what each owner does at an accepted write. -/

namespace Sys2Proof.Machine

/-- The tables with entry `i` of a table replaced by the one the bytes hold; none when the owner's checks
fail (R23). The checks of LINK and of every other table read no state but the tables. -/
def tablesWith (t : Tables) (id : TableId) (i : Nat) (e : List Byte) : Option Tables :=
  match id with
  | .func => ((decodeFunc e).filter (funcInRange i)).map fun x => { t with func := t.func.setIfInBounds i x }
  | .curve => ((decodeCurve e).filter curveInRange).map fun x => { t with curve := t.curve.setIfInBounds i x }
  | .band => ((decodeBand e).filter bandInRange).map fun x => { t with band := t.band.setIfInBounds i x }
  | .steer => ((decodeSteer e).filter steerInRange).map fun x => { t with steer := x }
  | .geom => ((decodeGeom e).filter geomInRange).map fun x => { t with geom := t.geom.setIfInBounds i x }
  | .corner => ((decodeCorner e).filter cornerInRange).map fun x => { t with corner := t.corner.setIfInBounds i x }
  | .drive => ((decodeDrive e).filter driveInRange).map fun x => { t with drive := x }
  | .winch => ((decodeWinch e).filter winchInRange).map fun x => { t with winch := x }
  | .lamp => ((decodeLamp e).filter lampInRange).map fun x => { t with lamp := t.lamp.setIfInBounds i x }
  | .scene => ((decodeScene e).filter sceneInRange).map fun x => { t with scene := t.scene.setIfInBounds i x }
  | .cue => ((decodeCue e).filter cueInRange).map fun x => { t with cue := t.cue.setIfInBounds i x }
  | .scan =>
    ((decodeScan e).filter (scanInRange t.protect.cellCount)).map fun x =>
      { t with scan := t.scan.setIfInBounds i x }
  | .protect => ((decodeProtect e).filter (protectInRange t.scan)).map fun x => { t with protect := x }
  | .budget => ((decodeBudget e).filter budgetInRange).map fun x => { t with budget := t.budget.setIfInBounds i x }
  | .input => ((decodeInput e).filter inputInRange).map fun x => { t with input := t.input.setIfInBounds i x }
  | .link => ((decodeLink e).filter linkInRange).map fun x => { t with link := x }

/-- What the checks of Table 1-5 say of a SETUP_WRITE: an answer that ends it, or the tables to put in
force. -/
inductive Verdict where
  | refuse (r : Result)
  | accept (id : TableId) (index : Nat) (t : Tables)
  deriving DecidableEq, Repr

/-- Steps 8 and 9 of Table 1-5 for a SETUP_WRITE. -/
def judgeEntry (s : State) (id : TableId) (i : Nat) (e : List Byte) : Verdict :=
  if setupClass id = true ∧ s.link.run ≠ .setup then .refuse .state
  else
    match tablesWith s.tables id i e with
    | none => .refuse .range
    | some t => .accept id i t

/-- The checks of Table 1-5 on a SETUP_WRITE, in order. -/
def judgeWrite (s : State) (p : List Byte) : Verdict :=
  if s.link.run = .init then .refuse .state
  else if storeInFlight s.store = true then .refuse .busy
  else if p.length < 2 then .refuse .length
  else
    match tableIdOf (u8At p 0) with
    | none => .refuse .table
    | some id =>
      if entryCount id ≤ u8At p 1 then .refuse .index
      else if p.length ≠ 2 + entryLength id then .refuse .length
      else judgeEntry s id (u8At p 1) (p.drop 2)

/-- The cue whose entry was written loses its instance, and a WHILE cue whose source is true starts (R131). -/
def cueWritten (k : Fin 16) (s : State) : State :=
  putLights (lightsCueWritten s.tables (grantOf s 3) k s.lights) s

/-- STC at a write of the STEER record (R46, R59). -/
def steerWritten (s : State) : State := putSteering (steerFile s.tables.steer s.steering) s

/-- An owner's handling of an accepted write, with the new tables in force (R46, R74, R88, R118, R119, R131,
R140, R143, R170). `before` are the tables replaced. FUNC, CURVE, BAND, GEOM, CORNER, BUDGET and LINK
entries are read at later events, and their owners do nothing at the write. -/
def ownerWritten (before : Tables) (id : TableId) (i : Nat) (s : State) : State :=
  match id with
  | .func => s
  | .curve => s
  | .band => s
  | .steer => steerWritten s
  | .geom => s
  | .corner => s
  | .drive => driveCompute s
  | .winch => onWinchEvent winchWritten s
  | .lamp => recompose s
  | .scene => recompose s
  | .cue => if h : i < 16 then cueWritten ⟨i, h⟩ s else s
  | .scan => wakeScanner s
  | .protect => recomputeCap s
  | .budget => s
  | .input => if h : i < 4 then lineRewritten before.input[i].active ⟨i, h⟩ s else s
  | .link => s

/-- The working copy replaced. -/
def putTables (t : Tables) (s : State) : State := { s with tables := t }

/-- An accepted write: the entry is in force from here, then the owner acts (R23). -/
def entryWritten (id : TableId) (i : Nat) (t : Tables) (s : State) : State :=
  ownerWritten s.tables id i (putTables t s)

/-- A SETUP_WRITE frame. -/
def setupWriteFrame (payload : List Byte) (s : State) : State :=
  match judgeWrite s payload with
  | .refuse r => answer Config.kindSetupWrite r s
  | .accept id i t => answer Config.kindSetupWrite .done (entryWritten id i t s)

/-- A SETUP_READ frame (R24, Table 1-5). -/
def setupReadFrame (payload : List Byte) (s : State) : State :=
  if s.link.run = .init then answer Config.kindSetupRead .state s
  else if payload.length ≠ 2 then answer Config.kindSetupRead .length s
  else
    match tableIdOf (u8At payload 0) with
    | none => answer Config.kindSetupRead .table s
    | some id =>
      if entryCount id ≤ u8At payload 1 then answer Config.kindSetupRead .index s
      else answerWith Config.kindSetupRead .done (payload ++ entryBytes s.tables id (u8At payload 1)) [] s

end Sys2Proof.Machine
end

