-- ==== Sys2Proof/Machine/Actions.lean ====
section
/-! DEFINITION. The actions (Table 1-10): ENTER_SETUP and LEAVE_SETUP (R19, R20), STORE, RESTORE_DEFAULTS and
SOFT_RESET (R182, R186, R187), CLEAR_PROTECT (R151), WINCH_HOME and WINCH_CLEAR (R100, R111). Each is judged
with the run state past INIT (Table 1-5, step 1) and answers through LNK. -/

namespace Sys2Proof.Machine

/-- The actions (Table 11-5). -/
inductive Action where
  | enterSetup
  | leaveSetup
  | store
  | restoreDefaults
  | softReset
  | clearProtect
  | winchHome
  | winchClear
  deriving DecidableEq, Repr

def actionOf : Nat → Option Action
  | 1 => some .enterSetup
  | 2 => some .leaveSetup
  | 3 => some .store
  | 4 => some .restoreDefaults
  | 5 => some .softReset
  | 6 => some .clearProtect
  | 7 => some .winchHome
  | 8 => some .winchClear
  | _ => none

/-- An action answered with a result and no more. -/
def answerAction (r : Result) (s : State) : State := answer Config.kindAction r s

/-- The conditions under which ENTER_SETUP changes the run state (R19). -/
def setupAllowed (s : State) : Bool := throttleNeutral s && (s.winch.state == .idle || s.winch.state == .fault)

/-- ENTER_SETUP evaluated in WAIT or RUN (R19). That it is accepted in WAIT before any CHANNELS frame, so that the first
function update can fall in SETUP where R60, R44 and R73 have it in WAIT, is the model's choice (log entry 19). -/
def evaluateEnterSetup (s : State) : State :=
  if setupAllowed s then
    answerAction .done (onWinchEvent winchEnterSetup (deliverRun .setup (stopHold s)))
  else answerAction .refused (onWinchEvent winchEnterSetup s)

def performEnterSetup (s : State) : State :=
  match s.link.run with
  | .init => answerAction .state s
  | .wait => evaluateEnterSetup s
  | .run => evaluateEnterSetup s
  | .failsafe => answerAction .state s
  | .setup => answerAction .state s

/-- The SCAN list holds every cell source up to the cell count in force, and PACK_I (R20). -/
def scanComplete (t : Tables) : Bool :=
  (List.finRange 4).all (fun n => !decide (n.val < t.protect.cellCount) || listed t.scan (cellQuantity n))
    && listed t.scan .packI

/-- LEAVE_SETUP (R20). -/
def performLeaveSetup (s : State) : State :=
  if s.link.run ≠ .setup then answerAction .state s
  else if storeInFlight s.store = true then answerAction .busy s
  else if scanComplete s.tables = false then answerAction .refused s
  else answerAction .done (deliverRun .wait s)

/-- STORE (R182, R183). -/
def performStore (s : State) : State :=
  if s.link.run ≠ .setup then answerAction .state s
  else if storeInFlight s.store = true then answerAction .busy s
  else answerAction .done (storeBegun s)

/-- RESTORE_DEFAULTS (R186). -/
def performRestoreDefaults (s : State) : State :=
  if s.link.run ≠ .setup then answerAction .state s
  else if storeInFlight s.store = true then answerAction .busy s
  else answerAction .done (defaultsRestored s)

/-- SOFT_RESET (R187): nothing but the pending soft reset changes at acceptance. -/
def performSoftReset (s : State) : State :=
  if storeInFlight s.store = true then answerAction .busy s
  else
    answerWith Config.kindAction .done [] [.softReset] (putStore { s.store with pendingSoftReset := true } s)

/-- CLEAR_PROTECT (R151). -/
def performClearProtect (s : State) : State :=
  if s.protection.state ≠ .cutoff then answerAction .state s
  else if clearProtectAllowed s then answerAction .done (protectCleared s)
  else answerAction .refused s

/-- WINCH_HOME (R100). -/
def performWinchHome (s : State) : State :=
  if s.winch.state = .idle then
    answerAction .done (onWinchEvent (fun _ w => winchBegin { w with line := 0, homed := true }) s)
  else answerAction .refused s

/-- WINCH_CLEAR (R111). -/
def performWinchClear (s : State) : State :=
  if clearAllowed (winchContext s) s.winch then answerAction .done (onWinchEvent winchCleared s)
  else answerAction .refused s

def performAction (a : Action) (s : State) : State :=
  match a with
  | .enterSetup => performEnterSetup s
  | .leaveSetup => performLeaveSetup s
  | .store => performStore s
  | .restoreDefaults => performRestoreDefaults s
  | .softReset => performSoftReset s
  | .clearProtect => performClearProtect s
  | .winchHome => performWinchHome s
  | .winchClear => performWinchClear s

/-- An ACTION frame (Table 1-5). -/
def actionFrame (payload : List Byte) (s : State) : State :=
  if s.link.run = .init then answerAction .state s
  else if payload.length ≠ 1 then answerAction .length s
  else
    match actionOf (u8At payload 0) with
    | none => answerAction .unknown s
    | some a => performAction a s

end Sys2Proof.Machine
end

