-- ==== Sys2Proof/Machine/Receiver.lean ====
section
/-! DEFINITION. LNK's line side (chapter 1): the CHANNELS frame, dispatch, the start bit that abandons a
reply, the receiver (Table 1-2) and the frame taken whole, and the reply's progress (R9 to R11). -/

namespace Sys2Proof.Machine

/-! ## The CHANNELS frame (R8, R12, R13, R15 to R18) -/

/-- The telemetry counter and due after one processed frame (R12). -/
def advanceTelemetry (s : State) : State :=
  let n := s.tables.link.telemetryInterval
  if n = 0 then { s with link := { s.link with telemetryCount := 0 } }
  else if n ≤ s.link.telemetryCount + 1 then
    { s with link := { s.link with telemetryCount := 0, telemetryDue := true } }
  else { s with link := { s.link with telemetryCount := s.link.telemetryCount + 1 } }

/-- The reply decision for a processed frame (R13). -/
def decideTelemetry (p : List Byte) (s : State) : State :=
  if replyPermitted p && s.link.telemetryDue && s.tables.link.telemetryInterval != 0 then
    putReply
      (.pending { kind := Config.kindTelemetry, payload := telemetryPayload s,
                  answered := Config.kindChannels, notices := [] }) s
  else s

/-- The neutral check in WAIT, after the function update (R15). -/
def neutralCheck (p : List Byte) (s : State) : State :=
  if receiverFailsafe p then s
  else if throttleNeutral s then deliverRun .run (restartHold s)
  else setFlag .throttleNotNeutral s

/-- One more clear frame in FAILSAFE (R18). -/
def countRecovery (s : State) : State :=
  if s.tables.link.recovery ≤ s.link.recovery + 1 then deliverRun .run (putRecovery 0 s)
  else putRecovery (s.link.recovery + 1) s

/-- The run-state machine and the function update of a processed frame (R8, R15, R17, R18). -/
def channelsHandled (p : List Byte) (s : State) : State :=
  match s.link.run with
  | .init => s
  | .wait => neutralCheck p (handToMapper p s)
  | .run => if receiverFailsafe p then enterFailsafe (restartHold s) else handToMapper p (restartHold s)
  | .failsafe => if receiverFailsafe p then putRecovery 0 (restartHold s) else countRecovery (restartHold s)
  | .setup => handToMapper p s

/-- A good CHANNELS frame (R8). -/
def channelsFrame (p : List Byte) (s : State) : State :=
  if p.length ≠ 16 then s
  else if s.link.run = .init then s
  else decideTelemetry p (advanceTelemetry (channelsHandled p s))

/-! ## Dispatch (R7) -/

/-- A good frame is dispatched on its KIND. -/
def dispatch (kind : Byte) (payload : List Byte) (s : State) : State :=
  if kind = Config.kindChannels then channelsFrame payload s
  else if kind = Config.kindSetupWrite then setupWriteFrame payload s
  else if kind = Config.kindSetupRead then setupReadFrame payload s
  else if kind = Config.kindQuery then queryFrame payload s
  else if kind = Config.kindAction then actionFrame payload s
  else answer kind .unknown s

/-! ## Abandonment (R10, R11) -/

/-- The byte that a start bit has begun is to be discarded with its frame, or no longer (R187). -/
def putDiscarding (b : Bool) (s : State) : State := { s with link := { s.link with discarding := b } }

/-- One notice delivered as abandoned: INL discards the reported set and clears nothing; SST performs the soft
reset, and the frame that the abandoning start bit begins is to be discarded (R187). -/
def noticeAbandoned (n : Notice) (s : State) : State :=
  match n with
  | .statusReport => { s with inputs := { s.inputs with reported := none } }
  | .softReset => putDiscarding true (resetPart .soft s)

/-- One notice delivered as complete (R177, R187). -/
def noticeCompleted (n : Notice) (s : State) : State :=
  match n with
  | .statusReport => { s with inputs := clearReported s.tables.input s.inputs }
  | .softReset => resetPart .soft s

/-- The leading edge of a start bit while a reply is PENDING abandons it (R10). -/
def abandonReply (s : State) : State :=
  match s.link.reply with
  | .pending c => c.notices.foldl (fun x n => noticeAbandoned n x) (putReply .empty s)
  | .empty => s
  | .sending _ => s

/-! ## Reception (R2 to R5) -/

/-- The part takes bytes from the line: it is not held in reset (R189) and does not transmit (R2). -/
def receiving (s : State) : Bool :=
  !s.heldInReset && (match s.link.reply with | .sending _ => false | .pending _ => true | .empty => true)

/-- The receiver replaced. -/
def putReceiver (r : Receiver) (s : State) : State := { s with link := { s.link with receiver := r } }

/-- A byte or a frame on LINK after its start bit: `f` is what the receiver does with it, unless that start bit
performed a soft reset, which discards it with its frame (R187, log entry 6). -/
def afterStartBit (f : State → State) (s : State) : State :=
  if s.link.discarding then putDiscarding false s else f s

/-- A byte or a frame on LINK, whose first start bit abandons a reply that is PENDING (R10). -/
def onLine (f : State → State) (s : State) : State :=
  if receiving s then afterStartBit f (abandonReply s) else s

/-- A frame taken whole from LEAD to CHECK, the receiver hunting at its start. A LEN above 48 discards it
(R3). -/
def takeFrame (f : State → State) (payload : List Byte) (s : State) : State :=
  if Config.maxLen < payload.length then putReceiver receiverHunting s else f (putReceiver receiverHunting s)

/-- A good frame taken whole from LINK. -/
def receiveFrame (kind : Byte) (payload : List Byte) (s : State) : State :=
  onLine (takeFrame (dispatch kind payload) payload) s

/-- A frame taken whole with the CHECK given: dispatched when it is good, discarded silently otherwise
(R5). -/
def receiveChecked (kind : Byte) (payload : List Byte) (check : Check) (s : State) : State :=
  onLine
    (takeFrame (fun x => if check = frameCheck kind payload then dispatch kind payload x else x) payload) s

/-- The receiver after a byte that does not end a frame (Table 1-2). -/
def advanceReceiver (r : Receiver) (b : Byte) : Receiver :=
  match r.phase with
  | .hunt =>
    if b = Config.lead then
      { phase := .kind, kind := 0, length := 0, taken := [], crc := Config.crcStart, checkHi := 0,
        gapRunning := true }
    else receiverHunting
  | .kind => { r with phase := .len, kind := b, crc := crcByte r.crc b, gapRunning := true }
  | .len =>
    if Config.maxLen < b.toNat then receiverHunting
    else { r with phase := if b.toNat = 0 then .checkHi else .payload, length := b.toNat, taken := [],
                  crc := crcByte r.crc b, gapRunning := true }
  | .payload =>
    { r with phase := if r.length ≤ r.taken.length + 1 then .checkHi else .payload, taken := r.taken ++ [b],
             crc := crcByte r.crc b, gapRunning := true }
  | .checkHi => { r with phase := .checkLo, checkHi := b, gapRunning := true }
  | .checkLo => receiverHunting

/-- The frame check at CHECK_LO (R5). -/
def frameGood (r : Receiver) (b : Byte) : Bool := decide (r.checkHi ++ b = r.crc)

/-- The receiver takes a byte (Table 1-2). -/
def takeByte (b : Byte) (s : State) : State :=
  let r := s.link.receiver
  let s1 := putReceiver (advanceReceiver r b) s
  if r.phase = .checkLo ∧ frameGood r b = true then dispatch r.kind r.taken s1 else s1

/-- A byte received without a framing error (R3). -/
def receiveByte (b : Byte) (s : State) : State := onLine (takeByte b) s

/-- A byte with a framing error (R4): any frame in progress is discarded. -/
def receiveBroken (s : State) : State := onLine (putReceiver receiverHunting) s

/-- A LEN byte: above 48 it discards the frame as soon as it is received (R3). -/
def receiveLen (len : Byte) (s : State) : State :=
  onLine (fun x => if Config.maxLen < len.toNat then putReceiver receiverHunting x else takeByte len x) s

/-- The gap timer runs past 200 µs (R4). -/
def gapExpired (s : State) : State :=
  if s.link.receiver.gapRunning then putReceiver receiverHunting s else s

/-! ## The reply's progress (R9 to R11) -/

/-- The reply's first start bit: PENDING to SENDING (R9). -/
def startReply (s : State) : State :=
  match s.link.reply with
  | .pending c => putReply (.sending c) s
  | .empty => s
  | .sending _ => s

/-- Telemetry due after the completion of a reply (R11, R12). -/
def telemetrySent (c : ReplyContent) (s : State) : State :=
  if c.kind = Config.kindTelemetry then { s with link := { s.link with telemetryDue := false } } else s

/-- The end of the reply's last stop bit (R11). -/
def completeReply (s : State) : State :=
  match s.link.reply with
  | .sending c =>
    c.notices.foldl (fun x n => noticeCompleted n x)
      (telemetrySent c (putReceiver receiverHunting (putReply .empty s)))
  | .empty => s
  | .pending _ => s

/-- LINK is driven by the part (R2). -/
def linkDriven (s : State) : Bool :=
  match s.link.reply with
  | .sending _ => true
  | .pending _ => false
  | .empty => false

end Sys2Proof.Machine
end

