-- ==== Sys2Proof/Machine/Frames.lean ====
section
/-! DEFINITION. The meanings of the commands that are frames taken whole from LINK, one definition for each
(rows CHANNELS to CHECK_MISMATCH_FRAME of the table). A frame's first start bit abandons a PENDING reply; a
frame is not received while the part transmits or is held in reset; otherwise it is dispatched by R7. -/

namespace Sys2Proof.Machine

/-- CHANNELS (R8). -/
def execChannels (payload : List Byte) (s : State) : Host.Outcome State Fault Refusal :=
  .next (receiveFrame Config.kindChannels payload s)

/-- The payload of a SETUP_WRITE (Table 11-3). -/
def writePayload (id index : Byte) (entry : List Byte) : List Byte := id :: index :: entry

/-- A SETUP_WRITE frame with its first two payload bytes named. -/
def receiveWrite (id index : Byte) (entry : List Byte) (s : State) : State :=
  receiveFrame Config.kindSetupWrite (writePayload id index entry) s

/-- SETUP_WRITE of any payload (R23); the rows below name the tables whose owner acts at the write. -/
def execSetupWrite (payload : List Byte) (s : State) : Host.Outcome State Fault Refusal :=
  .next (receiveFrame Config.kindSetupWrite payload s)

/-- SETUP_WRITE of the LINK record (R21). -/
def execLinkRecordWrite (index : Byte) (entry : List Byte) (s : State) : Host.Outcome State Fault Refusal :=
  .next (receiveWrite 16 index entry s)

/-- SETUP_WRITE of the STEER record (R46). -/
def execSteerRecordWrite (index : Byte) (entry : List Byte) (s : State) : Host.Outcome State Fault Refusal :=
  .next (receiveWrite 4 index entry s)

/-- SETUP_WRITE of the DRIVE record (R74). -/
def execDriveRecordWrite (index : Byte) (entry : List Byte) (s : State) : Host.Outcome State Fault Refusal :=
  .next (receiveWrite 7 index entry s)

/-- SETUP_WRITE of the WINCH record (R88). -/
def execWinchRecordWrite (index : Byte) (entry : List Byte) (s : State) : Host.Outcome State Fault Refusal :=
  .next (receiveWrite 8 index entry s)

/-- SETUP_WRITE of a LAMP entry (R118). -/
def execLampWrite (index : Byte) (entry : List Byte) (s : State) : Host.Outcome State Fault Refusal :=
  .next (receiveWrite 9 index entry s)

/-- SETUP_WRITE of a SCENE entry (R119). -/
def execSceneWrite (index : Byte) (entry : List Byte) (s : State) : Host.Outcome State Fault Refusal :=
  .next (receiveWrite 10 index entry s)

/-- SETUP_WRITE of a CUE entry (R131). -/
def execCueWrite (index : Byte) (entry : List Byte) (s : State) : Host.Outcome State Fault Refusal :=
  .next (receiveWrite 11 index entry s)

/-- SETUP_WRITE of a SCAN entry (R140). -/
def execScanWrite (index : Byte) (entry : List Byte) (s : State) : Host.Outcome State Fault Refusal :=
  .next (receiveWrite 12 index entry s)

/-- SETUP_WRITE of the PROTECT record (R143). -/
def execProtectWrite (index : Byte) (entry : List Byte) (s : State) : Host.Outcome State Fault Refusal :=
  .next (receiveWrite 13 index entry s)

/-- SETUP_WRITE of a BUDGET entry (R158). -/
def execBudgetWrite (index : Byte) (entry : List Byte) (s : State) : Host.Outcome State Fault Refusal :=
  .next (receiveWrite 14 index entry s)

/-- SETUP_WRITE of an INPUT entry (R170). -/
def execInputWrite (index : Byte) (entry : List Byte) (s : State) : Host.Outcome State Fault Refusal :=
  .next (receiveWrite 15 index entry s)

/-- SETUP_READ (R24). -/
def execSetupRead (payload : List Byte) (s : State) : Host.Outcome State Fault Refusal :=
  .next (receiveFrame Config.kindSetupRead payload s)

/-- A QUERY frame of one selector byte (R25). -/
def receiveQuery (selector : Byte) (s : State) : State := receiveFrame Config.kindQuery [selector] s

/-- QUERY STATUS (R176). -/
def execStatusQuery (s : State) : Host.Outcome State Fault Refusal := .next (receiveQuery 1 s)

/-- QUERY MEASURE (R152). -/
def execMeasureQuery (s : State) : Host.Outcome State Fault Refusal := .next (receiveQuery 2 s)

/-- QUERY WINCH (R113). -/
def execWinchQuery (s : State) : Host.Outcome State Fault Refusal := .next (receiveQuery 3 s)

/-- QUERY BUDGET (R166). -/
def execBudgetQuery (s : State) : Host.Outcome State Fault Refusal := .next (receiveQuery 4 s)

/-- QUERY STEER (R68). -/
def execSteerQuery (s : State) : Host.Outcome State Fault Refusal := .next (receiveQuery 5 s)

/-- An ACTION frame of one action byte (R25). -/
def receiveAction (code : Byte) (s : State) : State := receiveFrame Config.kindAction [code] s

/-- ACTION ENTER_SETUP (R19). -/
def execEnterSetup (s : State) : Host.Outcome State Fault Refusal := .next (receiveAction 1 s)

/-- ACTION LEAVE_SETUP (R20). -/
def execLeaveSetup (s : State) : Host.Outcome State Fault Refusal := .next (receiveAction 2 s)

/-- ACTION STORE (R182). -/
def execStore (s : State) : Host.Outcome State Fault Refusal := .next (receiveAction 3 s)

/-- ACTION RESTORE_DEFAULTS (R186). -/
def execRestoreDefaults (s : State) : Host.Outcome State Fault Refusal := .next (receiveAction 4 s)

/-- ACTION SOFT_RESET (R187). -/
def execSoftReset (s : State) : Host.Outcome State Fault Refusal := .next (receiveAction 5 s)

/-- ACTION CLEAR_PROTECT (R151). -/
def execClearProtect (s : State) : Host.Outcome State Fault Refusal := .next (receiveAction 6 s)

/-- ACTION WINCH_HOME (R100). -/
def execWinchHome (s : State) : Host.Outcome State Fault Refusal := .next (receiveAction 7 s)

/-- ACTION WINCH_CLEAR (R111). -/
def execWinchClear (s : State) : Host.Outcome State Fault Refusal := .next (receiveAction 8 s)

/-- A good frame of an unknown or outbound kind (R7). -/
def execUnknownKindFrame (kind : Byte) (payload : List Byte) (s : State) : Host.Outcome State Fault Refusal :=
  .next (receiveFrame kind payload s)

/-- A frame whose CHECK differs from the computed CRC (R5). -/
def execCheckMismatchFrame (kind : Byte) (payload : List Byte) (check : Check) (s : State) :
    Host.Outcome State Fault Refusal :=
  .next (receiveChecked kind payload check s)

end Sys2Proof.Machine
end

