-- ==== Sys2Proof/Machine/LineEvents.lean ====
section
/-! DEFINITION. The meanings of the commands that are bytes and events on LINK (rows GAP_TIMEOUT to
REPLY_COMPLETE, and BYTE_RECEIVED). -/

namespace Sys2Proof.Machine

/-- GAP_TIMEOUT (R4). -/
def execGapTimeout (s : State) : Host.Outcome State Fault Refusal := .next (gapExpired s)

/-- FRAMING_ERROR (R4). -/
def execFramingError (s : State) : Host.Outcome State Fault Refusal := .next (receiveBroken s)

/-- LEN_DISCARD (R3). -/
def execLenDiscard (len : Byte) (s : State) : Host.Outcome State Fault Refusal := .next (receiveLen len s)

/-- REPLY_START (R9). -/
def execReplyStart (s : State) : Host.Outcome State Fault Refusal := .next (startReply s)

/-- REPLY_ABANDON (R10). -/
def execReplyAbandon (s : State) : Host.Outcome State Fault Refusal := .next (abandonReply s)

/-- REPLY_COMPLETE (R11). -/
def execReplyComplete (s : State) : Host.Outcome State Fault Refusal := .next (completeReply s)

/-- BYTE_RECEIVED (R3). -/
def execByteReceived (byte : Byte) (s : State) : Host.Outcome State Fault Refusal := .next (receiveByte byte s)

end Sys2Proof.Machine
end

