-- ==== Sys2Proof/Machine/PowerEvents.lean ====
section
/-! DEFINITION. The meanings of the commands of start-up, the store's progress and the supply (R181, R183,
R189). An operation that is not in progress does not end: its command then changes nothing (log entry 2). -/

namespace Sys2Proof.Machine

/-- LOAD_COMPLETE (R181): once after each reset, when the part is no longer held. -/
def execLoadComplete (in0 in1 in2 in3 enca encb : Level) (s : State) : Host.Outcome State Fault Refusal :=
  .next (if !s.heldInReset && !s.store.loaded then loadCompleted #v[in0, in1, in2, in3] enca encb s else s)

/-- The erase of the image ends (R183). -/
def eraseEnded (s : State) : State :=
  match s.store.state with
  | .idle => s
  | .erasing content => putStore { s.store with state := .programming content } s
  | .programming _ => s

/-- ERASE_END (R183). -/
def execEraseEnd (s : State) : Host.Outcome State Fault Refusal := .next (eraseEnded s)

/-- Programming and verifying end (R183). -/
def programmingEnded (v : Verify) (s : State) : State :=
  match s.store.state with
  | .idle => s
  | .erasing _ => s
  | .programming content => storeEnded content v s

/-- STORE_END (R183). -/
def execStoreEnd (verify : Verify) (s : State) : Host.Outcome State Fault Refusal :=
  .next (programmingEnded verify s)

/-- POWER_ON_RESET (R189). -/
def execPowerOnReset (s : State) : Host.Outcome State Fault Refusal := .next (resetPart .powerOn s)

/-- BROWN_OUT_RESET (R189). -/
def execBrownOutReset (s : State) : Host.Outcome State Fault Refusal := .next (resetPart .brownOut s)

/-- LEAVE_RESET (R189): the supply stands at or above the threshold, and INIT begins. -/
def execLeaveReset (s : State) : Host.Outcome State Fault Refusal := .next { s with heldInReset := false }

end Sys2Proof.Machine
end

