-- ==== Sys2Proof/Machine/SenseEvents.lean ====
section
/-! DEFINITION. The meanings of the commands that are events of the sense inputs: the encoder (R97), the end
of a conversion (R141), the sample tick (R171). None acts before load complete starts the unit that takes it
(log entry 2). -/

namespace Sys2Proof.Machine

/-- ENCODER_COUNT (R97): WCH samples the pair from load complete on. -/
def execEncoderCount (enca encb : Level) (s : State) : Host.Outcome State Fault Refusal :=
  .next (if s.winch.ticking then onWinchEvent (fun c w => winchEncoder c enca encb w) s else s)

/-- CONVERSION_END (R141): the stopped scanner converts nothing. -/
def execConversionEnd (inputs : SenseInputs) (s : State) : Host.Outcome State Fault Refusal :=
  .next (conversionEnded inputs s)

/-- SAMPLE_TICK (R171). -/
def execSampleTick (in0 in1 in2 in3 : Level) (s : State) : Host.Outcome State Fault Refusal :=
  .next (if s.inputs.ticking then takeSamples #v[in0, in1, in2, in3] s else s)

end Sys2Proof.Machine
end

