-- ==== Sys2Proof/Machine/TimerEvents.lean ====
section
/-! DEFINITION. The meanings of the commands that are expiries and ticks of the part's own timers. A timer
that is stopped does not expire: its command then changes nothing (log entry 2). -/

namespace Sys2Proof.Machine

/-! ## The hold timer (R16, R17) -/

/-- The hold timer expires while it runs. -/
def holdExpired (s : State) : State :=
  match s.link.run with
  | .init => s
  | .wait => s
  | .run => enterFailsafe s
  | .failsafe => restartHold (putRecovery 0 s)
  | .setup => s

/-- HOLD_TIMER_EXPIRY (R16). -/
def execHoldTimerExpiry (s : State) : Host.Outcome State Fault Refusal :=
  .next (if s.link.hold.running then holdExpired s else s)

/-! ## The servo period (R54, R71, R72, R75) -/

/-- STC takes the period start. -/
def steeringTakesPeriod (s : State) : State :=
  putSteering (steeringPeriod s.tables (grantOf s 0) s.winch.state s.steering) s

/-- DRV reads its grant before S4's pulse begins, and computes again when it has changed (R75). -/
def driveTakesPeriod (s : State) : State := if grantOf s 1 = s.drive.grantUsed then s else driveCompute s

/-- A servo-period start: the next period is timed, STC and DRV take it, the pulses begin. That STC takes it before
DRV, so that LTC receives a change of ALIGNING before a change of REVERSE or BRAKING of the same start, is the
model's choice (log entry 5). -/
def servoPeriodStarted (s : State) : State :=
  beginPulses (driveTakesPeriod (steeringTakesPeriod (startPeriod s)))

/-- SERVO_PERIOD_START (R71). -/
def execServoPeriodStart (s : State) : Host.Outcome State Fault Refusal :=
  .next (if s.drive.period.running then servoPeriodStarted s else s)

/-! ## The BRAKING timer (R82) -/

/-- BRAKING becomes false and the timer stops. -/
def brakingExpired (s : State) : State :=
  putDrive { s.drive with braking := false, brakingTimer := stopTimer s.drive.brakingTimer } s

/-- BRAKING_TIMER_EXPIRY (R82). -/
def execBrakingTimerExpiry (s : State) : Host.Outcome State Fault Refusal :=
  .next (if s.drive.brakingTimer.running then brakingExpired s else s)

/-! ## The winch (R89, R105, R107, R108) -/

/-- RAMP_TICK (R89). -/
def execRampTick (s : State) : Host.Outcome State Fault Refusal :=
  .next (if s.winch.ticking then onWinchEvent winchTick s else s)

/-- The stall timer expires: it stops, and STALL is detected. -/
def stallExpired (c : WinchContext) (w : Winch) : WinchStep :=
  winchFaulted c .stall (winchBegin { w with stallTimer := stopTimer w.stallTimer })

/-- STALL_TIMER_EXPIRY (R107). -/
def execStallTimerExpiry (s : State) : Host.Outcome State Fault Refusal :=
  .next (if s.winch.stallTimer.running then onWinchEvent stallExpired s else s)

/-- The no-motion timer expires: it stops, and NO_MOTION is detected. -/
def noMotionExpired (c : WinchContext) (w : Winch) : WinchStep :=
  winchFaulted c .noMotion (winchBegin { w with noMotionTimer := stopTimer w.noMotionTimer })

/-- NO_MOTION_TIMER_EXPIRY (R108). -/
def execNoMotionTimerExpiry (s : State) : Host.Outcome State Fault Refusal :=
  .next (if s.winch.noMotionTimer.running then onWinchEvent noMotionExpired s else s)

/-- The clutch timer expires: it stops, and the clutch has not moved. -/
def clutchExpired (c : WinchContext) (w : Winch) : WinchStep :=
  winchFaulted c .clutch (winchBegin { w with clutchTimer := stopTimer w.clutchTimer })

/-- CLUTCH_TIMER_EXPIRY (R105). -/
def execClutchTimerExpiry (s : State) : Host.Outcome State Fault Refusal :=
  .next (if s.winch.clutchTimer.running then onWinchEvent clutchExpired s else s)

/-! ## The cue tick and the budget timer (R128, R159) -/

/-- CUE_TICK (R128). -/
def execCueTick (s : State) : Host.Outcome State Fault Refusal :=
  .next (if s.lights.ticking then putLights (lightsTick s.tables (grantOf s 3) s.lights) s else s)

/-- BUDGET_TIMER_EXPIRY (R159). -/
def execBudgetTimerExpiry (s : State) : Host.Outcome State Fault Refusal :=
  .next (if s.budget.timer.running then startBudgetTimer (computeBudget s) else s)

end Sys2Proof.Machine
end

