-- ==== Sys2Proof/Machine/Dispatch.lean ====
section
/-! DEFINITION. One arm per command: the direct call of its meaning. -/

namespace Sys2Proof.Machine

def exec (i : Instr) (s : State) : Host.Outcome State Fault Refusal :=
  match i with
  | .channels payload => Sys2Proof.Machine.execChannels payload s
  | .setupWrite payload => Sys2Proof.Machine.execSetupWrite payload s
  | .linkRecordWrite index entry => Sys2Proof.Machine.execLinkRecordWrite index entry s
  | .steerRecordWrite index entry => Sys2Proof.Machine.execSteerRecordWrite index entry s
  | .driveRecordWrite index entry => Sys2Proof.Machine.execDriveRecordWrite index entry s
  | .winchRecordWrite index entry => Sys2Proof.Machine.execWinchRecordWrite index entry s
  | .lampWrite index entry => Sys2Proof.Machine.execLampWrite index entry s
  | .sceneWrite index entry => Sys2Proof.Machine.execSceneWrite index entry s
  | .cueWrite index entry => Sys2Proof.Machine.execCueWrite index entry s
  | .scanWrite index entry => Sys2Proof.Machine.execScanWrite index entry s
  | .protectWrite index entry => Sys2Proof.Machine.execProtectWrite index entry s
  | .budgetWrite index entry => Sys2Proof.Machine.execBudgetWrite index entry s
  | .inputWrite index entry => Sys2Proof.Machine.execInputWrite index entry s
  | .setupRead payload => Sys2Proof.Machine.execSetupRead payload s
  | .statusQuery => Sys2Proof.Machine.execStatusQuery s
  | .measureQuery => Sys2Proof.Machine.execMeasureQuery s
  | .winchQuery => Sys2Proof.Machine.execWinchQuery s
  | .budgetQuery => Sys2Proof.Machine.execBudgetQuery s
  | .steerQuery => Sys2Proof.Machine.execSteerQuery s
  | .enterSetup => Sys2Proof.Machine.execEnterSetup s
  | .leaveSetup => Sys2Proof.Machine.execLeaveSetup s
  | .store => Sys2Proof.Machine.execStore s
  | .restoreDefaults => Sys2Proof.Machine.execRestoreDefaults s
  | .softReset => Sys2Proof.Machine.execSoftReset s
  | .clearProtect => Sys2Proof.Machine.execClearProtect s
  | .winchHome => Sys2Proof.Machine.execWinchHome s
  | .winchClear => Sys2Proof.Machine.execWinchClear s
  | .unknownKindFrame kind payload => Sys2Proof.Machine.execUnknownKindFrame kind payload s
  | .checkMismatchFrame kind payload check => Sys2Proof.Machine.execCheckMismatchFrame kind payload check s
  | .gapTimeout => Sys2Proof.Machine.execGapTimeout s
  | .framingError => Sys2Proof.Machine.execFramingError s
  | .lenDiscard len => Sys2Proof.Machine.execLenDiscard len s
  | .replyStart => Sys2Proof.Machine.execReplyStart s
  | .replyAbandon => Sys2Proof.Machine.execReplyAbandon s
  | .replyComplete => Sys2Proof.Machine.execReplyComplete s
  | .holdTimerExpiry => Sys2Proof.Machine.execHoldTimerExpiry s
  | .servoPeriodStart => Sys2Proof.Machine.execServoPeriodStart s
  | .brakingTimerExpiry => Sys2Proof.Machine.execBrakingTimerExpiry s
  | .rampTick => Sys2Proof.Machine.execRampTick s
  | .stallTimerExpiry => Sys2Proof.Machine.execStallTimerExpiry s
  | .noMotionTimerExpiry => Sys2Proof.Machine.execNoMotionTimerExpiry s
  | .clutchTimerExpiry => Sys2Proof.Machine.execClutchTimerExpiry s
  | .encoderCount enca encb => Sys2Proof.Machine.execEncoderCount enca encb s
  | .cueTick => Sys2Proof.Machine.execCueTick s
  | .conversionEnd inputs => Sys2Proof.Machine.execConversionEnd inputs s
  | .budgetTimerExpiry => Sys2Proof.Machine.execBudgetTimerExpiry s
  | .sampleTick in0 in1 in2 in3 => Sys2Proof.Machine.execSampleTick in0 in1 in2 in3 s
  | .loadComplete in0 in1 in2 in3 enca encb => Sys2Proof.Machine.execLoadComplete in0 in1 in2 in3 enca encb s
  | .eraseEnd => Sys2Proof.Machine.execEraseEnd s
  | .storeEnd verify => Sys2Proof.Machine.execStoreEnd verify s
  | .powerOnReset => Sys2Proof.Machine.execPowerOnReset s
  | .brownOutReset => Sys2Proof.Machine.execBrownOutReset s
  | .byteReceived byte => Sys2Proof.Machine.execByteReceived byte s
  | .leaveReset => Sys2Proof.Machine.execLeaveReset s

end Sys2Proof.Machine
end

