-- ==== Sys2Proof/Safety.lean ====
section
/-! DEFINITION. What a safe run of the part keeps, in the terms statements use: invariants taken from the
manual's prose, the state in which a frame is received, the shape of an answered frame, and the frame each
command stands for. -/

namespace Sys2Proof.Machine

/-! ## Receiving and answering -/

/-- The part takes a frame from the line with no reply in the way: it is not held in reset (R189), the reply
record is EMPTY (R9, R10), and no start bit has begun a frame that a soft reset discards (R187). -/
abbrev Listening (s : State) : Prop :=
  s.heldInReset = false ∧ s.link.reply = .empty ∧ s.link.discarding = false

/-- The state with the receiver in HUNT and everything else as it was: the effect of a silent discard (R4). -/
def State.discarded (s : State) : State := { s with link := { s.link with receiver := receiverHunting } }

/-- The state with the receiver in HUNT and an ANSWER pending (R6, R9). -/
def State.answered (s : State) (kind : Byte) (r : Result) (extra : List Byte) (notices : List Notice) : State :=
  { s with
    link :=
      { s.link with
        receiver := receiverHunting
        reply := .pending { kind := 0x52, payload := [kind, resultCode r] ++ extra, answered := kind,
                            notices := notices } } }

/-- The bytes of a frame on the line (Table 1-1). -/
def frameBytes (kind : Byte) (payload : List Byte) : List Byte :=
  [0xA7, kind, BitVec.ofNat 8 payload.length] ++ payload
    ++ [checkHigh (frameCheck kind payload), checkLow (frameCheck kind payload)]

/-- Bytes received one after another, each as a BYTE_RECEIVED command. -/
def feed : List Byte → State → Host.Outcome State Fault Refusal
  | [], s => .next s
  | b :: bs, s =>
    match exec (.byteReceived b) s with
    | .next t => feed bs t
    | .fault f => .fault f
    | .refused r => .refused r

/-- The KIND and payload of the good frame a command stands for; none for a command that is no good frame. -/
def frameOf : Instr → Option (Byte × List Byte)
  | .channels p => some (0x31, p)
  | .setupWrite p => some (0x42, p)
  | .linkRecordWrite i e => some (0x42, 16 :: i :: e)
  | .steerRecordWrite i e => some (0x42, 4 :: i :: e)
  | .driveRecordWrite i e => some (0x42, 7 :: i :: e)
  | .winchRecordWrite i e => some (0x42, 8 :: i :: e)
  | .lampWrite i e => some (0x42, 9 :: i :: e)
  | .sceneWrite i e => some (0x42, 10 :: i :: e)
  | .cueWrite i e => some (0x42, 11 :: i :: e)
  | .scanWrite i e => some (0x42, 12 :: i :: e)
  | .protectWrite i e => some (0x42, 13 :: i :: e)
  | .budgetWrite i e => some (0x42, 14 :: i :: e)
  | .inputWrite i e => some (0x42, 15 :: i :: e)
  | .setupRead p => some (0x43, p)
  | .statusQuery => some (0x44, [1])
  | .measureQuery => some (0x44, [2])
  | .winchQuery => some (0x44, [3])
  | .budgetQuery => some (0x44, [4])
  | .steerQuery => some (0x44, [5])
  | .enterSetup => some (0x45, [1])
  | .leaveSetup => some (0x45, [2])
  | .store => some (0x45, [3])
  | .restoreDefaults => some (0x45, [4])
  | .softReset => some (0x45, [5])
  | .clearProtect => some (0x45, [6])
  | .winchHome => some (0x45, [7])
  | .winchClear => some (0x45, [8])
  | .unknownKindFrame k p => some (k, p)
  | .checkMismatchFrame _ _ _ => none
  | .gapTimeout => none
  | .framingError => none
  | .lenDiscard _ => none
  | .replyStart => none
  | .replyAbandon => none
  | .replyComplete => none
  | .holdTimerExpiry => none
  | .servoPeriodStart => none
  | .brakingTimerExpiry => none
  | .rampTick => none
  | .stallTimerExpiry => none
  | .noMotionTimerExpiry => none
  | .clutchTimerExpiry => none
  | .encoderCount _ _ => none
  | .cueTick => none
  | .conversionEnd _ => none
  | .budgetTimerExpiry => none
  | .sampleTick _ _ _ _ => none
  | .loadComplete _ _ _ _ _ _ => none
  | .eraseEnd => none
  | .storeEnd _ => none
  | .powerOnReset => none
  | .brownOutReset => none
  | .byteReceived _ => none
  | .leaveReset => none

/-- The command ends a good frame of a KIND and a payload on LINK: it is that frame taken whole, or the byte that
agrees with the frame's CHECK when the receiver has taken the rest of it (R5). -/
def EndsFrame (c : Instr) (s : State) (kind : Byte) (payload : List Byte) : Prop :=
  frameOf c = some (kind, payload) ∨ c = .checkMismatchFrame kind payload (frameCheck kind payload)
    ∨ ∃ b, (c = .byteReceived b ∨ c = .lenDiscard b) ∧ s.link.receiver.phase = .checkLo
        ∧ s.link.receiver.kind = kind ∧ s.link.receiver.taken = payload
        ∧ s.link.receiver.checkHi ++ b = s.link.receiver.crc

/-- The content of a reply that is PENDING or SENDING. -/
def replyContent : Reply → Option ReplyContent
  | .empty => none
  | .pending c => some c
  | .sending c => some c

/-- The reply carries a notice. -/
def carries (n : Notice) (r : Reply) : Prop := ∃ c, replyContent r = some c ∧ n ∈ c.notices

/-- A frame discarded silently (R4): the receiver is in HUNT with its gap timer stopped, and nothing else has
changed. -/
def SilentlyDiscarded (s t : State) : Prop :=
  t = { s with link := { s.link with receiver := t.link.receiver } } ∧ t.link.receiver.phase = .hunt
    ∧ t.link.receiver.gapRunning = false

/-! ## SETUP_WRITE -/

/-- The entries of each table, in the order of table ids 1 to 16 (Table 1-9). -/
def entriesByTable : List Nat := [8, 36, 16, 1, 16, 4, 1, 1, 12, 8, 16, 8, 1, 4, 4, 1]

/-- The entry length of each table, in the order of table ids 1 to 16 (Table 11-8). -/
def lengthsByTable : List Nat := [11, 2, 4, 15, 4, 13, 22, 31, 3, 12, 15, 2, 31, 3, 2, 6]

/-- The ids of the RUNTIME tables: FUNC, CURVE, BAND, SCENE and CUE (Table 1-9). -/
def runtimeIds : List Nat := [1, 2, 3, 10, 11]

/-- A trigger or cancel source: a code of Table 11-7 with a parameter byte in the column for it (R120). -/
def sourceAllowed (code param : Nat) : Bool :=
  decide ((code ≤ 13 ∧ param = 0) ∨ ((code = 14 ∨ code = 15) ∧ param ≤ 7) ∨ ((code = 16 ∨ code = 32) ∧ param ≤ 3)
    ∨ (code = 33 ∧ param ≤ 15) ∨ ((code = 34 ∨ code = 35) ∧ param = 0))

/-- A number that may be NONE (Table 11-6). -/
def orNone (bound v : Nat) : Bool := decide (v ≤ bound ∨ v = 255)

/-- The checks of a table's owner on the bytes of entry `i`, field by field at the offsets of Table 11-8, with the
ranges of the owner's chapter and its relations between fields: Tables 2-2 (R28), R30, 2-7 (R35), 3-3 (R46), 3-4
(R47), 3-6 (R48), 4-2 (R74), 5-3 (R88), 6-1 (R118), R119, 6-3 (R120), 7-3 (R140), 7-5 (R143), 8-2 (R158), 9-2 (R170)
and 1-8 (R21). The SCAN and PROTECT checks read each other's table in force. -/
def entryAllowed (s : State) (i : Nat) (e : List Byte) : TableId → Bool
  | .func =>
    orNone 9 (u8At e 0) && orNone 3 (u8At e 7)
      && decide (u8At e 1 ≤ 1 ∧ u16At e 2 ≤ 4095 ∧ 200 ≤ u16At e 4 ∧ u16At e 4 ≤ 2047 ∧ u8At e 6 ≤ 200 ∧ u8At e 8 ≤ 1
        ∧ -1000 ≤ s16At e 9 ∧ s16At e 9 ≤ 1000 ∧ (i = 1 → u8At e 8 = 1 ∧ s16At e 9 = 0))
  | .curve => decide (-1000 ≤ s16At e 0 ∧ s16At e 0 ≤ 1000)
  | .band =>
    decide (u8At e 0 ∈ [3, 4, 5, 6, 255] ∧ u8At e 1 ≤ 63 ∧ 1 ≤ u8At e 2 ∧ u8At e 2 ≤ 6 ∧ u8At e 3 ≤ 7)
  | .steer =>
    decide ((∀ b : Fin 8, u8At e b.val ≤ 4) ∧ u8At e 8 ≤ 3 ∧ u16At e 9 ≤ 5000 ∧ u16At e 11 ≤ 2000 ∧ u16At e 13 ≤ 1000)
  | .geom => decide (-1000 ≤ s16At e 0 ∧ s16At e 0 ≤ 1000 ∧ u16At e 2 ≤ 500)
  | .corner =>
    decide (800 ≤ u16At e 0 ∧ u16At e 0 ≤ 2200 ∧ u16At e 2 ≤ 700 ∧ u16At e 4 ≤ 700 ∧ 500 ≤ u16At e 6 ∧ u16At e 6 ≤ 2500
      ∧ 500 ≤ u16At e 8 ∧ u16At e 8 ≤ 2500 ∧ u16At e 6 < u16At e 8 ∧ 1 ≤ u16At e 10 ∧ u16At e 10 ≤ 1000 ∧ u8At e 12 ≤ 1)
  | .drive =>
    decide (5 ≤ u8At e 0 ∧ u8At e 0 ≤ 20 ∧ 1000 ≤ u16At e 1 ∧ u16At e 1 ≤ 2000 ∧ u16At e 3 ≤ 700 ∧ u16At e 5 ≤ 700
      ∧ u16At e 7 ≤ 1000 ∧ u16At e 9 ≤ 1000 ∧ u16At e 11 ≤ 1000 ∧ 1000 ≤ u24At e 13 ∧ u24At e 13 ≤ 100000
      ∧ u16At e 16 ≤ 1000 ∧ 10 ≤ u16At e 18 ∧ u16At e 18 ≤ 1000 ∧ 100 ≤ u16At e 20 ∧ u16At e 20 ≤ 2000)
  | .winch =>
    decide (500 ≤ u16At e 0 ∧ u16At e 0 ≤ 30000 ∧ 100 ≤ u16At e 2 ∧ u16At e 2 ≤ 1000 ∧ 1 ≤ u8At e 4 ∧ u8At e 4 ≤ 100
      ∧ 100 ≤ u16At e 5 ∧ u16At e 5 ≤ 65000 ∧ u16At e 7 ≤ 5000 ∧ 100 ≤ u16At e 9 ∧ u16At e 9 ≤ 1000
      ∧ 1000 ≤ u16At e 11 ∧ u16At e 11 ≤ 50000 ∧ 10 ≤ u16At e 13 ∧ u16At e 13 ≤ 2000 ∧ 50 ≤ u16At e 15
      ∧ u16At e 15 ≤ 2000 ∧ 100 ≤ u16At e 17 ∧ u16At e 17 ≤ 1000 ∧ 800 ≤ u16At e 19 ∧ u16At e 19 ≤ 2200
      ∧ 800 ≤ u16At e 21 ∧ u16At e 21 ≤ 2200)
      && decide (100 ≤ u16At e 23 ∧ u16At e 23 ≤ 3000 ∧ 40 ≤ u8At e 25 ∧ u8At e 25 ≤ 150 ∧ 40 ≤ u8At e 26
        ∧ u8At e 26 ≤ 150 ∧ u8At e 25 < u8At e 26 ∧ u16At e 27 ≤ 500 ∧ u8At e 29 ∈ [5, 6, 255] ∧ u8At e 30 ≤ 7)
  | .lamp => decide (u16At e 0 ≤ 3000 ∧ u8At e 2 ≤ 1)
  | .scene => true
  | .cue =>
    sourceAllowed (u8At e 1) (u8At e 2) && sourceAllowed (u8At e 4) (u8At e 5) && orNone 15 (u8At e 14)
      && decide (u8At e 0 ≤ 1 ∧ u8At e 3 ≤ 2 ∧ u16At e 6 ≤ 4095 ∧ 1 ≤ u8At e 10 ∧ 1 ≤ u8At e 11 ∧ 1 ≤ u8At e 12
        ∧ u8At e 13 ≤ 3 ∧ (u8At e 3 = 1 → 1 ≤ u8At e 1 ∧ u8At e 1 ≤ 16))
  | .scan =>
    decide (u8At e 0 ≤ 8 ∧ u8At e 1 ∈ [1, 2, 4, 8] ∧ (u8At e 0 ≤ 4 → u8At e 0 ≤ s.tables.protect.cellCount))
  | .protect =>
    decide (2 ≤ u8At e 0 ∧ u8At e 0 ≤ 4 ∧ 2000 ≤ u16At e 1 ∧ u16At e 1 ≤ 4500 ∧ 2000 ≤ u16At e 3 ∧ u16At e 3 ≤ 4500
      ∧ 2000 ≤ u16At e 5 ∧ u16At e 5 ≤ 4500 ∧ u16At e 3 < u16At e 1 ∧ u16At e 5 < u16At e 3 ∧ 10 ≤ u16At e 7
      ∧ u16At e 7 ≤ 500 ∧ 1 ≤ u16At e 9 ∧ u16At e 9 ≤ 1000 ∧ 1 ≤ u16At e 11 ∧ u16At e 11 ≤ 5000 ∧ 1 ≤ u16At e 13
      ∧ u16At e 13 ≤ 1000)
      && decide (1000 ≤ u24At e 15 ∧ u24At e 15 ≤ 100000 ∧ 100 ≤ u16At e 18 ∧ u16At e 18 ≤ 1000 ∧ 100 ≤ u16At e 20
        ∧ u16At e 20 ≤ 1000 ∧ u16At e 22 ≤ 500 ∧ 1000 ≤ u24At e 24 ∧ u24At e 24 ≤ 149999 ∧ 1 ≤ u8At e 27
        ∧ u8At e 27 ≤ 100 ∧ 10 ≤ u16At e 28 ∧ u16At e 28 ≤ 1000 ∧ 10 ≤ u8At e 30 ∧ u8At e 30 ≤ 100
        ∧ ∀ k : Fin 8, scanSourceCode s.tables.scan[k].source ≤ 4 →
            scanSourceCode s.tables.scan[k].source ≤ u8At e 0)
  | .budget => decide (u8At e 0 ≤ 3 ∧ u16At e 1 ≤ 20000)
  | .input => decide (u8At e 0 ≤ 1 ∧ u8At e 1 ≤ 15)
  | .link =>
    decide (100 ≤ u16At e 0 ∧ u16At e 0 ≤ 2000 ∧ u16At e 0 % 10 = 0 ∧ 1 ≤ u8At e 2 ∧ u8At e 2 ≤ 10 ∧ u8At e 3 ≤ 50
      ∧ u16At e 4 ≤ 200)

/-- The entry that a SETUP_WRITE payload carries passes its owner's checks (Table 1-5, step 9). -/
def payloadAllowed (s : State) (p : List Byte) : Bool :=
  match tableIdOf (u8At p 0) with
  | none => false
  | some id => entryAllowed s (u8At p 1) (p.drop 2) id

/-- What the owner makes of the entry in a SETUP_WRITE payload (Table 1-5, step 9): the tables that replace the
present ones, or none for a RANGE. -/
def ownerAccepts (s : State) (p : List Byte) : Option Tables :=
  (tableIdOf (u8At p 0)).bind fun id => tablesWith s.tables id (u8At p 1) (p.drop 2)

/-- The order of checks of Table 1-5 on a SETUP_WRITE: the result that refuses it, none when every check
passes. -/
def writeRefusal (s : State) (p : List Byte) : Option Result :=
  if s.link.run = .init then some .state
  else if storeInFlight s.store = true then some .busy
  else if p.length < 2 then some .length
  else if u8At p 0 = 0 ∨ 16 < u8At p 0 then some .table
  else if entriesByTable.getD (u8At p 0 - 1) 0 ≤ u8At p 1 then some .index
  else if p.length ≠ 2 + lengthsByTable.getD (u8At p 0 - 1) 0 then some .length
  else if u8At p 0 ∉ runtimeIds ∧ s.link.run ≠ .setup then some .state
  else if payloadAllowed s p = false then some .range
  else none

/-- A SETUP_WRITE of payload `p` reaches a listening part and is accepted, with the tables `t` in force from
then on. -/
def Accepted (s : State) (p : List Byte) (t : Tables) : Prop :=
  Listening s ∧ writeRefusal s p = none ∧ ownerAccepts s p = some t

/-- The link after an accepted write: the DONE answer of a SETUP_WRITE is pending. -/
def writeDone (s : State) : Link := (s.answered 0x42 .done [] []).link

/-- The state after an accepted write of which the owner makes nothing at the write: the entry is in force and
the answer is DONE. -/
def State.rewritten (s : State) (t : Tables) : State := { s.answered 0x42 .done [] [] with tables := t }

/-! ## Other terms -/

/-- The pair of encoder levels that follows another in the pay-out sequence (R97). -/
def payOutNext : Level × Level → Level × Level
  | (.low, .low) => (.high, .low)
  | (.high, .low) => (.high, .high)
  | (.high, .high) => (.low, .high)
  | (.low, .high) => (.low, .low)

/-- The record's figures are in their ranges (R27): every value in −1000..+1000, and 0 for STEER_SEL,
LIGHT_SEL and AUX1. -/
structure RecordInRange (r : FunctionRecord) : Prop where
  steer : -1000 ≤ r.steer ∧ r.steer ≤ 1000
  throttle : -1000 ≤ r.throttle ∧ r.throttle ≤ 1000
  winch : -1000 ≤ r.winch ∧ r.winch ≤ 1000
  aux2 : -1000 ≤ r.aux2 ∧ r.aux2 ≤ 1000
  rate : -1000 ≤ r.rate ∧ r.rate ≤ 1000
  bandOnly : r.steerSel = 0 ∧ r.lightSel = 0 ∧ r.aux1 = 0

/-- The function record and the copies STC, DRV and WCH keep of it are in range, and the working copy is
valid (R27, R180). -/
structure RecordsSound (s : State) : Prop where
  valid : tablesValid s.tables = true
  record : RecordInRange s.record
  steering : RecordInRange s.steering.record
  drive : RecordInRange s.drive.record
  winch : RecordInRange s.winch.record

/-! ## Invariants -/

/-- What runs runs from load complete to the next reset: the run state is INIT exactly while the load state
is LOADING (R14, R181); the period timer, the ramp tick, the cue tick, the PWM cycles, the budget timer and
the sample tick run, and S4 and S5 are ACTIVE, exactly while it is LOADED (R71, R73, R89, R117, R128, R159,
R171); the scanner is stopped (R142), the corners (R60) and the winch with its three timers (R114) are at rest
before it, and the function record and WCH's copy of it hold their reset values (R44, R114); S6 is
ACTIVE together with S0–S3 (R73); a part held in reset is LOADING (R189). -/
structure StartUp (s : State) : Prop where
  initLoading : s.link.run = .init ↔ s.store.loaded = false
  held : s.heldInReset = true → s.store.loaded = false
  period : s.drive.period.running = s.store.loaded
  rampTick : s.winch.ticking = s.store.loaded
  cueTick : s.lights.ticking = s.store.loaded
  pwm : s.lights.pwm = s.store.loaded
  budget : s.budget.timer.running = s.store.loaded
  sampleTick : s.inputs.ticking = s.store.loaded
  s4 : s.drive.s4Active = s.store.loaded
  s5 : s.drive.s5Active = s.store.loaded
  s6 : s.drive.s6Active = s.steering.active
  scanner : s.store.loaded = false → s.scanner.pass = none
  corners : s.store.loaded = false → s.steering.active = false
  winch : s.store.loaded = false → s.winch.state = .idle ∧ s.winch.clutchTimer.running = false
    ∧ s.winch.stallTimer.running = false ∧ s.winch.noMotionTimer.running = false
  records : s.store.loaded = false → s.record = recordAfterReset ∧ s.winch.record = recordAfterReset

/-- The link controller: the hold timer runs exactly in RUN and FAILSAFE (R16); the recovery count stands
above 0 only in FAILSAFE (R18); while a reply is PENDING or SENDING the receiver is in HUNT (R10, R11); the
gap timer runs exactly outside HUNT (R4); a frame that a soft reset discards finds the receiver in HUNT and no
reply (R187, R26). -/
structure LinkSound (s : State) : Prop where
  loading : s.link.run = .init ↔ s.store.loaded = false
  hold : s.link.hold.running = true ↔ s.link.run = .run ∨ s.link.run = .failsafe
  recovery : s.link.recovery ≠ 0 → s.link.run = .failsafe
  hunting : s.link.reply ≠ .empty → s.link.receiver = receiverHunting
  gap : s.link.receiver.gapRunning = true ↔ s.link.receiver.phase ≠ .hunt
  discarding : s.link.discarding = true → s.link.reply = .empty ∧ s.link.receiver = receiverHunting

/-- The receiver (R3, R5, Table 1-2): LEN is within 48; in PAYLOAD fewer bytes than LEN have been taken, and
once CHECK is awaited exactly LEN; the running CRC is that of KIND, LEN and the payload bytes taken so far. -/
structure ReceiverSound (r : Receiver) : Prop where
  length : r.length ≤ 48
  payload : r.phase = .payload → r.taken.length < r.length
  whole : r.phase = .checkHi ∨ r.phase = .checkLo → r.taken.length = r.length
  crcKind : r.phase = .kind → r.crc = 0xFFFF
  crcLen : r.phase = .len → r.crc = crc [r.kind]
  crcPayload : r.phase = .payload ∨ r.phase = .checkHi ∨ r.phase = .checkLo →
    r.crc = crc (r.kind :: BitVec.ofNat 8 r.length :: r.taken)

/-- The notices: a soft reset is pending exactly while the reply carries its notice (R187), a reported set
stands exactly while the reply carries the STATUS notice (R176, R177), and the reported set holds only flags
that are set (R176). -/
structure NoticesSound (s : State) : Prop where
  softReset : s.store.pendingSoftReset = true ↔ carries .softReset s.link.reply
  reported : s.inputs.reported ≠ none ↔ carries .statusReport s.link.reply
  subset : ∀ r, s.inputs.reported = some r → ∀ i : Fin 15, r[i] = true → s.inputs.flags[i] = true

/-- A store is in flight only in SETUP (R182), and the image is invalid for as long (R183, R185). -/
structure StoreSound (s : State) : Prop where
  inSetup : storeInFlight s.store = true → s.link.run = .setup
  invalid : storeInFlight s.store = true → loadImage s.store.image = none

/-- The throttle: t2 and the DRIVE demand are 0 outside RUN and in CUTOFF (R78); BRAKING is true exactly
while its timer runs (R81, R82); while S4 is ACTIVE, t2 is within the ceiling of the grant used (R78), and the
S4 width (R79) and REVERSE (R80) are those of t2. -/
structure ThrottleSound (s : State) : Prop where
  zeroed : s.link.run ≠ .run ∨ s.protection.state = .cutoff → s.drive.t2 = 0 ∧ s.drive.filed = 0
  braking : s.drive.braking = s.drive.brakingTimer.running
  ceiling : s.drive.s4Active = true →
    s.drive.t2.natAbs ≤ min 1000 (s.drive.grantUsed * 1000 / s.tables.drive.ratedCurrent)
  width : s.drive.s4Active = true → s.drive.s4Width = throttleWidth s.tables.drive s.drive.t2
  reverse : s.drive.s4Active = true →
    (s.drive.reverse = true ↔ s.drive.t2 < -(s.tables.drive.reverseThreshold : Int))

/-- The direction a winch state has (Table 5-2); RAMP_DOWN keeps the one it had. -/
def directionFits : WinchState → Direction → Bool
  | .haulIn, d => d == .haulIn
  | .payOut, d => d == .payOut
  | .rampDown, d => d != .none
  | _, d => d == .none

/-- The winch: the duty is not 0 only in HAUL_IN, PAY_OUT and RAMP_DOWN (R89), the target and the demand only
in HAUL_IN and PAY_OUT (R91, R92); the direction is that of Table 5-2; HAUL_IN, PAY_OUT, CLUTCH_OUT and
FREESPOOL stand only in RUN with the protection state not CUTOFF (R93, R96, R102, R103); the command is 0
outside RUN (R90); the clutch timer runs only in CLUTCH_OUT and CLUTCH_IN (R105), and the stall and the no-motion
timer only while the duty is above 0 (R107, R108); the WINCH record in force is valid (R88); a cause is recorded
exactly in FAULT (R106, R111); the clutch width is that of the state once the record is loaded (R87); the freespool
request is that of the record held (R101); the line count is within its ends (R97). -/
structure WinchSound (s : State) : Prop where
  duty : s.winch.duty ≠ 0 → winchMoves s.winch.state = true
  target : s.winch.target ≠ 0 → hauling s.winch.state = true
  demand : s.winch.filed ≠ 0 → hauling s.winch.state = true
  direction : directionFits s.winch.state s.winch.direction = true
  running : hauling s.winch.state = true ∨ released s.winch.state = true →
    s.link.run = .run ∧ s.protection.state ≠ .cutoff
  command : s.link.run ≠ .run → s.winch.command = 0
  clutchTimer : s.winch.clutchTimer.running = true → s.winch.state = .clutchOut ∨ s.winch.state = .clutchIn
  stallTimer : s.winch.stallTimer.running = true → 0 < s.winch.duty
  noMotionTimer : s.winch.noMotionTimer.running = true → 0 < s.winch.duty
  record : winchInRange s.tables.winch = true
  fault : s.winch.state = .fault ↔ s.winch.cause ≠ .none
  further : s.winch.further = true → s.winch.state = .fault
  clutch : s.winch.ticking = true → s.winch.clutchWidth = positionFor s.tables.winch s.winch.state
  request : s.winch.request = freespoolRequest s.tables.winch s.winch.record
  line : s.winch.line.natAbs ≤ 65535

/-- The active cue list holds at most 8 instances, and never two of one cue (R126). -/
structure CueListSound (s : State) : Prop where
  bounded : s.lights.active.length ≤ 8
  distinct : (s.lights.active.map (·.cue)).Nodup

/-- A WHILE instance stands only while its trigger source's kept value is true (R130), and before load complete the
active cue list is empty (R136, R137). -/
structure CuesFollowSources (s : State) : Prop where
  resting : s.store.loaded = false → s.lights.active = []
  whileTrue : ∀ i ∈ s.lights.active, s.tables.cue[i.cue].mode = .whileTrue →
    ∃ l, s.tables.cue[i.cue].trigger = some (.level l) ∧ keptValue s.lights.kept l = true

/-- LTC's kept values are its owners' conditions (R121, R122, R136): all false before load complete, and from then on
those of DRV, STC, WCH (R112), BPR, LNK, of the bands of the function record, and of the accepted levels. The turn
sources, which follow the record and the threshold in force at the last function update, are not among them. -/
structure SourcesFollowOwners (s : State) : Prop where
  resting : s.store.loaded = false → ∀ i : Fin 33, s.lights.kept[i] = false
  reverse : s.store.loaded = true → keptValue s.lights.kept .reverse = s.drive.reverse
  braking : s.store.loaded = true → keptValue s.lights.kept .braking = s.drive.braking
  aligning : s.store.loaded = true → (keptValue s.lights.kept .aligning = true ↔ s.steering.status = .align)
  winchMoving : s.store.loaded = true → (keptValue s.lights.kept .winchMoving = true ↔
    s.winch.state = .haulIn ∨ s.winch.state = .payOut ∨ s.winch.state = .rampDown)
  winchFree : s.store.loaded = true → (keptValue s.lights.kept .winchFree = true ↔
    s.winch.state = .clutchOut ∨ s.winch.state = .freespool ∨ s.winch.state = .clutchIn)
  winchFault : s.store.loaded = true → (keptValue s.lights.kept .winchFault = true ↔ s.winch.state = .fault)
  protCaution : s.store.loaded = true → (keptValue s.lights.kept .protCaution = true ↔ s.protection.state ≠ .normal)
  protLimit : s.store.loaded = true → (keptValue s.lights.kept .protLimit = true ↔
    s.protection.state = .limit ∨ s.protection.state = .cutoff)
  protCutoff : s.store.loaded = true → (keptValue s.lights.kept .protCutoff = true ↔ s.protection.state = .cutoff)
  failsafe : s.store.loaded = true → (keptValue s.lights.kept .failsafe = true ↔ s.link.run = .failsafe)
  setup : s.store.loaded = true → (keptValue s.lights.kept .setup = true ↔ s.link.run = .setup)
  bands : s.store.loaded = true → ∀ b : Fin 8,
    (keptValue s.lights.kept (.aux1Band b) = true ↔ s.record.aux1Band = some b)
      ∧ (keptValue s.lights.kept (.aux2Band b) = true ↔ s.record.aux2Band = some b)
  lines : s.store.loaded = true → ∀ n : Fin 4,
    (keptValue s.lights.kept (.inLevel n) = true ↔ s.inputs.lines[n].level = s.tables.input[n].active)

/-- Once the cue tick runs, the level buffer is the composition of the scene and the active list (R132), the
filed demand is that of the level buffer (R133), and the dimming factor and the output levels follow from the
grant used (R134). -/
structure LevelsSound (s : State) : Prop where
  composed : s.lights.ticking = true →
    ∀ o : Fin 12, s.lights.levels[o] = composedLevel s.tables s.lights.scene s.lights.active o
  demand : s.lights.ticking = true → s.lights.filed = lightsDemand s.tables.lamp s.lights.levels
  dimming : s.lights.ticking = true → s.lights.dimming = dimmingFor s.lights.filed s.lights.grantUsed
  outputs : ∀ o : Fin 12, s.lights.outputs[o] = s.lights.levels[o] * s.lights.dimming / 1000

/-- The demand in the claim table equals the owner's filed demand, for every claimant (R157). -/
structure ClaimsFiled (s : State) : Prop where
  steer : s.budget.demand[0] = s.steering.filed
  drive : s.budget.demand[1] = s.drive.filed
  winch : s.budget.demand[2] = s.winch.filed
  lights : s.budget.demand[3] = s.lights.filed

/-- One persistence counter over one evaluated pass (R146): one more while its condition holds, at most its
persistence count, and 0 where it fails. -/
def CountsPass (holds : Prop) (bound before after : Nat) : Prop :=
  (holds → after = min (before + 1) bound) ∧ (¬holds → after = 0)

/-- The sum of four amounts. -/
def total (v : Vector Nat 4) : Nat := v[0] + v[1] + v[2] + v[3]

/-! ## The budget -/

/-- The place of a claimant in the cycle that starts after a pointer, 0 for the first (R161). -/
def rotationPlace (p : Option (Fin 4)) (c : Fin 4) : Nat :=
  match p with
  | none => c.val
  | some q => (c.val + 3 - q.val) % 4

/-- Claimant `a` is served before claimant `b` at a computation that finds the pointers `p`: it stands at a higher
level, or earlier in the rotation of the level they share (R161, R162). -/
abbrev ServedBefore (t : Vector BudgetEntry 4) (p : Vector (Option (Fin 4)) 4) (a b : Fin 4) : Prop :=
  t[b].priority < t[a].priority
    ∨ t[a].priority = t[b].priority ∧ rotationPlace p[t[b].priority] a < rotationPlace p[t[b].priority] b

/-- The deals of a quantum pass, one after another (R163): while an amount remains and a demand is unmet, the next
deal goes to a claimant below its demand whom no other such claimant is served before, by the pointers as they stand
at that deal; it is the least of the quantum, what the claimant still needs and what remains; and the level's pointer
then names that claimant. -/
inductive Deals (t : Vector BudgetEntry 4) (quantum : Nat) (demand : Vector Nat 4) : Deal → Deal → Prop where
  | finished (x : Deal) (h : x.left = 0 ∨ ∀ c : Fin 4, demand[c] ≤ x.grants[c]) : Deals t quantum demand x x
  | deal (x y : Deal) (c : Fin 4) (amount : Nat) (remains : 0 < x.left) (needs : x.grants[c] < demand[c])
      (first : ∀ b : Fin 4, x.grants[b] < demand[b] → ¬ServedBefore t x.pointers b c)
      (least : amount = min quantum (min (demand[c] - x.grants[c]) x.left))
      (rest : Deals t quantum demand
        { left := x.left - amount
          grants := x.grants.set c.val (x.grants[c] + amount)
          pointers := x.pointers.set t[c].priority.val (some c) } y) : Deals t quantum demand x y

/-! ## Steering, the scanner and protection -/

/-- Steering: in STEADY the requested mode is the steer mode, and mode held is no (R45); in ALIGN every target
is 0 (R62, R63); while the corner pulses are OFF every corner stands at 0 with width 0 (R60, R69); the filed demand is
the moving current of each corner away from its target and the holding current of each that has reached it, and 0
while the corner pulses are OFF (R59). -/
structure SteeringSound (s : State) : Prop where
  steady : s.steering.status = .steady → s.steering.requested = s.steering.mode ∧ s.steering.modeHeld = false
  align : s.steering.status = .align → ∀ k : Fin 4, s.steering.corners[k].target = 0
  off : s.steering.active = false → ∀ k : Fin 4, s.steering.corners[k] = ⟨0, 0, 0⟩
  filed : s.steering.filed =
    if s.steering.active = true then
      ((List.finRange 4).map fun k =>
        if s.steering.corners[k].position ≠ s.steering.corners[k].target then s.tables.steer.movingCurrent
        else s.tables.steer.holdingCurrent).sum
    else 0

/-- The scanner: the working copy is valid; a pass in progress stands at a slot with a source, of whose
conversions fewer than its count have ended, the running sum lying within as many times the source's range;
the list of the pass has counts of at least 1; every measured value lies within its range (R139, R141,
R142). -/
structure ScannerSound (s : State) : Prop where
  valid : tablesValid s.tables = true
  counts : ∀ p, s.scanner.pass = some p → ∀ k : Fin 8, 1 ≤ p.list[k].count
  standing : ∀ p, s.scanner.pass = some p → ∃ q, p.list[p.slot].source = some q ∧ p.done < p.list[p.slot].count
    ∧ (p.done : Int) * (quantityRange q).1 ≤ p.sum ∧ p.sum ≤ (p.done : Int) * (quantityRange q).2
  values : ∀ q : Quantity, (quantityRange q).1 ≤ s.scanner.values[quantityIndex q]
    ∧ s.scanner.values[quantityIndex q] ≤ (quantityRange q).2

/-- Protection: a cause is recorded exactly in CUTOFF (R144), and once loaded the cap is that of the state and
the PROTECT record in force (R150). -/
structure ProtectionSound (s : State) : Prop where
  loading : s.link.run = .init ↔ s.store.loaded = false
  cause : s.protection.state = .cutoff ↔ s.protection.cause ≠ .none
  cap : s.store.loaded = true → s.protection.cap = capFor s.tables.protect s.protection.state

end Sys2Proof.Machine
end

