-- ==== Sys2Proof/Certificates/Slice0/Obligations.lean ====
section
/-! DEFINITION. The statements for the provers. Each is a proposition about every state and every operand of
the commands it names; `exec c s = .next t` says that the command completes. `t = { s with … }` with fields of
`t` on the right says which fields a command may change: all others are unchanged. -/

open Sys2Proof Sys2Proof.Machine

/-! ## The queue and the machine as a whole -/

/-- A step runs the command at the front of the queue on the state with the queue's rest. On an empty queue
the part idles: that clause is the model's choice (log entry 1). -/
def Obligations.StepRunsTheFrontCommand : Prop :=
  (∀ (c : Instr) (rest : List Instr) (s : State),
      s.pending = c :: rest → step s = exec c (s.withPending rest))
    ∧ ∀ s : State, s.pending = [] → step s = .next s

/-- Every command completes in every state, and leaves the waiting commands alone (log entry 10). -/
def Obligations.EveryCommandCompletes : Prop :=
  ∀ (c : Instr) (s : State), ∃ t, exec c s = .next t ∧ t.pending = s.pending

/-! ## Reception -/

/-- A frame taken byte by byte, as LEAD, KIND, LEN, payload and CHECK, by a listening part whose receiver
hunts, has the effect of the frame's own command, byte for byte (Table 1-2 against R5 and R7). -/
def Obligations.ByteReceptionIsFrameReception : Prop :=
  ∀ (c : Instr) (k : Byte) (p : List Byte) (s : State),
    frameOf c = some (k, p) → p.length ≤ 48 → Listening s → s.link.receiver = receiverHunting →
      feed (frameBytes k p) s = exec c s

/-- R3: each byte received without a framing error advances the receive state as Table 1-2 gives. -/
def Obligations.ReceiverTakesBytes : Prop :=
  ∀ (b : Byte) (s : State), Listening s →
    ∃ t, exec (.byteReceived b) s = .next t
      ∧ (s.link.receiver.phase ≠ .checkLo →
          t = { s with link := { s.link with receiver := t.link.receiver } })
      ∧ (s.link.receiver.phase = .hunt → b = 0xA7 →
          t.link.receiver.phase = .kind ∧ t.link.receiver.crc = 0xFFFF)
      ∧ (s.link.receiver.phase = .hunt → b ≠ 0xA7 → t.link.receiver.phase = .hunt)
      ∧ (s.link.receiver.phase = .kind →
          t.link.receiver.phase = .len ∧ t.link.receiver.kind = b
            ∧ t.link.receiver.crc = crcByte s.link.receiver.crc b)
      ∧ (s.link.receiver.phase = .len → b.toNat ≤ 48 →
          t.link.receiver.phase = (if b = 0 then .checkHi else .payload)
            ∧ t.link.receiver.length = b.toNat ∧ t.link.receiver.taken = []
            ∧ t.link.receiver.kind = s.link.receiver.kind
            ∧ t.link.receiver.crc = crcByte s.link.receiver.crc b)
      ∧ (s.link.receiver.phase = .len → 48 < b.toNat → t.link.receiver.phase = .hunt)
      ∧ (s.link.receiver.phase = .payload →
          t.link.receiver.phase =
              (if s.link.receiver.taken.length + 1 < s.link.receiver.length then .payload else .checkHi)
            ∧ t.link.receiver.taken = s.link.receiver.taken ++ [b]
            ∧ t.link.receiver.length = s.link.receiver.length
            ∧ t.link.receiver.kind = s.link.receiver.kind
            ∧ t.link.receiver.crc = crcByte s.link.receiver.crc b)
      ∧ (s.link.receiver.phase = .checkHi →
          t.link.receiver.phase = .checkLo ∧ t.link.receiver.checkHi = b
            ∧ t.link.receiver.taken = s.link.receiver.taken
            ∧ t.link.receiver.kind = s.link.receiver.kind
            ∧ t.link.receiver.crc = s.link.receiver.crc)
      ∧ (s.link.receiver.phase = .checkLo → t.link.receiver.phase = .hunt
          ∧ (s.link.receiver.checkHi ++ b = s.link.receiver.crc →
              t = dispatch s.link.receiver.kind s.link.receiver.taken
                    { s with link := { s.link with receiver := t.link.receiver } })
          ∧ (s.link.receiver.checkHi ++ b ≠ s.link.receiver.crc →
              t = { s with link := { s.link with receiver := t.link.receiver } }))

/-- The discards of a frame in progress are silent: the gap timer's run past 200 µs, a framing error, a LEN
above 48, and a CHECK that differs. A good CHANNELS frame whose LEN is not 16, or that arrives in INIT, changes
nothing. -/
def Obligations.DiscardsAreSilent : Prop :=
  ((∀ s : State, s.link.receiver.gapRunning = true →
        ∃ t, exec .gapTimeout s = .next t ∧ SilentlyDiscarded s t)
      ∧ (∀ s : State, Listening s → ∃ t, exec .framingError s = .next t ∧ SilentlyDiscarded s t)
      ∧ (∀ (s : State) (len : Byte), Listening s → 48 < len.toNat →
          ∃ t, exec (.lenDiscard len) s = .next t ∧ SilentlyDiscarded s t)
      ∧ ∀ (s : State) (k : Byte) (p : List Byte) (check : Check), Listening s → check ≠ frameCheck k p →
          ∃ t, exec (.checkMismatchFrame k p check) s = .next t ∧ SilentlyDiscarded s t)
    ∧ (∀ (p : List Byte) (s : State), Listening s → s.link.receiver = receiverHunting →
      p.length ≠ 16 ∨ s.link.run = .init → exec (.channels p) s = .next s)

/-- While the part transmits a reply, or is held in reset, it takes nothing from the line: no frame, byte,
framing error or discard changes anything. -/
def Obligations.NothingTakenWhileSendingOrHeld : Prop :=
  ∀ s : State, (s.heldInReset = true ∨ ∃ r, s.link.reply = .sending r) →
    (∀ c, frameOf c ≠ none → exec c s = .next s)
      ∧ (∀ b, exec (.byteReceived b) s = .next s) ∧ exec .framingError s = .next s
      ∧ (∀ len, exec (.lenDiscard len) s = .next s)
      ∧ ∀ k p check, exec (.checkMismatchFrame k p check) s = .next s

/-! ## Replies -/

/-- A start bit on LINK while a reply is PENDING abandons it: REPLY_ABANDON alone, and every frame or byte,
which is then taken as if no reply had been pending. The reported set of a STATUS answer is discarded with no
flag cleared. Where the reply is the answer of an accepted SOFT_RESET, the start bit performs the soft reset
and the frame that it begins is discarded with the receiver's state: the frame or byte whose command comprises
that start bit, or after REPLY_ABANDON the frame or byte that comes next. That a frame's or byte's command
comprises its start bit is the model's reading (log entry 6). -/
def Obligations.StartBitAbandonsPendingReply : Prop :=
  (∀ (s : State) (r : ReplyContent), s.link.reply = .pending r →
      (Notice.softReset ∉ r.notices →
        ∀ u : State,
          u = { s with link := { s.link with reply := .empty }
                       inputs := if Notice.statusReport ∈ r.notices then { s.inputs with reported := none }
                                 else s.inputs } →
          exec .replyAbandon s = .next u
            ∧ (s.heldInReset = false → s.link.discarding = false →
                (∀ c, frameOf c ≠ none → exec c s = exec c u)
                  ∧ (∀ b, exec (.byteReceived b) s = exec (.byteReceived b) u)
                  ∧ exec .framingError s = exec .framingError u))
        ∧ (Notice.softReset ∈ r.notices →
            exec .replyAbandon s =
                .next { resetPart .soft s with link := { linkAfterReset with discarding := true } }
              ∧ (s.heldInReset = false →
                  (∀ c, frameOf c ≠ none → exec c s = .next (resetPart .soft s))
                    ∧ (∀ b, exec (.byteReceived b) s = .next (resetPart .soft s))
                    ∧ exec .framingError s = .next (resetPart .soft s))))
    ∧ ∀ s u : State, s.heldInReset = false → s.link.reply = .empty → s.link.discarding = true →
        u = { s with link := { s.link with discarding := false } } →
        (∀ c, frameOf c ≠ none → exec c s = .next u) ∧ (∀ b, exec (.byteReceived b) s = .next u)
          ∧ exec .framingError s = .next u

/-- The reply's progress. A PENDING reply goes to SENDING at its first start bit. At its last stop bit the record
is EMPTY, the receiver is in HUNT, and telemetry due is cleared for a TELEMETRY frame; that the receiver in HUNT
keeps nothing of a frame is the model's choice (log entry 4). The completion of a STATUS answer clears the flags
of the reported set and no other, settles the edge arms of the EDGE flags it cleared by the line's logical
value, and discards the set. -/
def Obligations.ReplyStartsAndCompletes : Prop :=
  ((∀ (s : State) (r : ReplyContent), s.link.reply = .pending r →
        exec .replyStart s = .next { s with link := { s.link with reply := .sending r } })
      ∧ ∀ (s : State) (r : ReplyContent), s.link.reply = .sending r → r.notices = [] →
          exec .replyComplete s =
            .next { s with link := { s.link with reply := .empty
                                                 receiver := receiverHunting
                                                 telemetryDue :=
                                                   if r.kind = 0x53 then false else s.link.telemetryDue } })
    ∧ (∀ (s : State) (r : ReplyContent) (f : Vector Bool 15),
      s.link.reply = .sending r → r.notices = [.statusReport] → r.kind = 0x52 → s.inputs.reported = some f →
      ∃ t, exec .replyComplete s = .next t
        ∧ t = { s with link := t.link, inputs := t.inputs }
        ∧ t.link = { s.link with reply := .empty, receiver := t.link.receiver }
        ∧ t.link.receiver.phase = .hunt
        ∧ t.inputs.reported = none ∧ t.inputs.ticking = s.inputs.ticking
        ∧ (∀ i : Fin 15, t.inputs.flags[i] = (s.inputs.flags[i] && !f[i]))
        ∧ ∀ n : Fin 4, t.inputs.lines[n].level = s.inputs.lines[n].level
            ∧ t.inputs.lines[n].runCount = s.inputs.lines[n].runCount
            ∧ t.inputs.lines[n].armed =
                if f[11 + n.val] = true then decide (s.inputs.lines[n].level ≠ s.tables.input[n].active)
                else s.inputs.lines[n].armed)

/-- SOFT_RESET is refused STATE in INIT and BUSY while a store is in flight, and is otherwise accepted with
nothing changed but the pending soft reset and the DONE answer that carries its notice. The notice performs the
soft reset, whether the answer is sent to its end or abandoned: the line count, homed, the protection state and
its cause, and the other reset-cause flags are kept, RESET_SOFT is set, every other flag is cleared; the sample tick
stops, every run count is 0 and every edge arm ARMED; the image stays, and the load is to be made again. Abandoned, it
leaves the frame of that start bit to be discarded. The reset values of what the spec leaves open (the receiver's
content, the steer mode and the requested mode, the encoder reference, the clutch width, the accepted levels, the
timers' lengths) are the model's choice (log entries 3, 4 and 9). -/
def Obligations.SoftResetAction : Prop :=
  (∀ s : State, Listening s →
      (s.link.run = .init → exec .softReset s = .next (s.answered 0x45 .state [] []))
        ∧ (s.link.run ≠ .init → storeInFlight s.store = true →
            exec .softReset s = .next (s.answered 0x45 .busy [] []))
        ∧ (s.link.run ≠ .init → storeInFlight s.store = false →
            exec .softReset s =
              .next { s.answered 0x45 .done [] [.softReset] with
                      store := { s.store with pendingSoftReset := true } }))
    ∧ (∀ (s : State) (r : ReplyContent) (c : Instr), r.notices = [.softReset] →
      (s.link.reply = .pending r ∧ c = .replyAbandon) ∨ (s.link.reply = .sending r ∧ c = .replyComplete) →
      ∃ t, exec c s = .next t
        ∧ t.link = { linkAfterReset with discarding := decide (c = .replyAbandon) }
        ∧ t.record = recordAfterReset ∧ t.steering = steeringAfterReset
        ∧ t.drive = driveAfterReset ∧ t.lights = lightsAfterReset ∧ t.scanner = scannerAfterReset
        ∧ t.budget = budgetAfterReset
        ∧ t.winch = { winchAfterReset with line := s.winch.line, homed := s.winch.homed }
        ∧ t.protection = { protectionAfterReset with state := s.protection.state, cause := s.protection.cause }
        ∧ t.store = { state := .idle, loaded := false, pendingSoftReset := false, image := s.store.image }
        ∧ t.heldInReset = false
        ∧ (∀ i : Fin 15, t.inputs.flags[i] = ((i == 1) || ((i == 0 || i == 2) && s.inputs.flags[i])))
        ∧ t.inputs.reported = none ∧ t.inputs.ticking = false
        ∧ ∀ n : Fin 4, t.inputs.lines[n] = { level := .high, runCount := 0, armed := true })

/-! ## CHANNELS and the run state -/

/-- R12, and the reply decision that follows it: every processed CHANNELS frame advances the telemetry counter and
telemetry due by the interval, and the completion of a TELEMETRY frame clears due; a TELEMETRY frame, of the
values as they stand after the frame, is composed exactly when reply-permitted is set, telemetry due is set once
the counter has advanced, and the interval is not 0. -/
def Obligations.TelemetryCounterAndReply : Prop :=
  ((∀ (p : List Byte) (s : State), Listening s → p.length = 16 → s.link.run ≠ .init →
        ∃ t, exec (.channels p) s = .next t
          ∧ t.link.telemetryCount =
              (if s.tables.link.telemetryInterval = 0 then 0
               else if s.tables.link.telemetryInterval ≤ s.link.telemetryCount + 1 then 0
               else s.link.telemetryCount + 1)
          ∧ (t.link.telemetryDue = true ↔
              s.link.telemetryDue = true
                ∨ s.tables.link.telemetryInterval ≠ 0
                    ∧ s.tables.link.telemetryInterval ≤ s.link.telemetryCount + 1))
      ∧ ∀ (s : State) (r : ReplyContent), s.link.reply = .sending r → r.kind = 0x53 → r.notices = [] →
          ∃ t, exec .replyComplete s = .next t ∧ t.link.telemetryDue = false)
    ∧ (∀ (p : List Byte) (s : State), Listening s → p.length = 16 → s.link.run ≠ .init →
      ∃ t, exec (.channels p) s = .next t
        ∧ t.link.reply =
            (if replyPermitted p = true ∧ t.link.telemetryDue = true
                ∧ s.tables.link.telemetryInterval ≠ 0 then
              .pending { kind := 0x53, payload := telemetryPayload t, answered := 0x31, notices := [] }
             else .empty)
        ∧ t.tables = s.tables ∧ t.scanner = s.scanner ∧ t.store = s.store)

/-- R15: a processed CHANNELS frame in WAIT is normalized and its function update issued with the run state
still WAIT (so the winch command is 0); then a clear frame with a neutral throttle takes the run state to RUN
and starts the hold timer, and a clear frame with any other throttle sets THROTTLE_NOT_NEUTRAL; a flagged
frame does neither. The update, whichever of the three follows, makes S0 to S3 and S6 ACTIVE, S0 to S3 at the widths of
position 0 where they were OFF and S6 at the width of v_AUX2; it moves no position. STC takes the mode request from
the STEER_SEL band by the mode map: in STEADY a request for another mode enters ALIGN with every target 0, and
otherwise the targets are recomputed; in ALIGN the request alone changes. LTC takes the scene, the turn sources and
the AUX1 and AUX2 band sources from the record. -/
def Obligations.ChannelsInWait : Prop :=
  ∀ (p : List Byte) (s : State) (r : FunctionRecord) (m : SteerMode),
    Listening s → p.length = 16 → s.link.run = .wait → r = normalize s.tables (rawChannels p) s.record →
    m = (match r.steerSelBand with
         | some b => s.tables.steer.modeMap[b].getD s.steering.requested
         | none => s.steering.requested) →
    ∃ t, exec (.channels p) s = .next t
      ∧ t = { s with link := t.link, record := r, steering := t.steering, drive := t.drive
                     winch := t.winch, lights := t.lights, budget := t.budget, inputs := t.inputs }
      ∧ t.steering.record = r ∧ t.drive.record = r ∧ t.winch.record = r ∧ t.winch.command = 0
      ∧ t.steering.active = true ∧ t.drive.s6Active = true
      ∧ t.drive.s6Width = 1500 + roundDiv (r.aux2 * 500) 1000
      ∧ t.steering.requested = m ∧ t.steering.mode = s.steering.mode
      ∧ (∀ k : Fin 4, t.steering.corners[k].position = s.steering.corners[k].position
          ∧ t.steering.corners[k].width =
              if s.steering.active = true then s.steering.corners[k].width else cornerWidth s.tables.corner[k] 0)
      ∧ (s.steering.status = .steady → m ≠ s.steering.mode →
          t.steering.status = .align ∧ t.steering.modeHeld = false
            ∧ ∀ k : Fin 4, t.steering.corners[k].target = 0)
      ∧ (s.steering.status = .steady → m = s.steering.mode →
          t.steering.status = .steady ∧ t.steering.modeHeld = s.steering.modeHeld
            ∧ ∀ k : Fin 4, t.steering.corners[k].target = cornerTarget s.tables.geom m (scaledSteer r) k)
      ∧ (s.steering.status = .align →
          t.steering.status = .align ∧ t.steering.modeHeld = s.steering.modeHeld
            ∧ ∀ k : Fin 4, t.steering.corners[k].target = s.steering.corners[k].target)
      ∧ t.lights.scene = r.lightSelBand.getD 0
      ∧ keptValue t.lights.kept .turnLeft = decide (r.steer < -(s.tables.steer.indicatorThreshold : Int))
      ∧ keptValue t.lights.kept .turnRight = decide ((s.tables.steer.indicatorThreshold : Int) < r.steer)
      ∧ (∀ b : Fin 8, keptValue t.lights.kept (.aux1Band b) = decide (r.aux1Band = some b)
          ∧ keptValue t.lights.kept (.aux2Band b) = decide (r.aux2Band = some b))
      ∧ (receiverFailsafe p = false → r.throttle.natAbs ≤ s.tables.link.neutralWindow →
          t.link.run = .run ∧ t.link.hold = startTimer s.tables.link.holdTime s.link.hold
            ∧ t.inputs = s.inputs)
      ∧ (receiverFailsafe p = false → s.tables.link.neutralWindow < r.throttle.natAbs →
          t.link.run = .wait ∧ t.link.hold = s.link.hold
            ∧ t.inputs = raiseFlag .throttleNotNeutral s.inputs)
      ∧ (receiverFailsafe p = true →
          t.link.run = .wait ∧ t.link.hold = s.link.hold ∧ t.inputs = s.inputs)

/-- A clear CHANNELS frame in RUN, and any CHANNELS frame in SETUP (the first one after a reset too: log entry 19),
is normalized, and the one function update carries the record to STC, DRV, WCH and LTC; RUN starts the hold timer
afresh and passes the command to the winch, SETUP does neither. LTC's turn sources follow the record's steer value
against the indicator threshold, and its AUX1 and AUX2 band sources the record's bands. STC takes the mode request
from the STEER_SEL band by the mode map: in STEADY a request for another mode enters ALIGN with every target 0 and
the mode unchanged, and otherwise the targets are recomputed; in ALIGN the request alone changes. No position moves,
and a width changes only where the pulses were OFF, to that of position 0. -/
def Obligations.ChannelsInRunAndSetup : Prop :=
  (∀ (p : List Byte) (s : State) (r : FunctionRecord), Listening s → p.length = 16 →
      (s.link.run = .run ∧ receiverFailsafe p = false) ∨ s.link.run = .setup →
      r = normalize s.tables (rawChannels p) s.record →
      ∃ t, exec (.channels p) s = .next t
        ∧ t = { s with link := t.link, record := r, steering := t.steering, drive := t.drive
                       winch := t.winch, lights := t.lights, budget := t.budget }
        ∧ t.steering.record = r ∧ t.drive.record = r ∧ t.winch.record = r
        ∧ t.link.run = s.link.run ∧ t.link.recovery = s.link.recovery
        ∧ t.link.hold =
            (if s.link.run = .run then startTimer s.tables.link.holdTime s.link.hold else s.link.hold)
        ∧ t.winch.command = (if s.link.run = .run then r.winch else 0)
        ∧ t.steering.active = true ∧ t.drive.s6Active = true
        ∧ t.lights.scene = r.lightSelBand.getD 0
        ∧ keptValue t.lights.kept .turnLeft = decide (r.steer < -(s.tables.steer.indicatorThreshold : Int))
        ∧ keptValue t.lights.kept .turnRight = decide ((s.tables.steer.indicatorThreshold : Int) < r.steer)
        ∧ (∀ b : Fin 8, keptValue t.lights.kept (.aux1Band b) = decide (r.aux1Band = some b)
            ∧ keptValue t.lights.kept (.aux2Band b) = decide (r.aux2Band = some b))
        ∧ t.budget = { s.budget with demand := t.budget.demand })
    ∧ (∀ (p : List Byte) (s : State) (r : FunctionRecord) (m : SteerMode), Listening s → p.length = 16 →
      (s.link.run = .run ∧ receiverFailsafe p = false) ∨ s.link.run = .setup →
      r = normalize s.tables (rawChannels p) s.record →
      m = (match r.steerSelBand with
           | some b => s.tables.steer.modeMap[b].getD s.steering.requested
           | none => s.steering.requested) →
      ∃ t, exec (.channels p) s = .next t
        ∧ t.steering.requested = m ∧ t.steering.mode = s.steering.mode
        ∧ (s.steering.status = .steady → m ≠ s.steering.mode →
            t.steering.status = .align ∧ t.steering.modeHeld = false
              ∧ ∀ k : Fin 4, t.steering.corners[k].target = 0)
        ∧ (s.steering.status = .steady → m = s.steering.mode →
            t.steering.status = .steady
              ∧ ∀ k : Fin 4, t.steering.corners[k].target = cornerTarget s.tables.geom m (scaledSteer r) k)
        ∧ (s.steering.status = .align →
            t.steering.status = .align
              ∧ ∀ k : Fin 4, t.steering.corners[k].target = s.steering.corners[k].target)
        ∧ ∀ k : Fin 4, t.steering.corners[k].position = s.steering.corners[k].position
            ∧ t.steering.corners[k].width =
                if s.steering.active = true then s.steering.corners[k].width else cornerWidth s.tables.corner[k] 0)

/-- The throttle path at a function update in RUN: limits, LIMIT-state cap, ceiling of the DRIVE grant, zeroing in
CUTOFF, demand, S4 width and REVERSE; and the S6 width from v_AUX2. A throttle fall sets BRAKING and starts its
timer afresh at the brake hold time exactly when the new t2 is 0 or of the old sign and at least brake delta
below the old magnitude; otherwise BRAKING and its timer stand. -/
def Obligations.ThrottlePathInRun : Prop :=
  (∀ (p : List Byte) (s : State) (v a : Int) (ceiling : Nat),
      Listening s → p.length = 16 → s.link.run = .run → receiverFailsafe p = false →
      v = (normalize s.tables (rawChannels p) s.record).throttle →
      a = (if 0 ≤ v then (v * s.tables.drive.forwardLimit).tdiv 1000
           else (v * s.tables.drive.reverseLimit).tdiv 1000) →
      ceiling = min 1000 (s.budget.grant[1] * 1000 / s.tables.drive.ratedCurrent) →
      ∃ t, exec (.channels p) s = .next t
        ∧ t.drive.t1 =
            (if s.protection.state = .limit ∧ (s.tables.drive.limitForwardCap : Int) < a then
              (s.tables.drive.limitForwardCap : Int) else a)
        ∧ t.drive.grantUsed = s.budget.grant[1]
        ∧ t.drive.t2 =
            (if s.protection.state = .cutoff then 0 else max (-(ceiling : Int)) (min (ceiling : Int) t.drive.t1))
        ∧ t.drive.filed =
            (if s.protection.state = .cutoff then 0
             else t.drive.t1.natAbs * s.tables.drive.ratedCurrent / 1000)
        ∧ t.drive.s4Width =
            s.tables.drive.neutral
              + (if 0 < t.drive.t2 then roundDiv (t.drive.t2 * s.tables.drive.forwardThrow) 1000
                 else roundDiv (t.drive.t2 * s.tables.drive.reverseThrow) 1000)
        ∧ (t.drive.reverse = true ↔ t.drive.t2 < -(s.tables.drive.reverseThreshold : Int))
        ∧ t.drive.s6Width =
            1500 + roundDiv ((normalize s.tables (rawChannels p) s.record).aux2 * 500) 1000)
    ∧ (∀ (p : List Byte) (s : State), Listening s → p.length = 16 → s.link.run = .run → receiverFailsafe p = false →
      ∃ t, exec (.channels p) s = .next t
        ∧ ((t.drive.t2 = 0 ∨ (0 < t.drive.t2 ∧ 0 < s.drive.t2) ∨ (t.drive.t2 < 0 ∧ s.drive.t2 < 0)) →
            t.drive.t2.natAbs + s.tables.drive.brakeDelta ≤ s.drive.t2.natAbs →
            t.drive.braking = true ∧ t.drive.brakingTimer = startTimer s.tables.drive.brakeHold s.drive.brakingTimer)
        ∧ (¬((t.drive.t2 = 0 ∨ (0 < t.drive.t2 ∧ 0 < s.drive.t2) ∨ (t.drive.t2 < 0 ∧ s.drive.t2 < 0))
              ∧ t.drive.t2.natAbs + s.tables.drive.brakeDelta ≤ s.drive.t2.natAbs) →
            t.drive.braking = s.drive.braking ∧ t.drive.brakingTimer = s.drive.brakingTimer))

/-- Entry to FAILSAFE, by a flagged CHANNELS frame or the hold timer's expiry in RUN: the recovery count is 0,
the hold timer is started, FAILSAFE_ENTERED is set, the failsafe values stand in the record with the bands
kept, the throttle and the winch command are 0, a moving winch ramps down with its duty left to the ramp, and
a released clutch returns. -/
def Obligations.FailsafeEntry : Prop :=
  ∀ (s : State) (c : Instr), s.link.run = .run →
    (c = .holdTimerExpiry ∧ s.link.hold.running = true)
      ∨ (∃ p, c = .channels p ∧ p.length = 16 ∧ receiverFailsafe p = true ∧ Listening s) →
    ∃ t, exec c s = .next t
      ∧ t = { s with link := t.link, record := t.record, steering := t.steering, drive := t.drive
                     winch := t.winch, lights := t.lights, budget := t.budget, inputs := t.inputs }
      ∧ t.link.run = .failsafe ∧ t.link.recovery = 0
      ∧ t.link.hold.running = true ∧ t.link.hold.length = s.tables.link.holdTime
      ∧ s.link.hold.starts < t.link.hold.starts
      ∧ t.inputs = raiseFlag .failsafeEntered s.inputs
      ∧ t.record =
          { s.record with
            steer := if s.tables.func[0].failsafe = .preset then s.tables.func[0].failsafeValue else s.record.steer
            throttle :=
              if s.tables.func[1].failsafe = .preset then s.tables.func[1].failsafeValue else s.record.throttle
            winch := if s.tables.func[2].failsafe = .preset then s.tables.func[2].failsafeValue else s.record.winch
            aux2 := if s.tables.func[6].failsafe = .preset then s.tables.func[6].failsafeValue else s.record.aux2
            rate := if s.tables.func[7].failsafe = .preset then s.tables.func[7].failsafeValue else s.record.rate
            steerSel := 0, lightSel := 0, aux1 := 0 }
      ∧ t.drive.t2 = 0 ∧ t.drive.filed = 0 ∧ t.winch.command = 0
      ∧ hauling t.winch.state = false ∧ released t.winch.state = false
      ∧ (hauling s.winch.state = true → t.winch.state = .rampDown ∧ t.winch.duty = s.winch.duty)

/-- R18: the recovery count in FAILSAFE. -/
def Obligations.RecoveryFromFailsafe : Prop :=
  (∀ (p : List Byte) (s : State), Listening s → p.length = 16 → s.link.run = .failsafe →
      ∃ t, exec (.channels p) s = .next t
        ∧ t.record = s.record
        ∧ t.link.hold = startTimer s.tables.link.holdTime s.link.hold
        ∧ (receiverFailsafe p = true → t.link.run = .failsafe ∧ t.link.recovery = 0)
        ∧ (receiverFailsafe p = false → s.link.recovery + 1 < s.tables.link.recovery →
            t.link.run = .failsafe ∧ t.link.recovery = s.link.recovery + 1)
        ∧ (receiverFailsafe p = false → s.tables.link.recovery ≤ s.link.recovery + 1 →
            t.link.run = .run ∧ t.link.recovery = 0))
    ∧ ∀ s : State, s.link.run = .failsafe → s.link.hold.running = true →
        exec .holdTimerExpiry s =
          .next { s with link := { s.link with recovery := 0
                                               hold := startTimer s.tables.link.holdTime s.link.hold } }

/-! ## SETUP_WRITE, SETUP_READ, QUERY -/

/-- The checks of Table 1-5 on a SETUP_WRITE, in their order, for the frame of every table: the first check
that applies decides the answer and nothing else changes; a write that passes every check is answered DONE
with the new entry in force. The owner accepts an entry exactly when its bytes are in the ranges of the owner's
chapter and pass its relations between fields (`entryAllowed`, field by field at the offsets of Table 11-8); the
tables are then those whose entry has exactly these bytes, and every other entry of every table is as it was. -/
def Obligations.SetupWriteChecksInOrder : Prop :=
  (∀ (c : Instr) (p : List Byte) (s : State),
      frameOf c = some (0x42, p) → p.length ≤ 48 → Listening s →
      (∀ r, writeRefusal s p = some r → exec c s = .next (s.answered 0x42 r [] []))
        ∧ (writeRefusal s p = none →
            ∃ t, exec c s = .next t ∧ ownerAccepts s p = some t.tables
              ∧ t.link = writeDone s ∧ t.store = s.store ∧ t.record = s.record))
    ∧ ∀ (s : State) (id i : Byte) (e : List Byte) (x : TableId),
        tableIdOf id.toNat = some x → i.toNat < entryCount x → e.length = entryLength x →
        ((∃ t, ownerAccepts s (id :: i :: e) = some t) ↔ entryAllowed s i.toNat e x = true)
          ∧ ∀ t, ownerAccepts s (id :: i :: e) = some t →
              entryBytes t x i.toNat = e
                ∧ ∀ (y : TableId) (j : Nat), j < entryCount y → y ≠ x ∨ j ≠ i.toNat →
                    entryBytes t y j = entryBytes s.tables y j

/-- Accepted writes. A FUNC, CURVE, BAND, GEOM or CORNER entry, the LINK record and a BUDGET entry are put in force
with nothing else changed: they are read at later events. STC files its demand anew from the currents of a new
STEER record and changes nothing else. DRV runs the throttle path on a new DRIVE record: in SETUP t2 is 0 and S4
carries the new neutral. WCH takes the clutch width of its state from a new WINCH record and re-evaluates the
freespool request. -/
def Obligations.OwnersTakeTheirRecords : Prop :=
  (∀ (s : State) (i : Byte) (e : List Byte) (p : List Byte) (t : Tables),
      (Accepted s p t → u8At p 0 ∈ [1, 2, 3, 5, 6] → p.length ≤ 48 →
          exec (.setupWrite p) s = .next (s.rewritten t))
        ∧ (Accepted s (16 :: i :: e) t → exec (.linkRecordWrite i e) s = .next (s.rewritten t))
        ∧ (Accepted s (14 :: i :: e) t → exec (.budgetWrite i e) s = .next (s.rewritten t)))
    ∧ (∀ (s : State) (i : Byte) (e : List Byte) (t : Tables),
      (Accepted s (4 :: i :: e) t → ∃ u, exec (.steerRecordWrite i e) s = .next u
          ∧ u = { s.rewritten t with steering := { s.steering with filed := u.steering.filed }, budget := u.budget }
          ∧ u.steering.filed =
              (if s.steering.active = true then
                (s.steering.corners.toList.map fun k =>
                  if k.position = k.target then t.steer.holdingCurrent else t.steer.movingCurrent).sum
               else 0)
          ∧ u.budget = { s.budget with demand := u.budget.demand })
        ∧ (Accepted s (7 :: i :: e) t → ∃ u, exec (.driveRecordWrite i e) s = .next u
            ∧ u = { s.rewritten t with drive := u.drive, lights := u.lights, budget := u.budget }
            ∧ u.drive.t2 = 0 ∧ u.drive.filed = 0 ∧ u.drive.s4Width = (t.drive.neutral : Int)
            ∧ u.drive.record = s.drive.record ∧ u.drive.period = s.drive.period
            ∧ u.drive.pulses = s.drive.pulses
            ∧ u.budget = { s.budget with demand := u.budget.demand })
        ∧ (Accepted s (8 :: i :: e) t → s.winch.state = .idle ∨ s.winch.state = .clutchIn ∨ s.winch.state = .fault →
            ∃ u, exec (.winchRecordWrite i e) s = .next u
              ∧ u = { s.rewritten t with winch := u.winch, budget := u.budget }
              ∧ u.winch = { s.winch with clutchWidth := t.winch.engagePosition
                                         request := freespoolRequest t.winch s.winch.record
                                         releaseBlock :=
                                           s.winch.releaseBlock && freespoolRequest t.winch s.winch.record
                                         target := 0, filed := 0 }
              ∧ u.budget = { s.budget with demand := u.budget.demand }))

/-- Accepted writes of LAMP, SCENE and CUE entries end in one composition under the new entry. A CUE write
removes the cue's instance and leaves every other as it stands. An enabled WHILE cue whose trigger source's kept
value is true then receives a start request: with fewer than 8 instances left the new one is appended, ON for its
on time with its cycles, and with 8 the oldest of the lowest priority gives way to a cue of higher priority and to
no other. No other cue starts. -/
def Obligations.LightTableWrites : Prop :=
  ∀ (s : State) (i : Byte) (e : List Byte) (t : Tables),
    (Accepted s (9 :: i :: e) t → ∃ u, exec (.lampWrite i e) s = .next u
        ∧ u = { s.rewritten t with lights := u.lights, budget := u.budget }
        ∧ u.lights.active = s.lights.active ∧ u.lights.grantUsed = s.budget.grant[3]
        ∧ ∀ o : Fin 12, u.lights.levels[o] = composedLevel t s.lights.scene s.lights.active o)
      ∧ (Accepted s (10 :: i :: e) t → ∃ u, exec (.sceneWrite i e) s = .next u
          ∧ u = { s.rewritten t with lights := u.lights, budget := u.budget }
          ∧ u.lights.active = s.lights.active ∧ u.lights.grantUsed = s.budget.grant[3]
          ∧ ∀ o : Fin 12, u.lights.levels[o] = composedLevel t s.lights.scene s.lights.active o)
      ∧ (Accepted s (11 :: i :: e) t →
          ∀ (k : Fin 16) (left : List CueInstance) (fresh : CueInstance) (starts : Prop),
            i.toNat = k.val → left = s.lights.active.filter (fun x => x.cue != k) →
            fresh = { cue := k, phaseOn := true, timeLeft := t.cue[k].onTime, cyclesLeft := t.cue[k].cycles } →
            (starts ↔ t.cue[k].enabled = true ∧ t.cue[k].mode = .whileTrue
              ∧ ∃ l, t.cue[k].trigger = some (.level l) ∧ keptValue s.lights.kept l = true) →
            ∃ u, exec (.cueWrite i e) s = .next u
              ∧ u = { s.rewritten t with lights := u.lights, budget := u.budget }
              ∧ u.lights.scene = s.lights.scene ∧ u.lights.kept = s.lights.kept
              ∧ u.lights.grantUsed = s.budget.grant[3]
              ∧ (∀ o : Fin 12, u.lights.levels[o] = composedLevel t s.lights.scene u.lights.active o)
              ∧ (¬starts → u.lights.active = left)
              ∧ (starts → left.length < 8 → u.lights.active = left ++ [fresh])
              ∧ (starts → 8 ≤ left.length → (left.map (·.cue)).Nodup →
                  ∀ (older younger : List CueInstance) (v : CueInstance), left = older ++ v :: younger →
                    (∀ x ∈ older, t.cue[v.cue].priority < t.cue[x.cue].priority) →
                    (∀ x ∈ younger, t.cue[v.cue].priority ≤ t.cue[x.cue].priority) →
                    (t.cue[v.cue].priority < t.cue[k].priority →
                        u.lights.active = older ++ younger ++ [fresh])
                      ∧ (t.cue[k].priority ≤ t.cue[v.cue].priority → u.lights.active = left)))

/-- Accepted writes of SCAN and INPUT entries and of the PROTECT record. A pass in progress keeps its list,
and a stopped scanner starts a pass where the new list has a source. The cap follows the new record at once.
An INPUT write that keeps the active level delivers nothing; one that changes it inverts the line's logical
value, sets EDGE of an armed line that becomes active, and homes the winch where IN0 becomes active. -/
def Obligations.SenseTableWrites : Prop :=
  ∀ (s : State) (i : Byte) (e : List Byte) (t : Tables),
    (Accepted s (12 :: i :: e) t →
        exec (.scanWrite i e) s =
          .next { s.rewritten t with
                  scanner := { s.scanner with
                               pass := if s.scanner.pass = none then startPass t.scan else s.scanner.pass } })
      ∧ (Accepted s (13 :: i :: e) t →
          exec (.protectWrite i e) s =
            .next { s.rewritten t with
                    protection := { s.protection with cap := capFor t.protect s.protection.state } })
      ∧ ∀ n : Fin 4, i.toNat = n.val → Accepted s (15 :: i :: e) t →
          (t.input[n].active = s.tables.input[n].active →
              exec (.inputWrite i e) s = .next (s.rewritten t))
            ∧ (t.input[n].active ≠ s.tables.input[n].active → ∃ u, exec (.inputWrite i e) s = .next u
                ∧ u = { s.rewritten t with winch := u.winch, lights := u.lights, budget := u.budget
                                           inputs := u.inputs }
                ∧ (inputActive u n = !inputActive s n)
                ∧ u.inputs.lines[n].level = s.inputs.lines[n].level
                ∧ u.inputs.lines[n].runCount = s.inputs.lines[n].runCount
                ∧ (inputActive u n = true → s.inputs.lines[n].armed = true → u.inputs.flags[11 + n.val] = true)
                ∧ (inputActive u n = false → u.inputs.lines[n].armed = true)
                ∧ (inputActive u n = true → n = 0 → u.winch.line = 0 ∧ u.winch.homed = true))

/-- R24: a SETUP_READ that passes the checks of Table 1-5 is answered DONE in every run state but INIT, a store
in flight or not, with the table id, the index and the entry of the working copy, and changes no state; the
bytes are those with which a SETUP_WRITE puts the same entry back. A SETUP_READ in INIT, of a LEN that is not 2,
of an unknown table or of an index outside the table is refused in the order of Table 1-5, with nothing changed. -/
def Obligations.SetupReadReturnsTheEntry : Prop :=
  (∀ (s : State) (id i : Byte) (x : TableId), tableIdOf id.toNat = some x → i.toNat < entryCount x →
      (Listening s → s.link.run ≠ .init →
        exec (.setupRead [id, i]) s =
          .next (s.answered 0x43 .done ([id, i] ++ entryBytes s.tables x i.toNat) []))
        ∧ (tablesValid s.tables = true →
            (entryBytes s.tables x i.toNat).length = entryLength x
              ∧ tablesWith s.tables x i.toNat (entryBytes s.tables x i.toNat) = some s.tables))
    ∧ (∀ (s : State) (p : List Byte), Listening s → p.length ≤ 48 →
      (s.link.run = .init → exec (.setupRead p) s = .next (s.answered 0x43 .state [] []))
        ∧ (s.link.run ≠ .init → p.length ≠ 2 → exec (.setupRead p) s = .next (s.answered 0x43 .length [] []))
        ∧ (s.link.run ≠ .init → p.length = 2 → u8At p 0 = 0 ∨ 16 < u8At p 0 →
            exec (.setupRead p) s = .next (s.answered 0x43 .table [] []))
        ∧ (s.link.run ≠ .init → p.length = 2 → 1 ≤ u8At p 0 → u8At p 0 ≤ 16 →
            entriesByTable.getD (u8At p 0 - 1) 0 ≤ u8At p 1 →
            exec (.setupRead p) s = .next (s.answered 0x43 .index [] [])))

/-- The five queries are answered DONE in every run state but INIT, with the selector and the record, and change no
state but, for STATUS, the reported set, which becomes the flags as reported; in INIT each is answered STATE. A
good frame whose KIND is none of the five inbound codes is answered UNKNOWN with the code received, in any run
state, and changes no other state. -/
def Obligations.QueriesAndUnknownKinds : Prop :=
  (∀ s : State, Listening s →
      (s.link.run ≠ .init →
        exec .statusQuery s =
            .next { s.answered 0x44 .done (1 :: statusRecord s) [.statusReport] with
                    inputs := { s.inputs with reported := some s.inputs.flags } }
          ∧ exec .measureQuery s = .next (s.answered 0x44 .done (2 :: measureRecord s) [])
          ∧ exec .winchQuery s = .next (s.answered 0x44 .done (3 :: winchRecord s) [])
          ∧ exec .budgetQuery s = .next (s.answered 0x44 .done (4 :: budgetRecord s) [])
          ∧ exec .steerQuery s = .next (s.answered 0x44 .done (5 :: steerRecord s) []))
        ∧ (s.link.run = .init →
            ∀ c ∈ [Instr.statusQuery, .measureQuery, .winchQuery, .budgetQuery, .steerQuery],
              exec c s = .next (s.answered 0x44 .state [] [])))
    ∧ (∀ (k : Byte) (p : List Byte) (s : State), Listening s → p.length ≤ 48 →
      k ∉ [(0x31 : Byte), 0x42, 0x43, 0x44, 0x45] →
      exec (.unknownKindFrame k p) s = .next (s.answered k .unknown [] []))

/-- The lengths of Tables 11-9 to 11-14, and the place, width and sign of every one of their fields, with the codes of
Table 11-6, the bit sets and the nibble pairs of R191: the fields of the STATUS, MEASURE, WINCH, BUDGET and STEER
records and of the TELEMETRY payload, each for a figure that fits its field. -/
def Obligations.RecordLayouts : Prop :=
  ∀ (s : State) (run prot cause winch direction fault mode requested status : Nat) (pointer : Fin 4 → Nat),
    run = (match s.link.run with | .init => 0 | .wait => 1 | .run => 2 | .failsafe => 3 | .setup => 4) →
    prot = (match s.protection.state with | .normal => 0 | .caution => 1 | .limit => 2 | .cutoff => 3) →
    cause = (match s.protection.cause with | .none => 0 | .undervolt => 1 | .overcurrent => 2) →
    winch = (match s.winch.state with
      | .idle => 0 | .haulIn => 1 | .payOut => 2 | .rampDown => 3 | .clutchOut => 4 | .freespool => 5
      | .clutchIn => 6 | .fault => 7) →
    direction = (match s.winch.direction with | .none => 0 | .haulIn => 1 | .payOut => 2) →
    fault = (match s.winch.cause with
      | .none => 0 | .stall => 1 | .noMotion => 2 | .hot => 3 | .clutch => 4 | .homeMiss => 5) →
    mode = (match s.steering.mode with | .front => 0 | .rear => 1 | .counter => 2 | .crab => 3) →
    requested = (match s.steering.requested with | .front => 0 | .rear => 1 | .counter => 2 | .crab => 3) →
    status = (match s.steering.status with | .steady => 0 | .align => 1) →
    (∀ l : Fin 4, pointer l = (match s.budget.pointers[l] with | some c => c.val | none => 15)) →
    ((statusRecord s).length = 8 ∧ (measureRecord s).length = 25 ∧ (winchRecord s).length = 13
        ∧ (budgetRecord s).length = 44 ∧ (steerRecord s).length = 28 ∧ (telemetryPayload s).length = 17)
      ∧ ((∀ i : Fin 15, (u16At (statusRecord s) 0).testBit i.val = s.inputs.flags[i])
          ∧ (u16At (statusRecord s) 0).testBit 15 = false
          ∧ u8At (statusRecord s) 2 = run ∧ u8At (statusRecord s) 3 = prot ∧ u8At (statusRecord s) 4 = winch
          ∧ u8At (statusRecord s) 5 = mode ∧ u8At (statusRecord s) 6 = status
          ∧ (∀ n : Fin 4, (u8At (statusRecord s) 7).testBit n.val =
              decide (s.inputs.lines[n].level = s.tables.input[n].active))
          ∧ u8At (statusRecord s) 7 < 16)
      ∧ ((∀ n : Fin 5, 0 ≤ s.scanner.values[n.val] → s.scanner.values[n.val] < 65536 →
            (u16At (measureRecord s) (2 * n.val) : Int) = s.scanner.values[n.val])
          ∧ (0 ≤ s.scanner.values[5] → s.scanner.values[5] < 16777216 →
              (u24At (measureRecord s) 10 : Int) = s.scanner.values[5])
          ∧ (0 ≤ s.scanner.values[6] → s.scanner.values[6] < 65536 →
              (u16At (measureRecord s) 13 : Int) = s.scanner.values[6])
          ∧ (-32768 ≤ s.scanner.values[7] → s.scanner.values[7] < 32768 →
              s16At (measureRecord s) 15 = s.scanner.values[7])
          ∧ (0 ≤ s.protection.minCell → s.protection.minCell < 65536 →
              (u16At (measureRecord s) 17 : Int) = s.protection.minCell)
          ∧ u8At (measureRecord s) 19 = (if s.protection.primed = true then 1 else 0)
          ∧ u8At (measureRecord s) 20 = prot ∧ u8At (measureRecord s) 21 = cause
          ∧ (s.protection.cap < 16777216 → u24At (measureRecord s) 22 = s.protection.cap))
      ∧ (u8At (winchRecord s) 0 = winch ∧ u8At (winchRecord s) 1 = direction
          ∧ (s.winch.duty < 65536 → u16At (winchRecord s) 2 = s.winch.duty)
          ∧ (s.winch.target < 65536 → u16At (winchRecord s) 4 = s.winch.target)
          ∧ (s.winch.line.natAbs ≤ 65535 → (u24At (winchRecord s) 6 : Int) = s.winch.line % 16777216)
          ∧ u8At (winchRecord s) 9 = (if s.winch.homed = true then 1 else 0)
          ∧ u8At (winchRecord s) 10 = fault
          ∧ u8At (winchRecord s) 11 = (if s.winch.further = true then 1 else 0)
          ∧ u8At (winchRecord s) 12 = (if s.inputs.lines[1].level = s.tables.input[1].active then 1 else 0))
      ∧ ((s.protection.cap < 16777216 → u24At (budgetRecord s) 0 = s.protection.cap)
          ∧ (s.budget.capUsed < 16777216 → u24At (budgetRecord s) 3 = s.budget.capUsed)
          ∧ (∀ c : Fin 4,
              (s.budget.demand[c] < 16777216 → u24At (budgetRecord s) (6 + 9 * c.val) = s.budget.demand[c])
                ∧ (s.budget.grant[c] < 16777216 → u24At (budgetRecord s) (9 + 9 * c.val) = s.budget.grant[c])
                ∧ u8At (budgetRecord s) (12 + 9 * c.val) = s.tables.budget[c].priority.val
                ∧ (s.tables.budget[c].floor < 65536 →
                    u16At (budgetRecord s) (13 + 9 * c.val) = s.tables.budget[c].floor))
          ∧ u8At (budgetRecord s) 42 = 16 * pointer 0 + pointer 1
          ∧ u8At (budgetRecord s) 43 = 16 * pointer 2 + pointer 3)
      ∧ (u8At (steerRecord s) 0 = mode ∧ u8At (steerRecord s) 1 = requested ∧ u8At (steerRecord s) 2 = status
          ∧ u8At (steerRecord s) 3 = (if s.steering.modeHeld = true then 1 else 0)
          ∧ ∀ k : Fin 4,
              (s.steering.corners[k].target.natAbs ≤ 1000 →
                  s16At (steerRecord s) (4 + 6 * k.val) = s.steering.corners[k].target)
                ∧ (s.steering.corners[k].position.natAbs ≤ 1000 →
                    s16At (steerRecord s) (6 + 6 * k.val) = s.steering.corners[k].position)
                ∧ (0 ≤ s.steering.corners[k].width → s.steering.corners[k].width < 65536 →
                    (u16At (steerRecord s) (8 + 6 * k.val) : Int) = s.steering.corners[k].width))
      ∧ (u8At (telemetryPayload s) 0 = run ∧ u8At (telemetryPayload s) 1 = prot
          ∧ (0 ≤ s.protection.minCell → s.protection.minCell < 65536 →
              (u16At (telemetryPayload s) 2 : Int) = s.protection.minCell)
          ∧ (0 ≤ s.scanner.values[4] → s.scanner.values[4] < 65536 →
              (u16At (telemetryPayload s) 4 : Int) = s.scanner.values[4])
          ∧ (0 ≤ s.scanner.values[5] → s.scanner.values[5] < 16777216 →
              (u24At (telemetryPayload s) 6 : Int) = s.scanner.values[5])
          ∧ u8At (telemetryPayload s) 9 = winch
          ∧ (s.winch.line.natAbs ≤ 65535 → (u24At (telemetryPayload s) 10 : Int) = s.winch.line % 16777216)
          ∧ u8At (telemetryPayload s) 13 = (if s.winch.homed = true then 1 else 0)
          ∧ u8At (telemetryPayload s) 14 = mode
          ∧ u8At (telemetryPayload s) 15 = (if s.steering.status = .align then 1 else 0)
          ∧ (u8At (telemetryPayload s) 16 = 1 ↔ ∃ i : Fin 15, s.inputs.flags[i] = true)
          ∧ u8At (telemetryPayload s) 16 ≤ 1)

/-- What a store writes is what a start-up loads: the image of any valid set of tables is 855 bytes, is
valid, and holds exactly those tables. -/
def Obligations.ImageRoundTrip : Prop :=
  ∀ t : Tables, tablesValid t = true → (imageOf t).length = 855 ∧ loadImage (imageOf t) = some t

/-! ## Actions -/

/-- ENTER_SETUP: answered STATE in INIT, FAILSAFE and SETUP; in WAIT and RUN accepted exactly with a neutral
throttle and the winch in IDLE or FAULT. Accepted, the run state is SETUP, the hold timer is stopped and the
throttle and the winch command are 0. Refused, the run state is unchanged, and a winch in FREESPOOL or
CLUTCH_OUT returns its clutch under the release block; any other winch changes nothing. -/
def Obligations.EnterSetupAction : Prop :=
  ∀ s : State, Listening s →
    (s.link.run = .init ∨ s.link.run = .failsafe ∨ s.link.run = .setup →
      exec .enterSetup s = .next (s.answered 0x45 .state [] []))
    ∧ (s.link.run = .wait ∨ s.link.run = .run →
        (s.record.throttle.natAbs ≤ s.tables.link.neutralWindow →
          s.winch.state = .idle ∨ s.winch.state = .fault →
          ∃ t, exec .enterSetup s = .next t
            ∧ t = { s with link := t.link, drive := t.drive, winch := t.winch, lights := t.lights
                           budget := t.budget }
            ∧ t.link = { (s.answered 0x45 .done [] []).link with
                         run := .setup, hold := { s.link.hold with running := false } }
            ∧ t.drive.t2 = 0 ∧ t.drive.filed = 0
            ∧ t.winch = { s.winch with command := 0 })
        ∧ (¬(s.record.throttle.natAbs ≤ s.tables.link.neutralWindow
              ∧ (s.winch.state = .idle ∨ s.winch.state = .fault)) →
          (s.winch.state ≠ .freespool → s.winch.state ≠ .clutchOut →
            exec .enterSetup s = .next (s.answered 0x45 .refused [] []))
          ∧ (s.winch.state = .freespool ∨ s.winch.state = .clutchOut →
              ∃ t, exec .enterSetup s = .next t
                ∧ t = { s.answered 0x45 .refused [] [] with
                        winch := t.winch, lights := t.lights, budget := t.budget }
                ∧ t.winch.releaseBlock = true
                ∧ t.winch.clutchWidth = (s.tables.winch.engagePosition : Int)
                ∧ t.winch.state = (if inputActive s 1 = true then .idle else .clutchIn)
                ∧ (t.winch.clutchTimer.running = true ↔ inputActive s 1 = false))))

/-- R20: LEAVE_SETUP is answered STATE outside SETUP, BUSY while a store is in flight, REFUSED when the SCAN
list lacks a cell source up to the cell count or PACK_I; otherwise the run state becomes WAIT. -/
def Obligations.LeaveSetupAction : Prop :=
  ∀ (s : State) (complete : Prop), Listening s →
    (complete ↔ (∀ n : Fin 4, n.val < s.tables.protect.cellCount →
                  ∃ k : Fin 8, s.tables.scan[k].source = some (cellQuantity n))
                ∧ ∃ k : Fin 8, s.tables.scan[k].source = some .packI) →
    (s.link.run ≠ .setup → exec .leaveSetup s = .next (s.answered 0x45 .state [] []))
      ∧ (s.link.run = .setup → storeInFlight s.store = true →
          exec .leaveSetup s = .next (s.answered 0x45 .busy [] []))
      ∧ (s.link.run = .setup → storeInFlight s.store = false → ¬complete →
          exec .leaveSetup s = .next (s.answered 0x45 .refused [] []))
      ∧ (s.link.run = .setup → storeInFlight s.store = false → complete →
          ∃ t, exec .leaveSetup s = .next t
            ∧ t = { s with link := t.link, drive := t.drive, winch := t.winch, lights := t.lights
                           budget := t.budget }
            ∧ t.link = { (s.answered 0x45 .done [] []).link with run := .wait }
            ∧ t.drive.t2 = 0 ∧ t.winch.command = 0)

/-- STORE is answered STATE outside SETUP and BUSY while a store is in flight; otherwise it is answered DONE, takes
the tables in force as its content and leaves the image erased (the erased image's form is the model's choice,
log entry 8). The end of the erase begins the programming. A store ends with a valid image that holds the content
and STORE_DONE, when every entry and the CHECK compared equal; otherwise with an invalid image and STORE_FAIL.
Nothing else changes. -/
def Obligations.StoreLifecycle : Prop :=
  ((∀ s : State, Listening s →
        (s.link.run ≠ .setup → exec .store s = .next (s.answered 0x45 .state [] []))
          ∧ (s.link.run = .setup → storeInFlight s.store = true →
              exec .store s = .next (s.answered 0x45 .busy [] []))
          ∧ (s.link.run = .setup → storeInFlight s.store = false →
              exec .store s =
                .next { s.answered 0x45 .done [] [] with
                        store := { s.store with state := .erasing s.tables, image := [] } }))
      ∧ (∀ (s : State) (content : Tables), s.store.state = .erasing content →
          exec .eraseEnd s = .next { s with store := { s.store with state := .programming content } }))
    ∧ (∀ (s : State) (content : Tables) (v : Verify), s.store.state = .programming content →
      (v = .good ∨ v = .checkRead (crc (encodeTables content)) →
          exec (.storeEnd v) s =
            .next { s with store := { s.store with state := .idle, image := imageOf content }
                           inputs := raiseFlag .storeDone s.inputs }
          ∧ (tablesValid content = true → loadImage (imageOf content) = some content))
        ∧ (v ≠ .good → v ≠ .checkRead (crc (encodeTables content)) →
            ∃ t, exec (.storeEnd v) s = .next t
              ∧ t = { s with store := { s.store with state := .idle, image := t.store.image }
                             inputs := raiseFlag .storeFail s.inputs }
              ∧ loadImage t.store.image = none))

/-- RESTORE_DEFAULTS is answered STATE outside SETUP and BUSY while a store is in flight. Otherwise it completes: every
table is at its defaults at once, the answer is DONE, and each owner takes it as a write. STC files its demand from
the default currents, its mode, request, status and corners as they stand. DRV computes with the default record: t2
and the demand 0, S4 at 1500. WCH stands at the engage position of 1100 and re-evaluates the freespool request
(AUX1 band 2). LTC's list is emptied, each default WHILE cue whose trigger source's kept value is true starts in
ascending order, and one composition under the kept scene ends the event. A pass in progress keeps its list, a
stopped scanner starts one, and the cap is the default one of the state. A line whose active level was HIGH
inverts, with the flag, arm and winch effects of the event, those of IN0 and IN1 in a winch of SETUP. The demands
follow. The image, the run state, the function record, the grants, the measured values, the accepted levels and run
counts, and the waiting commands stay. -/
def Obligations.RestoreDefaultsAction : Prop :=
  ∀ s : State, Listening s →
    (s.link.run ≠ .setup → exec .restoreDefaults s = .next (s.answered 0x45 .state [] []))
      ∧ (s.link.run = .setup → storeInFlight s.store = true →
          exec .restoreDefaults s = .next (s.answered 0x45 .busy [] []))
      ∧ (s.link.run = .setup → storeInFlight s.store = false →
          ∀ (v a : Int) (rise : Fin 4 → Bool), v = s.drive.record.throttle →
            a = (if 0 ≤ v then v else (v * 600).tdiv 1000) →
            (∀ n, rise n = decide (s.tables.input[n].active = .high ∧ s.inputs.lines[n].level = .low)) →
            ∃ t, exec .restoreDefaults s = .next t
              ∧ t = { s with
                  tables := defaultTables, link := (s.answered 0x45 .done [] []).link
                  steering :=
                    { s.steering with
                      filed :=
                        if s.steering.active = true then
                          (s.steering.corners.toList.map fun k => if k.position = k.target then 150 else 1200).sum
                        else 0 }
                  drive := t.drive, winch := t.winch, lights := t.lights
                  scanner :=
                    { s.scanner with
                      pass := if s.scanner.pass = none then some ⟨defaultScan, 0, 0, 0⟩ else s.scanner.pass }
                  protection :=
                    { s.protection with
                      cap := match s.protection.state with
                        | .normal => 30000 | .caution => 22500 | .limit => 15000 | .cutoff => 1500 }
                  budget := { s.budget with demand := t.budget.demand }
                  inputs := t.inputs }
              ∧ t.drive.t1 = (if s.protection.state = .limit ∧ 500 < a then 500 else a)
              ∧ t.drive.t2 = 0 ∧ t.drive.filed = 0 ∧ t.drive.s4Width = 1500 ∧ t.drive.reverse = false
              ∧ (s.drive.t2.natAbs < 150 →
                  t.drive = { s.drive with t1 := t.drive.t1, t2 := 0, grantUsed := s.budget.grant[1], filed := 0
                                           s4Width := 1500, reverse := false })
              ∧ (t.winch.request = true ↔ s.winch.record.aux1Band = some 2)
              ∧ (s.winch.state = .idle ∨ s.winch.state = .clutchIn ∨ s.winch.state = .fault →
                  t.winch = { s.winch with
                    clutchWidth := 1100, target := 0, filed := 0, request := t.winch.request
                    releaseBlock := s.winch.releaseBlock && t.winch.request
                    line := if rise 0 = true then 0 else s.winch.line
                    homed := rise 0 || s.winch.homed
                    state := if rise 1 = true ∧ s.winch.state = .clutchIn then .idle else s.winch.state
                    direction :=
                      if rise 1 = true ∧ s.winch.state = .clutchIn then .none else s.winch.direction
                    clutchTimer :=
                      if rise 1 = true ∧ s.winch.state = .clutchIn then stopTimer s.winch.clutchTimer
                      else s.winch.clutchTimer })
              ∧ t.lights.scene = s.lights.scene ∧ t.lights.grantUsed = s.budget.grant[3]
              ∧ t.lights.active =
                  (((List.finRange 16).filter fun k =>
                      defaultCue[k].mode == .whileTrue && triggerTrue t.lights.kept defaultCue[k]).map fun k =>
                    { cue := k, phaseOn := true, timeLeft := defaultCue[k].onTime, cyclesLeft := defaultCue[k].cycles })
              ∧ (∀ l ∈ [LevelSource.turnLeft, .turnRight, .aligning, .winchFault, .protCaution, .protLimit, .protCutoff,
                    .failsafe, .setup], keptValue t.lights.kept l = keptValue s.lights.kept l)
              ∧ (∀ o : Fin 12, t.lights.levels[o] =
                  composedLevel defaultTables s.lights.scene t.lights.active o)
              ∧ t.lights.filed = ((List.finRange 12).map fun o => t.lights.levels[o] * 250 / 255).sum
              ∧ (∀ n : Fin 4, t.inputs.lines[n].level = s.inputs.lines[n].level
                  ∧ t.inputs.lines[n].runCount = s.inputs.lines[n].runCount
                  ∧ t.inputs.lines[n].armed =
                      (s.inputs.lines[n].armed
                        || decide (s.tables.input[n].active = .high ∧ s.inputs.lines[n].level = .high))
                  ∧ t.inputs.flags[11 + n.val] =
                      (s.inputs.flags[11 + n.val] || (rise n && s.inputs.lines[n].armed))
                  ∧ (s.tables.input[n].active = .high → keptValue t.lights.kept (.inLevel n) = rise n))
              ∧ (∀ i : Fin 15, i.val < 11 → t.inputs.flags[i] = s.inputs.flags[i])
              ∧ t.inputs.ticking = s.inputs.ticking
              ∧ (ClaimsFiled s → ClaimsFiled t))

/-- CLEAR_PROTECT is answered STATE in INIT and outside CUTOFF; in CUTOFF it is accepted exactly under the
conditions on primed, the cause's figure, the throttle and the winch. Accepted, the state is LIMIT with no
cause, every counter 0 and the cap of LIMIT, and PROT_CHANGED is set; refused, nothing changes. -/
def Obligations.ClearProtectAction : Prop :=
  ∀ (s : State) (allowed : Prop), Listening s →
    (allowed ↔ s.protection.primed = true
      ∧ (s.protection.cause = .undervolt →
          (s.tables.protect.vLimit + s.tables.protect.hysteresis : Int) ≤ s.protection.minCell)
      ∧ (s.protection.cause = .overcurrent → s.scanner.values[5] ≤ (s.tables.protect.iTrip / 2 : Nat))
      ∧ s.record.throttle.natAbs ≤ s.tables.link.neutralWindow
      ∧ s.winch.state ≠ .haulIn ∧ s.winch.state ≠ .payOut) →
    (s.link.run = .init ∨ s.protection.state ≠ .cutoff →
        exec .clearProtect s = .next (s.answered 0x45 .state [] []))
      ∧ (s.link.run ≠ .init → s.protection.state = .cutoff → ¬allowed →
          exec .clearProtect s = .next (s.answered 0x45 .refused [] []))
      ∧ (s.link.run ≠ .init → s.protection.state = .cutoff → allowed →
          ∃ t, exec .clearProtect s = .next t
            ∧ t = { s.answered 0x45 .done [] [] with
                    protection := t.protection, drive := t.drive, lights := t.lights, budget := t.budget
                    inputs := raiseFlag .protChanged s.inputs }
            ∧ t.protection =
                { s.protection with state := .limit, cause := .none, counters := ⟨0, 0, 0, 0, 0, 0⟩
                                    cap := s.tables.protect.iMax * s.tables.protect.limitFactor / 1000 }
            ∧ keptValue t.lights.kept .protCaution = true ∧ keptValue t.lights.kept .protLimit = true
            ∧ keptValue t.lights.kept .protCutoff = false)

/-- R100: WINCH_HOME is accepted in IDLE, in any run state from WAIT to SETUP: line count 0 and homed, answered
DONE, with no HOME_SEEN or any other effect; in every other winch state it is answered REFUSED with no change.
Homed becomes yes only so or where IN0 becomes active (R99), always with a line count of 0, and becomes no at no
command but a power-on or brown-out reset. -/
def Obligations.WinchHomeAction : Prop :=
  (∀ s : State, Listening s → s.link.run ≠ .init →
      (s.winch.state = .idle →
          exec .winchHome s =
            .next { s.answered 0x45 .done [] [] with winch := { s.winch with line := 0, homed := true } })
        ∧ (s.winch.state ≠ .idle → exec .winchHome s = .next (s.answered 0x45 .refused [] [])))
    ∧ ∀ (c : Instr) (s t : State), exec c s = .next t →
        (s.winch.homed = true → t.winch.homed = false → c = .powerOnReset ∨ c = .brownOutReset)
          ∧ (s.winch.homed = false → t.winch.homed = true →
              t.winch.line = 0
                ∧ ((s.winch.state = .idle ∧ t.winch = { s.winch with line := 0, homed := true })
                    ∨ (inputActive s 0 = false ∧ inputActive t 0 = true)))

/-- R111: WINCH_CLEAR is accepted in FAULT with the command at 0 and, for cause HOT, TEMP below the warn. The
record is cleared, the WINCH_FAULT source falls with the sticky flag left, and the winch goes to IDLE (and on to
CLUTCH_OUT by IDLE's check of R102) when the clutch switch is active, to CLUTCH_IN with its timer otherwise. -/
def Obligations.WinchClearAction : Prop :=
  ∀ (s : State) (allowed release : Prop), Listening s → s.link.run ≠ .init →
    (allowed ↔ s.winch.state = .fault ∧ s.winch.command = 0
      ∧ (s.winch.cause = .hot → s.winch.temp < (s.tables.winch.tempWarn : Int))) →
    (release ↔ s.winch.request = true ∧ s.link.run = .run ∧ s.protection.state ≠ .cutoff
      ∧ s.winch.releaseBlock = false) →
    (¬allowed → exec .winchClear s = .next (s.answered 0x45 .refused [] []))
      ∧ (allowed → ∃ t, exec .winchClear s = .next t
          ∧ t = { s.answered 0x45 .done [] [] with
                  winch := t.winch, lights := t.lights, budget := t.budget }
          ∧ t.winch.cause = .none ∧ t.winch.further = false
          ∧ keptValue t.lights.kept .winchFault = false
          ∧ t.winch.line = s.winch.line ∧ t.winch.homed = s.winch.homed
          ∧ (inputActive s 1 = true → ¬release → t.winch.state = .idle)
          ∧ (inputActive s 1 = true → release → t.winch.state = .clutchOut)
          ∧ (inputActive s 1 = false → t.winch.state = .clutchIn)
          ∧ (t.winch.state ≠ .idle →
              t.winch.clutchTimer = startTimer s.tables.winch.clutchTimeout
                (if inputActive s 1 = true then stopTimer s.winch.clutchTimer else s.winch.clutchTimer)))

/-! ## Function mapping -/

/-- R31, R32 and R33: scaling, clamp and reversal; deadband; curve. With the figures the rules draw from
them: ranges, full deflection, continuity at the edge of the deadband, and the points of a curve. A slot's value is
that of the three stages in this order on its own channel's raw value, without the third where its curve is NONE, and
0 where its source is NONE (R34). A normalization sets STEER, THROTTLE, WINCH, AUX2 and RATE from FUNC entries 0, 1,
2, 6 and 7, the four bands from the source channels of entries 3 to 6, held where there is none, the values of
STEER_SEL, LIGHT_SEL and AUX1 to 0, and rate-unsourced by entry 7 (R38). The raw values are those R191 packs in three
bytes for two channels. -/
def Obligations.NormalizationStages : Prop :=
  (∀ (e : FuncEntry) (x : Nat), x ≤ 4095 → e.centre ≤ 4095 → 200 ≤ e.span →
      (∀ q : Int, q = (((x : Int) - e.centre) * 1000).tdiv e.span →
          -20475 ≤ q ∧ q ≤ 20475
            ∧ scaleRaw e x = (if e.reverse = true then -(max (-1000) (min 1000 q)) else max (-1000) (min 1000 q))))
    ∧ (∀ (d : Nat) (v : Int), d ≤ 200 → v.natAbs ≤ 1000 →
        (v.natAbs ≤ d → applyDeadband d v = 0)
          ∧ (d < v.natAbs →
              (applyDeadband d v).natAbs = (v.natAbs - d) * 1000 / (1000 - d)
                ∧ (0 < v → 0 < applyDeadband d v) ∧ (v < 0 → applyDeadband d v < 0))
          ∧ (v.natAbs = 1000 → applyDeadband d v = v)
          ∧ (v.natAbs = d + 1 → (applyDeadband d v).natAbs = 1)
          ∧ (d = 0 → applyDeadband d v = v))
    ∧ (∀ (t : Vector Int 36) (k : Fin 4) (v : Int), -1000 ≤ v → v ≤ 1000 →
        ∀ i : Nat, i ≤ 7 → -1000 + 250 * (i : Int) ≤ v → (v < -750 + 250 * (i : Int) ∨ i = 7) →
          ∀ p q : Int, t[k.val * 9 + i]? = some p → t[k.val * 9 + i + 1]? = some q →
            applyCurve t k v = max (-1000) (min 1000 (p + ((q - p) * (v - (-1000 + 250 * (i : Int)))).tdiv 250))
              ∧ (-1000 ≤ p → p ≤ 1000 → v = -1000 + 250 * (i : Int) → applyCurve t k v = p)
              ∧ (-1000 ≤ q → q ≤ 1000 → v = 1000 → applyCurve t k v = q))
    ∧ (∀ (t : Tables) (raw : Vector Nat 10) (old new : FunctionRecord) (value : Fin 8 → Int),
      new = normalize t raw old →
      (∀ n : Fin 8, (t.func[n].source = none → value n = 0)
        ∧ ∀ (c : Fin 10) (v : Int), t.func[n].source = some c →
            v = applyDeadband t.func[n].deadband (scaleRaw t.func[n] raw[c]) →
            (t.func[n].curve = none → value n = v)
              ∧ ∀ k : Fin 4, t.func[n].curve = some k → value n = applyCurve t.curve k v) →
      new.steer = value 0 ∧ new.throttle = value 1 ∧ new.winch = value 2 ∧ new.aux2 = value 6 ∧ new.rate = value 7
        ∧ new.steerSel = 0 ∧ new.lightSel = 0 ∧ new.aux1 = 0
        ∧ (new.rateUnsourced = true ↔ t.func[7].source = none)
        ∧ new.steerSelBand = slotBand t raw .steerSel t.func[3] old.steerSelBand
        ∧ new.lightSelBand = slotBand t raw .lightSel t.func[4] old.lightSelBand
        ∧ new.aux1Band = slotBand t raw .aux1 t.func[5] old.aux1Band
        ∧ new.aux2Band = slotBand t raw .aux2 t.func[6] old.aux2Band
        ∧ (t.func[3].source = none → new.steerSelBand = old.steerSelBand)
        ∧ (t.func[4].source = none → new.lightSelBand = old.lightSelBand)
        ∧ (t.func[5].source = none → new.aux1Band = old.aux1Band)
        ∧ (t.func[6].source = none → new.aux2Band = old.aux2Band))
    ∧ ∀ (p : List Byte) (a b c : Byte) (g : Fin 5), p[3 * g.val]? = some a → p[3 * g.val + 1]? = some b →
        p[3 * g.val + 2]? = some c →
        (rawChannels p)[2 * g.val] = a.toNat * 16 + b.toNat / 16
          ∧ (rawChannels p)[2 * g.val + 1] = b.toNat % 16 * 256 + c.toNat

/-- Band decoding by first match: the band is that of the first entry in index order that names the slot and
whose top N pattern bits equal the top N bits of the raw value; with no match, or with no source channel, the
band is kept. -/
def Obligations.BandsByFirstMatch : Prop :=
  ∀ (t : Tables) (raw : Vector Nat 10) (slot : BandSlot) (e : FuncEntry) (present : Option (Fin 8))
    (hit : Fin 16 → Fin 10 → Prop),
    tablesValid t = true → (∀ c : Fin 10, raw[c] < 4096) →
    (∀ (n : Fin 16) (c : Fin 10), hit n c ↔
      (t.band[n].slot = some slot
        ∧ ∀ j : Fin 6, j.val < t.band[n].width → raw[c].testBit (11 - j.val) = t.band[n].pattern.testBit (5 - j.val))) →
    (e.source = none → slotBand t raw slot e present = present)
      ∧ ∀ c : Fin 10, e.source = some c →
          ((∀ n, ¬hit n c) → slotBand t raw slot e present = present)
            ∧ ∀ n, hit n c → (∀ m, m < n → ¬hit m c) → slotBand t raw slot e present = some t.band[n].band

/-- The values of the function record, and of the copies STC, DRV and WCH hold, stay in −1000..+1000 (0 for STEER_SEL,
LIGHT_SEL and AUX1), and the tables in force stay valid, through every step. So do the scanner's figures: the
pass in progress stands at a slot with a source and conversions to make, and every measured value is within
its range. -/
def Obligations.RecordsAndMeasuresStayInRange : Prop :=
  (∀ s t : State, RecordsSound s → step s = .next t → RecordsSound t)
    ∧ (∀ s t : State, ScannerSound s → step s = .next t → ScannerSound t)

/-! ## Steering -/

/-- R50, R51, R52, R57 and R58: the rate factor and the scaled steer, the shares by gain, the reduction of the
outer corners, with the bounds and signs the rules draw from them; and a corner's width, the centre plus the
position's throw, rounded to the nearest microsecond with a half away from zero, then clamped into the limits. -/
def Obligations.CornerTargetsAndWidths : Prop :=
  ((∀ r : FunctionRecord, RecordInRange r →
        (r.rateUnsourced = true → scaledSteer r = r.steer)
          ∧ (r.rateUnsourced = false → scaledSteer r = (r.steer * (600 + (r.rate * 400).tdiv 1000)).tdiv 1000)
          ∧ (r.rateUnsourced = false → r.rate = -1000 → scaledSteer r = (r.steer * 200).tdiv 1000)
          ∧ (r.rateUnsourced = false → r.rate = 0 → scaledSteer r = (r.steer * 600).tdiv 1000)
          ∧ (r.rateUnsourced = false → r.rate = 1000 → scaledSteer r = r.steer)
          ∧ -1000 ≤ scaledSteer r ∧ scaledSteer r ≤ 1000)
      ∧ ∀ (g : Vector GeomEntry 16) (m : SteerMode) (k : Fin 4) (s' share bracket : Int) (e : GeomEntry),
          e = geomEntry g m k → geomInRange e = true → -1000 ≤ s' → s' ≤ 1000 →
          share = (s' * e.gain).tdiv 1000 →
          bracket = (share * e.ackermann * (s'.natAbs : Int)).tdiv 1000000 →
          -1000 ≤ share ∧ share ≤ 1000 ∧ (e.gain = 0 → share = 0) ∧ (e.gain < 0 → 0 < s' → share ≤ 0)
            ∧ cornerTarget g m s' k =
                (if (0 < s' ∧ (k = 0 ∨ k = 2)) ∨ (s' < 0 ∧ (k = 1 ∨ k = 3)) then share - bracket else share)
            ∧ (0 ≤ share → 0 ≤ cornerTarget g m s' k ∧ cornerTarget g m s' k ≤ share)
            ∧ (share ≤ 0 → share ≤ cornerTarget g m s' k ∧ cornerTarget g m s' k ≤ 0)
            ∧ (e.ackermann = 0 → cornerTarget g m s' k = share))
    ∧ ∀ (e : CornerEntry) (a used throwPart : Int), cornerInRange e = true →
        used = (if e.reverse = true then -a else a) →
        throwPart = used * (if 0 ≤ used then (e.throwPos : Int) else (e.throwNeg : Int)) →
        (e.lowLimit : Int) ≤ cornerWidth e a ∧ cornerWidth e a ≤ e.highLimit
          ∧ ∀ w : Int, 2 * (1000 * (w - e.centre) - throwPart).natAbs ≤ 1000 →
              (2 * (1000 * (w - e.centre) - throwPart).natAbs = 1000 →
                throwPart.natAbs < (1000 * (w - e.centre)).natAbs) →
              cornerWidth e a = max (e.lowLimit : Int) (min (e.highLimit : Int) w)

/-- A servo-period start with the corner pulses ACTIVE moves every corner toward its target by its effective
step under the STEER grant, makes its width (rounded, then clamped) and checks ALIGN for completion; with them
OFF it changes nothing in STC. Either way every ACTIVE output begins one pulse of its present width, every OFF
output stays low, and the next period is timed by the DRIVE record in force. DRV reads its grant: where it equals the
grant used, DRV changes nothing else; where it differs, DRV runs the throttle path on its record, with limits,
LIMIT-state cap, ceiling of the new grant, zeroing, demand, S4 width, REVERSE and a throttle fall. That the pulses of
the first period start after the first function update are made from positions moved there, where R69 has centre
widths, is the model's choice (log entry 20). -/
def Obligations.ServoPeriodStart : Prop :=
  ∀ (s : State) (g d ceiling : Nat) (v a : Int), s.drive.period.running = true → g = s.budget.grant[0] →
    d = s.steering.filed → v = s.drive.record.throttle →
    a = (if 0 ≤ v then (v * s.tables.drive.forwardLimit).tdiv 1000
         else (v * s.tables.drive.reverseLimit).tdiv 1000) →
    ceiling = min 1000 (s.budget.grant[1] * 1000 / s.tables.drive.ratedCurrent) →
    ∃ t, exec .servoPeriodStart s = .next t
      ∧ t = { s with steering := t.steering, drive := t.drive, lights := t.lights, budget := t.budget }
      ∧ t.drive.period = startTimer s.tables.drive.servoPeriod s.drive.period
      ∧ t.drive.grantUsed = s.budget.grant[1]
      ∧ (s.budget.grant[1] = s.drive.grantUsed →
          t.drive = { s.drive with period := t.drive.period, pulses := t.drive.pulses })
      ∧ (s.budget.grant[1] ≠ s.drive.grantUsed →
          t.drive = { s.drive with
              period := t.drive.period, pulses := t.drive.pulses, t1 := t.drive.t1, t2 := t.drive.t2
              grantUsed := t.drive.grantUsed, filed := t.drive.filed, s4Width := t.drive.s4Width
              reverse := t.drive.reverse, braking := t.drive.braking, brakingTimer := t.drive.brakingTimer }
            ∧ t.drive.t1 =
                (if s.protection.state = .limit ∧ (s.tables.drive.limitForwardCap : Int) < a then
                  (s.tables.drive.limitForwardCap : Int) else a)
            ∧ t.drive.t2 =
                (if s.link.run ≠ .run ∨ s.protection.state = .cutoff then 0
                 else max (-(ceiling : Int)) (min (ceiling : Int) t.drive.t1))
            ∧ t.drive.filed =
                (if s.link.run ≠ .run ∨ s.protection.state = .cutoff then 0
                 else t.drive.t1.natAbs * s.tables.drive.ratedCurrent / 1000)
            ∧ t.drive.s4Width =
                s.tables.drive.neutral
                  + (if 0 < t.drive.t2 then roundDiv (t.drive.t2 * s.tables.drive.forwardThrow) 1000
                     else roundDiv (t.drive.t2 * s.tables.drive.reverseThrow) 1000)
            ∧ (t.drive.reverse = true ↔ t.drive.t2 < -(s.tables.drive.reverseThreshold : Int))
            ∧ ((t.drive.t2 = 0 ∨ (0 < t.drive.t2 ∧ 0 < s.drive.t2) ∨ (t.drive.t2 < 0 ∧ s.drive.t2 < 0)) →
                t.drive.t2.natAbs + s.tables.drive.brakeDelta ≤ s.drive.t2.natAbs →
                t.drive.braking = true
                  ∧ t.drive.brakingTimer = startTimer s.tables.drive.brakeHold s.drive.brakingTimer)
            ∧ (¬((t.drive.t2 = 0 ∨ (0 < t.drive.t2 ∧ 0 < s.drive.t2) ∨ (t.drive.t2 < 0 ∧ s.drive.t2 < 0))
                  ∧ t.drive.t2.natAbs + s.tables.drive.brakeDelta ≤ s.drive.t2.natAbs) →
                t.drive.braking = s.drive.braking ∧ t.drive.brakingTimer = s.drive.brakingTimer))
      ∧ t.drive.pulses[4] = (if s.drive.s4Active = true then t.drive.s4Width else 0)
      ∧ t.drive.pulses[5] = (if s.drive.s5Active = true then s.winch.clutchWidth else 0)
      ∧ t.drive.pulses[6] = (if s.drive.s6Active = true then s.drive.s6Width else 0)
      ∧ (s.steering.active = false → t.steering = s.steering ∧ ∀ k : Fin 4, t.drive.pulses[k.val] = 0)
      ∧ (s.steering.active = true →
          (∀ k : Fin 4,
            t.steering.corners[k].position =
                slewToward
                  (if 0 < d ∧ g < d then max 1 (s.tables.corner[k].slewStep * g / d)
                   else s.tables.corner[k].slewStep)
                  s.steering.corners[k].position s.steering.corners[k].target
              ∧ t.steering.corners[k].width = cornerWidth s.tables.corner[k] t.steering.corners[k].position
              ∧ t.drive.pulses[k.val] = t.steering.corners[k].width)
          ∧ (s.steering.status = .steady → t.steering.mode = s.steering.mode ∧ t.steering.status = .steady)
          ∧ (s.steering.status = .align → (∃ k : Fin 4, t.steering.corners[k].position ≠ 0) →
              t.steering.status = .align ∧ t.steering.mode = s.steering.mode)
          ∧ (s.steering.status = .align → (∀ k : Fin 4, t.steering.corners[k].position = 0) →
              s.winch.state = .haulIn →
              t.steering.status = .align ∧ t.steering.modeHeld = true ∧ t.steering.mode = s.steering.mode)
          ∧ (s.steering.status = .align → (∀ k : Fin 4, t.steering.corners[k].position = 0) →
              s.winch.state ≠ .haulIn →
              t.steering.status = .steady ∧ t.steering.mode = s.steering.requested
                ∧ t.steering.modeHeld = false
                ∧ ∀ k : Fin 4, t.steering.corners[k].target =
                    cornerTarget s.tables.geom s.steering.requested (scaledSteer s.steering.record) k))

/-- R56: a position lands on its target when it is within the effective step, and otherwise moves by exactly the
step toward it. No command but SERVO_PERIOD_START and the resets changes a corner's position, and a period start
moves no position by more than its slew step. -/
def Obligations.PositionsMoveOnlyAtPeriodStarts : Prop :=
  (∀ (step : Nat) (a t : Int),
      ((t - a).natAbs ≤ step → slewToward step a t = t)
        ∧ (step < (t - a).natAbs →
            (slewToward step a t - a).natAbs = step
              ∧ (t - slewToward step a t).natAbs + step = (t - a).natAbs))
    ∧ (∀ (c : Instr) (s t : State), exec c s = .next t →
      t.steering = steeringAfterReset
        ∨ ∀ k : Fin 4,
            (c ≠ .servoPeriodStart → t.steering.corners[k].position = s.steering.corners[k].position)
              ∧ (1 ≤ s.tables.corner[k].slewStep →
                  (t.steering.corners[k].position - s.steering.corners[k].position).natAbs
                    ≤ s.tables.corner[k].slewStep))

/-- The steer mode changes only at a servo-period start in ALIGN that finds all four corners at 0 and the winch not
in HAUL_IN, to the mode requested; at load complete, to the default mode; and at a reset, where FRONT until load
complete is the model's choice (log entry 9). Through every step STEADY stands with the request met, ALIGN with
every target 0, and the corner pulses OFF with every corner at rest, and STC's filed demand is that of R59: the sum of
the moving and holding currents in force over the corners, 0 with the pulses OFF. -/
def Obligations.SteerModeChangesOnlyCentred : Prop :=
  (∀ (c : Instr) (s t : State), exec c s = .next t → t.steering.mode ≠ s.steering.mode →
      (c = .servoPeriodStart ∧ s.steering.status = .align ∧ s.winch.state ≠ .haulIn
          ∧ t.steering.mode = s.steering.requested ∧ ∀ k : Fin 4, t.steering.corners[k].position = 0)
        ∨ (s.store.loaded = false ∧ t.store.loaded = true ∧ t.steering.mode = t.tables.steer.defaultMode)
        ∨ t.steering = steeringAfterReset)
    ∧ (∀ s t : State, StartUp s → SteeringSound s → step s = .next t → SteeringSound t)

/-! ## Drive -/

/-- The BRAKING timer's expiry makes BRAKING false and stops the timer, and LTC receives a change; the rest of DRV
is unchanged, and of the claims only that of LTC may change. The expiry of the stall, the no-motion or the clutch
timer is a fault of its cause: FAULT with duty, target and demand 0, no direction, the three timers stopped, the
clutch at its engage position, WINCH_FAULT set and its source true; in FAULT already, it would set further fault
and keep the first cause. -/
def Obligations.TimerExpiriesStop : Prop :=
  (∀ s : State, s.drive.brakingTimer.running = true →
      ∃ t, exec .brakingTimerExpiry s = .next t
        ∧ t = { s with drive := { s.drive with braking := false
                                               brakingTimer := { s.drive.brakingTimer with running := false } }
                       lights := t.lights
                       budget := { s.budget with demand := t.budget.demand } }
        ∧ (s.drive.braking = true → keptValue t.lights.kept .braking = false)
        ∧ ∀ c : Fin 4, c ≠ 3 → t.budget.demand[c] = s.budget.demand[c])
    ∧ (∀ (s : State) (c : Instr) (cause : FaultCause),
      (c = .stallTimerExpiry ∧ cause = .stall ∧ s.winch.stallTimer.running = true)
        ∨ (c = .noMotionTimerExpiry ∧ cause = .noMotion ∧ s.winch.noMotionTimer.running = true)
        ∨ (c = .clutchTimerExpiry ∧ cause = .clutch ∧ s.winch.clutchTimer.running = true) →
      ∃ t, exec c s = .next t
        ∧ t = { s with winch := t.winch, lights := t.lights, inputs := t.inputs
                       budget := { s.budget with demand := t.budget.demand } }
        ∧ t.winch.line = s.winch.line ∧ t.winch.homed = s.winch.homed ∧ t.winch.command = s.winch.command
        ∧ t.winch.state = .fault
        ∧ (s.winch.state ≠ .fault →
            t.winch.cause = cause ∧ t.winch.further = false ∧ t.winch.direction = .none ∧ t.winch.duty = 0
              ∧ t.winch.target = 0 ∧ t.winch.filed = 0 ∧ t.winch.stallTimer.running = false
              ∧ t.winch.noMotionTimer.running = false ∧ t.winch.clutchTimer.running = false
              ∧ t.winch.clutchWidth =
                  (if released s.winch.state = true then (s.tables.winch.engagePosition : Int)
                   else s.winch.clutchWidth)
              ∧ t.inputs = raiseFlag .winchFault s.inputs
              ∧ keptValue t.lights.kept .winchFault = true)
        ∧ (s.winch.state = .fault →
            t.winch.further = true ∧ t.winch.cause = s.winch.cause ∧ t.inputs = s.inputs ∧ t.lights = s.lights))

/-! ## Winch -/

/-- The ramp tick: the target from the command, the caps and the WINCH grant; the duty moved toward it by the
ramp step in the moving states; RAMP_DOWN at duty 0 ends in IDLE (from which a waiting release starts); the
no-motion and stall timers by the new duty; the demand filed before the ceiling. -/
def Obligations.RampTick : Prop :=
  ∀ (s : State) (base slow uncapped target duty : Nat), s.winch.ticking = true →
    base = s.winch.command.natAbs * s.tables.winch.maxDuty / 1000 →
    slow = (if s.winch.state = .haulIn ∧ (s.winch.homed = false ∨ s.winch.line < (s.tables.winch.slowZone : Int))
            then min base s.tables.winch.slowDutyCap else base) →
    uncapped = (if (s.tables.winch.tempWarn : Int) ≤ s.winch.temp then min slow (s.tables.winch.maxDuty / 2)
                else slow) →
    target = (if s.winch.state = .haulIn ∨ s.winch.state = .payOut
              then min uncapped (s.budget.grant[2] * 1000 / s.tables.winch.ratedCurrent) else 0) →
    duty = (if s.winch.state = .haulIn ∨ s.winch.state = .payOut ∨ s.winch.state = .rampDown then
              (if s.winch.duty ≤ target then min target (s.winch.duty + s.tables.winch.rampStep)
               else max target (s.winch.duty - s.tables.winch.rampStep))
            else s.winch.duty) →
    ∃ t, exec .rampTick s = .next t
      ∧ t = { s with winch := t.winch, lights := t.lights
                     budget := { s.budget with demand := t.budget.demand } }
      ∧ t.winch.target = target ∧ t.winch.duty = duty
      ∧ (s.winch.state ≠ .rampDown ∨ duty ≠ 0 →
          t.winch.state = s.winch.state ∧ t.winch.direction = s.winch.direction)
      ∧ (s.winch.state = .rampDown → duty = 0 →
          t.winch.direction = .none
            ∧ t.winch.state =
                (if s.winch.request = true ∧ s.link.run = .run ∧ s.protection.state ≠ .cutoff
                    ∧ s.winch.releaseBlock = false then .clutchOut else .idle))
      ∧ t.winch.noMotionTimer =
          (if s.tables.winch.noMotionDuty ≤ duty then
            (if s.winch.noMotionTimer.running = true then s.winch.noMotionTimer
             else startTimer s.tables.winch.noMotionTime s.winch.noMotionTimer)
           else stopTimer s.winch.noMotionTimer)
      ∧ t.winch.stallTimer = (if duty = 0 then stopTimer s.winch.stallTimer else s.winch.stallTimer)
      ∧ t.winch.filed =
          (if s.winch.state = .haulIn ∨ s.winch.state = .payOut
           then uncapped * s.tables.winch.ratedCurrent / 1000 else 0)
      ∧ t.winch.line = s.winch.line ∧ t.winch.homed = s.winch.homed

/-- A change of the encoder pair: the next pair of the pay-out sequence adds 1 to the line count, the previous
one subtracts 1, any other pair is not counted, and the pair becomes the reference. A count within the ends
restarts a running no-motion timer; a homed pay-out step to exactly the max line count sets LINE_END and takes
PAY_OUT to RAMP_DOWN; a count below the home allowance in HAUL_IN while homed is a HOME_MISS fault. That a
step beyond the ends is no valid count is the model's reading (log entry 13). The line count changes by one
encoder step, or becomes 0 (a home event, WINCH_HOME, a power-on or brown-out reset), and in no other way. -/
def Obligations.EncoderAndLineCount : Prop :=
  (∀ (s : State) (a b : Level) (d : Int) (counted : Bool) (lineEnd miss : Prop), s.winch.ticking = true →
      d = (if (a, b) = payOutNext (s.winch.enca, s.winch.encb) then 1
           else if (s.winch.enca, s.winch.encb) = payOutNext (a, b) then -1 else 0) →
      counted = decide (d ≠ 0 ∧ (s.winch.line + d).natAbs ≤ 65535) →
      (lineEnd ↔ counted = true ∧ d = 1 ∧ s.winch.homed = true
        ∧ s.winch.line + 1 = (s.tables.winch.maxLine : Int)) →
      (miss ↔ counted = true ∧ s.winch.state = .haulIn ∧ s.winch.homed = true
        ∧ s.winch.line + d < -(s.tables.winch.homeAllowance : Int)) →
      ∃ t, exec (.encoderCount a b) s = .next t
        ∧ t = { s with winch := t.winch, lights := t.lights, inputs := t.inputs
                       budget := { s.budget with demand := t.budget.demand } }
        ∧ t.winch.enca = a ∧ t.winch.encb = b ∧ t.winch.homed = s.winch.homed
        ∧ t.winch.line = (if counted = true then s.winch.line + d else s.winch.line)
        ∧ (lineEnd → t.inputs = raiseFlag .lineEnd s.inputs
            ∧ t.winch.state = (if s.winch.state = .payOut then .rampDown else s.winch.state))
        ∧ (miss → t.inputs = raiseFlag .winchFault s.inputs ∧ t.winch.state = .fault
            ∧ t.winch.cause = .homeMiss ∧ t.winch.duty = 0)
        ∧ (¬lineEnd → ¬miss → t.inputs = s.inputs ∧ t.lights = s.lights ∧ t.budget = s.budget
            ∧ t.winch = { s.winch with
                enca := a, encb := b, line := t.winch.line
                noMotionTimer :=
                  if counted = true ∧ s.winch.noMotionTimer.running = true then
                    startTimer s.tables.winch.noMotionTime s.winch.noMotionTimer
                  else s.winch.noMotionTimer }))
    ∧ (∀ (c : Instr) (s t : State), exec c s = .next t → t.winch.line ≠ s.winch.line →
      t.winch.line = 0
        ∨ ∃ a b, c = .encoderCount a b ∧ (t.winch.line = s.winch.line + 1 ∨ t.winch.line = s.winch.line - 1))

/-- The command of a function update in RUN, with the freespool request absent (Table 5-4): what IDLE,
HAUL_IN, PAY_OUT and RAMP_DOWN do with it; the duty is left to the ramp. -/
def Obligations.WinchCommandInRun : Prop :=
  ∀ (p : List Byte) (s : State) (w : Int) (free : Prop), Listening s → p.length = 16 →
    s.link.run = .run → receiverFailsafe p = false →
    w = (normalize s.tables (rawChannels p) s.record).winch →
    freespoolRequest s.tables.winch (normalize s.tables (rawChannels p) s.record) = false →
    s.winch.state = .idle ∨ s.winch.state = .haulIn ∨ s.winch.state = .payOut ∨ s.winch.state = .rampDown →
    (free ↔ s.protection.state ≠ .cutoff) →
    ∃ t, exec (.channels p) s = .next t
      ∧ t.winch.duty = s.winch.duty ∧ t.winch.command = w ∧ t.winch.line = s.winch.line
      ∧ (s.winch.state = .idle ∨ (s.winch.state = .rampDown ∧ s.winch.direction = .haulIn) →
          0 < w → free → inputActive s 0 = false →
          t.winch.state = .haulIn ∧ t.winch.direction = .haulIn)
      ∧ (s.winch.state = .idle ∨ (s.winch.state = .rampDown ∧ s.winch.direction = .payOut) →
          w < 0 → free → ¬(s.winch.homed = true ∧ (s.tables.winch.maxLine : Int) ≤ s.winch.line) →
          t.winch.state = .payOut ∧ t.winch.direction = .payOut)
      ∧ (s.winch.state = .idle ∨ s.winch.state = .rampDown →
          w = 0 ∨ ¬free ∨ (0 < w ∧ inputActive s 0 = true)
            ∨ (w < 0 ∧ s.winch.homed = true ∧ (s.tables.winch.maxLine : Int) ≤ s.winch.line) →
          t.winch.state = s.winch.state ∧ t.winch.direction = s.winch.direction)
      ∧ (s.winch.state = .rampDown → (0 < w ∧ s.winch.direction = .payOut) ∨ (w < 0 ∧ s.winch.direction = .haulIn) →
          t.winch.state = .rampDown ∧ t.winch.direction = s.winch.direction)
      ∧ (s.winch.state = .haulIn →
          t.winch.state = (if 0 < w then .haulIn else .rampDown) ∧ t.winch.direction = s.winch.direction)
      ∧ (s.winch.state = .payOut →
          t.winch.state = (if w < 0 then .payOut else .rampDown) ∧ t.winch.direction = s.winch.direction)

/-! ## Lights -/

/-- A cue tick: LTC has read its grant. Every instance of the list counts down by 1; one whose phase ends passes from ON
to OFF or from OFF to ON, a ONE_SHOT with one cycle fewer; a ONE_SHOT at the end of its last cycle completes. The
completions are taken in the order of the list, each whole, and one whose instance an earlier one has evicted is not
taken. At each, its instance leaves the list, and with it every LATCH instance whose cancel source is its CUE_DONE; then
the cue it chains to receives a start request, when it is enabled and, for a WHILE cue, its trigger source's kept value
is true; and then the enabled cues triggered by its CUE_DONE, in ascending order, but for a LATCH cue of an active
instance that CUE_DONE also cancels. Each request goes to the capacity check unless its cue has an instance, and with
room for all, each new instance is appended. -/
def Obligations.CueTick : Prop :=
  ∀ s : State, s.lights.ticking = true →
    ∃ t, exec .cueTick s = .next t
      ∧ t = { s with lights := t.lights, budget := { s.budget with demand := t.budget.demand } }
      ∧ t.lights.grantUsed = s.budget.grant[3] ∧ t.lights.scene = s.lights.scene
      ∧ t.lights.kept = s.lights.kept
      ∧ ∀ (ends : CueInstance → Bool) (next : CueInstance → CueInstance)
          (left : CueInstance → List CueInstance → List CueInstance)
          (chained : CueInstance → List (Fin 16)) (triggered : CueInstance → List CueInstance → List (Fin 16)),
        (∀ i, ends i = true ↔ i.timeLeft ≤ 1 ∧ i.phaseOn = false ∧ s.tables.cue[i.cue].mode = .oneShot
          ∧ i.cyclesLeft ≤ 1) →
        (∀ i, (1 < i.timeLeft → next i = { i with timeLeft := i.timeLeft - 1 })
          ∧ (i.timeLeft ≤ 1 → i.phaseOn = true →
              next i = { i with phaseOn := false, timeLeft := s.tables.cue[i.cue].offTime })
          ∧ (i.timeLeft ≤ 1 → i.phaseOn = false → s.tables.cue[i.cue].mode ≠ .oneShot →
              next i = { i with phaseOn := true, timeLeft := s.tables.cue[i.cue].onTime })
          ∧ (i.timeLeft ≤ 1 → i.phaseOn = false → s.tables.cue[i.cue].mode = .oneShot → 1 < i.cyclesLeft →
              next i = { i with phaseOn := true, timeLeft := s.tables.cue[i.cue].onTime
                                cyclesLeft := i.cyclesLeft - 1 })
          ∧ (ends i = true → next i = i)) →
        (∀ i l, left i l = l.filter fun j => decide (j.cue ≠ i.cue
          ∧ ¬(s.tables.cue[j.cue].mode = .latch ∧ s.tables.cue[j.cue].cancel = some (.edge (.cueDone i.cue))))) →
        (∀ i, (chained i).length ≤ 1
          ∧ ∀ j, j ∈ chained i ↔ s.tables.cue[i.cue].chain = some j ∧ s.tables.cue[j].enabled = true
              ∧ (s.tables.cue[j].mode = .whileTrue →
                  ∃ l, s.tables.cue[j].trigger = some (.level l) ∧ keptValue s.lights.kept l = true)) →
        (∀ i l, triggered i l = (List.finRange 16).filter fun j =>
          decide (s.tables.cue[j].enabled = true ∧ s.tables.cue[j].trigger = some (.edge (.cueDone i.cue))
            ∧ ¬(s.tables.cue[j].mode = .latch ∧ s.tables.cue[j].cancel = s.tables.cue[j].trigger
                ∧ ∃ x ∈ l, x.cue = j))) →
        (s.lights.active.map (·.cue)).Nodup →
        ((∀ i ∈ s.lights.active, ends i = false) → t.lights.active = s.lights.active.map next)
          ∧ t.lights.active =
              (s.lights.active.filter ends).foldl (fun l i =>
                if i ∈ l then
                  ((chained i ++ triggered i l).foldl
                    (fun (r : Roster) (k : Fin 16) =>
                      if ∃ x ∈ r.active, x.cue = k then r else admitCue s.tables.cue k r)
                    { active := left i l, started := [], changed := true }).active
                else l) (s.lights.active.map next)
          ∧ ∀ (i : CueInstance) (later : List (Fin 16)), s.lights.active.filter ends = [i] →
              later = (triggered i (s.lights.active.map next)).filter (fun j => decide (j ∉ chained i)) →
              (∀ j ∈ chained i ++ later, ∀ x ∈ left i (s.lights.active.map next), x.cue ≠ j) →
              (left i (s.lights.active.map next)).length + (chained i ++ later).length ≤ 8 →
              t.lights.active = left i (s.lights.active.map next) ++ (chained i ++ later).map fun j =>
                { cue := j, phaseOn := true, timeLeft := s.tables.cue[j].onTime
                  cyclesLeft := s.tables.cue[j].cycles }

/-- R126: the active cue list never holds more than 8 instances nor two of one cue, through every step. At the
capacity check of a start request, with fewer than 8 instances the new one is appended; with 8, the oldest of
the lowest priority is the victim, removed for a cue of higher priority and not otherwise. The new instance is ON
for its on time with its cycles. R124, R125 and R130: an event at LTC removes each WHILE instance whose trigger source
falls and each LATCH instance whose cancel source rises or fires; then each enabled cue whose trigger source rises or
fires receives a start request, in ascending index, but for a LATCH cue of an active instance whose cancel source is
its trigger; a request is ignored while the cue has an instance, and otherwise goes to the capacity check. With room
for all, every one starts. A function update reaches LTC as one event of the turn and the AUX band sources, after the
events of STC, DRV and WCH: that clause, its order and its one event, is the model's choice (log entries 5 and 16). An
accepted transition of IN2 or IN3 alone is one event, of its level and, active, of its edge; so is a fall of BRAKING at
its timer's expiry, and a LINE_END outside PAY_OUT. Through every step each WHILE instance has a trigger source whose
kept value is true. -/
def Obligations.ActiveCueListCapacity : Prop :=
  ((∀ s t : State, CueListSound s → step s = .next t → CueListSound t)
      ∧ ∀ s t : State, StartUp s → tablesValid s.tables = true → CuesFollowSources s → step s = .next t →
          CuesFollowSources t)
    ∧ (∀ (cues : Vector CueEntry 16) (k : Fin 16) (r : Roster) (fresh : CueInstance),
      (r.active.map (·.cue)).Nodup →
      fresh = { cue := k, phaseOn := true, timeLeft := cues[k].onTime, cyclesLeft := cues[k].cycles } →
      (r.active.length < 8 → (admitCue cues k r).active = r.active ++ [fresh])
        ∧ ∀ (older younger : List CueInstance) (v : CueInstance), 8 ≤ r.active.length →
            r.active = older ++ v :: younger →
            (∀ i ∈ older, cues[v.cue].priority < cues[i.cue].priority) →
            (∀ i ∈ younger, cues[v.cue].priority ≤ cues[i.cue].priority) →
            (cues[v.cue].priority < cues[k].priority →
                (admitCue cues k r).active = older ++ younger ++ [fresh])
              ∧ (cues[k].priority ≤ cues[v.cue].priority → (admitCue cues k r).active = r.active))
    ∧ (∀ (t : Tables) (grant : Nat) (composes : Bool) (m : LightMsg) (x y : Lights) (occurs : Option Trigger → Bool)
        (gone : CueInstance → Bool) (asks : Fin 16 → Bool) (left : List CueInstance) (asked : List (Fin 16)),
      y = lightsEvent t grant composes m x →
      (∀ src, occurs src = true ↔
        (∃ l, src = some (.level l) ∧ keptValue x.kept l = false ∧ keptValue y.kept l = true)
          ∨ ∃ e, src = some (.edge e) ∧ m.fired = some e) →
      (∀ i, gone i = true ↔
        (t.cue[i.cue].mode = .whileTrue ∧ ∃ l, t.cue[i.cue].trigger = some (.level l)
            ∧ keptValue x.kept l = true ∧ keptValue y.kept l = false)
          ∨ (t.cue[i.cue].mode = .latch ∧ occurs t.cue[i.cue].cancel = true)) →
      (∀ k, asks k = true ↔ t.cue[k].enabled = true ∧ occurs t.cue[k].trigger = true
        ∧ ¬(t.cue[k].mode = .latch ∧ t.cue[k].cancel = t.cue[k].trigger ∧ ∃ i ∈ x.active, i.cue = k)) →
      left = x.active.filter (fun i => !gone i) → asked = (List.finRange 16).filter asks →
      (∀ l, (∀ v, (l, v) ∉ m.sets) → keptValue y.kept l = keptValue x.kept l)
        ∧ ((m.sets.map Prod.fst).Nodup → ∀ l v, (l, v) ∈ m.sets → keptValue y.kept l = v)
        ∧ y.active =
            (asked.foldl (fun (r : Roster) (k : Fin 16) => if ∃ i ∈ r.active, i.cue = k then r else admitCue t.cue k r)
              { active := left, started := [], changed := true }).active
        ∧ ∀ starting : List (Fin 16), starting = asked.filter (fun k => decide (∀ i ∈ left, i.cue ≠ k)) →
            left.length + starting.length ≤ 8 →
            y.active = left ++ starting.map fun k =>
              { cue := k, phaseOn := true, timeLeft := t.cue[k].onTime, cyclesLeft := t.cue[k].cycles })
    ∧ (∀ (p : List Byte) (s : State) (r : FunctionRecord), Listening s → p.length = 16 →
      (s.link.run = .run ∧ receiverFailsafe p = false) ∨ s.link.run = .setup →
      r = normalize s.tables (rawChannels p) s.record →
      ∃ (t : State) (u : Lights), exec (.channels p) s = .next t
        ∧ (∀ l, l = .turnLeft ∨ l = .turnRight ∨ (∃ b, l = .aux1Band b ∨ l = .aux2Band b) →
            keptValue u.kept l = keptValue s.lights.kept l)
        ∧ (s.link.run = .setup → s.steering.status = .align → s.drive.t2 = 0 → s.drive.reverse = false →
            1 ≤ s.tables.drive.brakeDelta → s.winch.state = .idle ∨ s.winch.state = .fault → u = s.lights)
        ∧ t.lights =
            lightsEvent s.tables s.budget.grant[3] (decide (r.lightSelBand.getD 0 ≠ s.lights.scene))
              { sets :=
                  [(.turnLeft, decide (r.steer < -(s.tables.steer.indicatorThreshold : Int))),
                    (.turnRight, decide ((s.tables.steer.indicatorThreshold : Int) < r.steer))]
                    ++ (List.finRange 8).map (fun b => (.aux1Band b, decide (r.aux1Band = some b)))
                    ++ (List.finRange 8).map (fun b => (.aux2Band b, decide (r.aux2Band = some b)))
                fired := none }
              { u with scene := r.lightSelBand.getD 0 })
    ∧ (∀ (s : State) (in0 in1 in2 in3 : Level) (samples : Vector Level 4) (n : Fin 4), s.inputs.ticking = true →
      samples = #v[in0, in1, in2, in3] → n = 2 ∨ n = 3 → samples[n] ≠ s.inputs.lines[n].level →
      s.tables.input[n].debounce ≤ s.inputs.lines[n].runCount →
      (∀ j : Fin 4, j ≠ n → samples[j] = s.inputs.lines[j].level
        ∨ s.inputs.lines[j].runCount < s.tables.input[j].debounce) →
      ∃ t, exec (.sampleTick in0 in1 in2 in3) s = .next t
        ∧ t.lights =
            lightsEvent s.tables s.budget.grant[3] false
              { sets := [(.inLevel n, decide (samples[n] = s.tables.input[n].active))]
                fired := if samples[n] = s.tables.input[n].active then some (.inEdge n) else none } s.lights)
    ∧ (∀ s : State, s.drive.brakingTimer.running = true → s.drive.braking = true →
      ∃ t, exec .brakingTimerExpiry s = .next t
        ∧ t.lights =
            lightsEvent s.tables s.budget.grant[3] false { sets := [(.braking, false)], fired := none } s.lights)
    ∧ ∀ (s : State) (a b : Level), s.winch.ticking = true → (a, b) = payOutNext (s.winch.enca, s.winch.encb) →
        s.winch.homed = true → s.winch.line + 1 = (s.tables.winch.maxLine : Int) → s.tables.winch.maxLine ≤ 65535 →
        s.winch.state ≠ .payOut →
        ∃ t, exec (.encoderCount a b) s = .next t
          ∧ t.lights =
              lightsEvent s.tables s.budget.grant[3] false { sets := [], fired := some .lineEnd } s.lights

/-- The level buffer, the demand, the dimming factor and the output levels stay those of the composition of the
scene and the active list under the grant used, through every step from a state whose list holds no cue twice
(R126, itself kept through every step by `ActiveCueListCapacity`). A composition gives an output the scene's level
where no instance's mask includes it, the ON or OFF level of the instance of highest priority among those that do,
the latest of several, and 0 where its lamp is disabled. The demand is the sum of the enabled lamps' shares, each
truncated, the dimming factor that of the grant, and each output level the composed level times the factor, never
more than the composed level. Through every step, too, the kept value of each level source that another block owns,
and of each AUX band source, is its owner's condition: REVERSE and BRAKING, ALIGNING, the three winch sources, the three
protection sources, FAILSAFE and SETUP, and the accepted level of each line; all are false before load complete. -/
def Obligations.LevelsStayComposed : Prop :=
  ((∀ s t : State, LevelsSound s → CueListSound s → step s = .next t → LevelsSound t)
      ∧ ∀ s t : State, StartUp s → SourcesFollowOwners s → step s = .next t → SourcesFollowOwners t)
    ∧ (∀ (t : Tables) (grant demand factor : Nat) (x y : Lights), y = compose t grant x →
      demand = ((List.finRange 12).map fun o =>
        if t.lamp[o].enabled = true then y.levels[o] * t.lamp[o].ratedCurrent / 255 else 0).sum →
      factor = (if demand = 0 then 1000 else min 1000 (grant * 1000 / demand)) →
      y.filed = demand ∧ y.grantUsed = grant ∧ y.dimming = factor ∧ y.active = x.active ∧ y.scene = x.scene
        ∧ ∀ o : Fin 12, y.outputs[o] = y.levels[o] * factor / 1000 ∧ y.outputs[o] ≤ y.levels[o]
            ∧ (t.lamp[o].enabled = false → y.levels[o] = 0)
            ∧ (t.lamp[o].enabled = true → (∀ i ∈ x.active, t.cue[i.cue].mask.getLsbD o.val = false) →
                y.levels[o] = t.scene[x.scene][o])
            ∧ ∀ (older younger : List CueInstance) (v : CueInstance), t.lamp[o].enabled = true →
                x.active = older ++ v :: younger → t.cue[v.cue].mask.getLsbD o.val = true →
                (∀ i ∈ older, t.cue[i.cue].mask.getLsbD o.val = true →
                  t.cue[i.cue].priority ≤ t.cue[v.cue].priority) →
                (∀ i ∈ younger, t.cue[i.cue].mask.getLsbD o.val = true →
                  t.cue[i.cue].priority < t.cue[v.cue].priority) →
                y.levels[o] = if v.phaseOn = true then t.cue[v.cue].onLevel else t.cue[v.cue].offLevel)

/-! ## Battery -/

/-- The end of a conversion: the input of the slot's source (Table 7-2; PACK_V at the tap that the cell count in force
names), saturated to the source's range, enters the running sum. The last one of a slot gives the source its mean,
truncated, and the next non-EMPTY slot of the same list begins, or after the last slot a pass over the list in
force, from its first non-EMPTY slot, if it has one. A completed WINCH_I slot hands its value to WCH, which starts
the stall timer at a value at or above the stall current with a duty above 0, keeps it running, and stops it below. A
completed TEMP slot hands its value to WCH: at or above the trip it is a HOT fault outside FAULT, and in FAULT a
further fault unless the cause is HOT. No other source changes the winch before the pass is evaluated. That the
inputs and the cell count are those at the conversion's end is the model's reading (log entry 18). -/
def Obligations.ConversionEnd : Prop :=
  ∀ (s : State) (p : Pass) (q : Quantity) (x : SenseInputs) (v sum mean : Int) (range : Int × Int) (last : Prop),
    s.scanner.pass = some p → p.list[p.slot].source = some q →
    v = (match q with
      | .cell1 => x.tap1
      | .cell2 => x.tap2 - x.tap1
      | .cell3 => x.tap3 - x.tap2
      | .cell4 => x.tap4 - x.tap3
      | .packV =>
        if s.tables.protect.cellCount = 2 then x.tap2
        else if s.tables.protect.cellCount = 3 then x.tap3 else x.tap4
      | .packI => x.packShunt
      | .winchI => x.winchShunt
      | .temp => x.tsense) →
    range = (match q with
      | .packV => (0, 20000) | .packI => (0, 150000) | .winchI => (0, 50000) | .temp => (-40, 150)
      | _ => (0, 5000)) →
    sum = p.sum + max range.1 (min range.2 v) → mean = sum.tdiv p.list[p.slot].count →
    (last ↔ ∀ k : Fin 8, p.slot < k → p.list[k].source = none) →
    ∃ t, exec (.conversionEnd x) s = .next t
      ∧ t.tables = s.tables ∧ t.store = s.store ∧ t.record = s.record ∧ t.steering = s.steering
      ∧ t.link = s.link ∧ t.budget.grant = s.budget.grant
      ∧ (p.done + 1 < p.list[p.slot].count →
          t = { s with scanner := { s.scanner with pass := some { p with done := p.done + 1, sum := sum } } })
      ∧ (p.list[p.slot].count ≤ p.done + 1 →
          t.scanner.values[quantityIndex q] = mean
            ∧ (∀ j : Fin 8, j ≠ quantityIndex q → t.scanner.values[j] = s.scanner.values[j])
            ∧ (∀ k : Fin 8, p.slot < k → p.list[k].source ≠ none →
                (∀ j : Fin 8, p.slot < j → j < k → p.list[j].source = none) →
                t.scanner.pass = some { list := p.list, slot := k, done := 0, sum := 0 }
                  ∧ t = { s with scanner := t.scanner, winch := t.winch, lights := t.lights, inputs := t.inputs
                                 budget := { s.budget with demand := t.budget.demand } }
                  ∧ (q ≠ .temp → t.lights = s.lights ∧ t.inputs = s.inputs ∧ t.budget = s.budget
                      ∧ t.winch = { s.winch with winchI := t.winch.winchI, stallTimer := t.winch.stallTimer }))
            ∧ (last →
                t.protection.primed = true
                  ∧ ((∀ k : Fin 8, s.tables.scan[k].source = none) → t.scanner.pass = none)
                  ∧ ∀ k : Fin 8, s.tables.scan[k].source ≠ none →
                      (∀ j : Fin 8, j < k → s.tables.scan[j].source = none) →
                      t.scanner.pass = some { list := s.tables.scan, slot := k, done := 0, sum := 0 })
            ∧ (q ≠ .winchI → t.winch.winchI = s.winch.winchI)
            ∧ (q ≠ .temp → t.winch.temp = s.winch.temp ∧ t.winch.cause = s.winch.cause
                ∧ t.winch.further = s.winch.further)
            ∧ (q ≠ .winchI → q ≠ .temp → t.winch.stallTimer = s.winch.stallTimer)
            ∧ (q = .winchI →
                t.winch.winchI = mean
                  ∧ t.winch.stallTimer =
                      (if (s.tables.winch.stallCurrent : Int) ≤ mean then
                        (if 0 < s.winch.duty ∧ s.winch.stallTimer.running = false then
                          startTimer s.tables.winch.stallTime s.winch.stallTimer
                         else s.winch.stallTimer)
                       else stopTimer s.winch.stallTimer))
            ∧ (q = .temp →
                t.winch.temp = mean
                  ∧ (mean < (s.tables.winch.tempTrip : Int) →
                      t.winch.cause = s.winch.cause ∧ t.winch.further = s.winch.further
                        ∧ t.winch.stallTimer = s.winch.stallTimer
                        ∧ (¬last → t.winch = { s.winch with temp := mean }))
                  ∧ ((s.tables.winch.tempTrip : Int) ≤ mean → s.winch.state = .fault →
                      t.winch.state = .fault ∧ t.winch.cause = s.winch.cause
                        ∧ (s.winch.cause = .hot → t.winch.further = s.winch.further)
                        ∧ (s.winch.cause ≠ .hot → t.winch.further = true))
                  ∧ ((s.tables.winch.tempTrip : Int) ≤ mean → s.winch.state ≠ .fault →
                      t.winch.state = .fault ∧ t.winch.cause = .hot ∧ t.winch.further = false
                        ∧ t.winch.direction = .none ∧ t.winch.duty = 0 ∧ t.winch.target = 0 ∧ t.winch.filed = 0
                        ∧ t.winch.stallTimer.running = false ∧ t.winch.noMotionTimer.running = false
                        ∧ t.winch.clutchTimer.running = false
                        ∧ t.winch.clutchWidth =
                            (if released s.winch.state = true then (s.tables.winch.engagePosition : Int)
                             else s.winch.clutchWidth)
                        ∧ t.inputs.flags[9] = true ∧ keptValue t.lights.kept .winchFault = true)))

/-- The evaluation of a completed pass. The min cell is the lowest measured value of the cells up to the cell count that
the pass's list names, and stands where it names none. Unprimed, BPR sets the min cell and becomes primed, and nothing
else changes. Primed, each counter counts the pass by its own condition (Table 7-6); then CUTOFF by overcurrent before
CUTOFF by undervoltage, either before a fall, a fall before a rise, and one change at most. A change sets the cap of the
new state, restarts the rise counters, sets PROT_CHANGED and reaches LTC's three sources, and a change to CUTOFF zeroes
the throttle, stops a moving winch by the ramp and returns a released clutch; no change sets no flag and leaves the
cap. The last conversion of the last slot of a pass ends in this evaluation, of the state with the slot's value handed
on. -/
def Obligations.PassEvaluation : Prop :=
  (∀ (s t : State) (list : Vector ScanEntry 8) (r : ProtectRecord) (b c : Counters) (named : Fin 4 → Prop),
    r = s.tables.protect → b = s.protection.counters →
    (∀ n : Fin 4, named n ↔ n.val < r.cellCount
      ∧ ∃ k : Fin 8, list[k].source = some (#v[Quantity.cell1, .cell2, .cell3, .cell4])[n]) →
    CountsPass (∃ n : Fin 4, named n ∧ s.scanner.values[n.val] < (r.vCaution : Int)) r.pFall b.caution c.caution →
    CountsPass (∃ n : Fin 4, named n ∧ s.scanner.values[n.val] < (r.vLimit : Int)) r.pFall b.limit c.limit →
    CountsPass (∃ n : Fin 4, named n ∧ s.scanner.values[n.val] < (r.vCutoff : Int)) r.pCut b.cutoff c.cutoff →
    CountsPass ((∃ n, named n) ∧ ∀ n : Fin 4, named n → (r.vLimit + r.hysteresis : Int) ≤ s.scanner.values[n.val])
      r.pRise b.toCaution c.toCaution →
    CountsPass ((∃ n, named n) ∧ ∀ n : Fin 4, named n → (r.vCaution + r.hysteresis : Int) ≤ s.scanner.values[n.val])
      r.pRise b.toNormal c.toNormal →
    CountsPass ((r.iTrip : Int) < s.scanner.values[5]) r.pOc b.overcurrent c.overcurrent →
    t = evaluatePass list s →
    t.protection.primed = true
      ∧ (∀ n : Fin 4, named n → t.protection.minCell ≤ s.scanner.values[n.val])
      ∧ ((∃ n, named n) → ∃ n : Fin 4, named n ∧ t.protection.minCell = s.scanner.values[n.val])
      ∧ ((∀ n, ¬named n) → t.protection.minCell = s.protection.minCell)
      ∧ (s.protection.primed = false →
          t = { s with protection := { s.protection with minCell := t.protection.minCell, primed := true } })
      ∧ (s.protection.primed = true →
          (s.protection.state = .cutoff →
              t.protection.state = .cutoff ∧ t.protection.cause = s.protection.cause)
            ∧ (s.protection.state ≠ .cutoff → c.overcurrent = r.pOc →
                t.protection.state = .cutoff ∧ t.protection.cause = .overcurrent)
            ∧ (s.protection.state ≠ .cutoff → c.overcurrent ≠ r.pOc → c.cutoff = r.pCut →
                t.protection.state = .cutoff ∧ t.protection.cause = .undervolt)
            ∧ (s.protection.state ≠ .cutoff → c.overcurrent ≠ r.pOc → c.cutoff ≠ r.pCut →
                t.protection.cause = s.protection.cause ∨ t.protection.cause = .none)
            ∧ (s.protection.state = .normal → c.overcurrent ≠ r.pOc → c.cutoff ≠ r.pCut →
                t.protection.state =
                  (if c.limit = r.pFall then .limit else if c.caution = r.pFall then .caution else .normal))
            ∧ (s.protection.state = .caution → c.overcurrent ≠ r.pOc → c.cutoff ≠ r.pCut →
                t.protection.state =
                  (if c.limit = r.pFall then .limit else if c.toNormal = r.pRise then .normal else .caution))
            ∧ (s.protection.state = .limit → c.overcurrent ≠ r.pOc → c.cutoff ≠ r.pCut →
                t.protection.state = (if c.toCaution = r.pRise then .caution else .limit))
            ∧ (t.protection.state = s.protection.state →
                t = { s with protection := { s.protection with minCell := t.protection.minCell, counters := c } })
            ∧ (t.protection.state ≠ s.protection.state →
                t.protection.counters = { c with toCaution := 0, toNormal := 0 }
                  ∧ t.protection.cap = capFor r t.protection.state
                  ∧ t.inputs = raiseFlag .protChanged s.inputs
                  ∧ keptValue t.lights.kept .protCaution = decide (t.protection.state ≠ .normal)
                  ∧ keptValue t.lights.kept .protLimit =
                      decide (t.protection.state = .limit ∨ t.protection.state = .cutoff)
                  ∧ keptValue t.lights.kept .protCutoff = decide (t.protection.state = .cutoff)
                  ∧ (t.protection.state = .cutoff →
                      t.drive.t2 = 0 ∧ t.drive.filed = 0 ∧ t.winch.command = 0
                        ∧ hauling t.winch.state = false ∧ released t.winch.state = false
                        ∧ (hauling s.winch.state = true →
                            t.winch.state = .rampDown ∧ t.winch.duty = s.winch.duty)))))
    ∧ (∀ (s : State) (p : Pass) (q : Quantity) (x : SenseInputs), s.scanner.pass = some p →
      p.list[p.slot].source = some q → p.list[p.slot].count ≤ p.done + 1 →
      (∀ k : Fin 8, p.slot < k → p.list[k].source = none) →
      ∃ t u, exec (.conversionEnd x) s = .next t ∧ t = evaluatePass p.list u
        ∧ u = { s with scanner := t.scanner, winch := u.winch, lights := u.lights, inputs := u.inputs
                       budget := u.budget }
        ∧ (q ≠ .winchI → q ≠ .temp → u = { s with scanner := t.scanner }))

/-- The protection state leaves CUTOFF only through an accepted CLEAR_PROTECT or through a power-on or brown-out
reset; until then its cause stays. The command that takes it to LIMIT ends a good ACTION frame of code 6 outside INIT,
with its DONE answer pending after it, and finds R151's conditions: primed, the min cell at or above V_limit + H for an
undervoltage, PACK_I at or below half of I_trip for an overcurrent, the throttle neutral and the winch not hauling or
paying out. It leaves no cause, every counter 0, the cap of LIMIT and PROT_CHANGED set. Through every step a cause is
recorded exactly in CUTOFF, and the cap is that of the state and the record in force. -/
def Obligations.LeavingCutoff : Prop :=
  (∀ (c : Instr) (s t : State), exec c s = .next t → s.protection.state = .cutoff →
      (t.protection.state = .cutoff ∧ t.protection.cause = s.protection.cause)
        ∨ (EndsFrame c s 0x45 [6] ∧ s.link.run ≠ .init
            ∧ t.link.reply = .pending { kind := 0x52, payload := [0x45, 0], answered := 0x45, notices := [] }
            ∧ s.protection.primed = true
            ∧ (s.protection.cause = .undervolt →
                (s.tables.protect.vLimit + s.tables.protect.hysteresis : Int) ≤ s.protection.minCell)
            ∧ (s.protection.cause = .overcurrent → s.scanner.values[5] ≤ (s.tables.protect.iTrip / 2 : Nat))
            ∧ s.record.throttle.natAbs ≤ s.tables.link.neutralWindow
            ∧ s.winch.state ≠ .haulIn ∧ s.winch.state ≠ .payOut
            ∧ t.protection =
                { s.protection with state := .limit, cause := .none, counters := ⟨0, 0, 0, 0, 0, 0⟩
                                    cap := s.tables.protect.iMax * s.tables.protect.limitFactor / 1000 }
            ∧ t.inputs.flags[8] = true)
        ∨ c = .powerOnReset ∨ c = .brownOutReset)
    ∧ (∀ s t : State, ProtectionSound s → step s = .next t → ProtectionSound t)

/-! ## Budget -/

/-- After every budget computation each grant is at most its demand and the four grants sum to exactly the
lesser of the cap and the demands' sum; no demand and nothing outside the budget unit changes, the cap is kept
as used, and the timer runs the next period. Where the cap covers every floor, each claimant has at least the
lesser of its floor and its demand. The floor pass serves the claimants from the highest level down, within a level in
the rotation from its pointer, each the least of its floor, its demand and what the ones before it leave, and moves no
pointer. The quantum pass deals from there, one deal at a time, until nothing remains or every demand is met: each to
the next claimant below its demand, of the highest level that has one, in the rotation from that level's pointer as it
stands at the deal, which then names that claimant. The grants and the level pointers are those it ends with. -/
def Obligations.BudgetComputation : Prop :=
  ∀ s : State, s.budget.timer.running = true → 1 ≤ s.tables.protect.quantum →
    ∃ t, exec .budgetTimerExpiry s = .next t
      ∧ t = { s with budget := { s.budget with grant := t.budget.grant, pointers := t.budget.pointers
                                               capUsed := s.protection.cap
                                               timer := startTimer s.tables.protect.budgetPeriod s.budget.timer } }
      ∧ (∀ c : Fin 4, t.budget.grant[c] ≤ s.budget.demand[c])
      ∧ total t.budget.grant = min s.protection.cap (total s.budget.demand)
      ∧ (((List.finRange 4).map fun c => min s.tables.budget[c].floor s.budget.demand[c]).sum ≤ s.protection.cap →
          ∀ c : Fin 4, min s.tables.budget[c].floor s.budget.demand[c] ≤ t.budget.grant[c])
      ∧ ∃ floors final : Deal,
          floors.left = s.protection.cap
              - ((List.finRange 4).map fun c => min s.tables.budget[c].floor s.budget.demand[c]).sum
            ∧ (∀ c : Fin 4, floors.grants[c] =
                min (min s.tables.budget[c].floor s.budget.demand[c])
                  (s.protection.cap
                    - ((List.finRange 4).map fun b =>
                        if ServedBefore s.tables.budget s.budget.pointers b c then
                          min s.tables.budget[b].floor s.budget.demand[b]
                        else 0).sum))
            ∧ floors.pointers = s.budget.pointers
            ∧ Deals s.tables.budget s.tables.protect.quantum s.budget.demand floors final
            ∧ t.budget.grant = final.grants ∧ t.budget.pointers = final.pointers

/-- The quantum pass starts a level only when the level above has finished: a claimant left short of its
demand leaves every claimant of a lower level with no more than its floor. -/
def Obligations.HigherLevelsAreServedFirst : Prop :=
  ∀ (s t : State) (a b : Fin 4), s.budget.timer.running = true → 1 ≤ s.tables.protect.quantum →
    exec .budgetTimerExpiry s = .next t →
    s.tables.budget[b].priority < s.tables.budget[a].priority →
    t.budget.grant[a] < s.budget.demand[a] →
    t.budget.grant[b] ≤ min s.tables.budget[b].floor s.budget.demand[b]

/-- The demand in the claim table stays each owner's filed demand, through every step. The grants stand between
computations: they change only at a budget computation, and are 0 after a reset. -/
def Obligations.ClaimsAndGrantsBetweenComputations : Prop :=
  (∀ s t : State, ClaimsFiled s → step s = .next t → ClaimsFiled t)
    ∧ (∀ (c : Instr) (s t : State), exec c s = .next t →
      t.budget.grant = s.budget.grant ∨ c = .budgetTimerExpiry ∨ t.budget = budgetAfterReset)

/-! ## Input lines and flags -/

/-- A sample tick judges each line on its own: a sample equal to the accepted level sets the run count to 0,
one that differs raises it, and at debounce + 1 the sampled level is accepted. A transition to active sets EDGE
of an armed line, a transition to inactive arms it, and IN0 becoming active homes the winch. In HAUL_IN that event
also stops the drum, whatever IN2 and IN3 do and where IN1 accepts nothing: the duty, the target and the demand are 0
at once, the stall and no-motion timers are stopped, and the state is IDLE, from which CLUTCH_OUT is entered where the
freespool request stands and nothing blocks it; in every other state nothing else of the winch changes. In every state
it fires HOME_SEEN at LTC. That LTC receives HOME_SEEN first, then the changes of the winch sources, each state change
as one event, and then the line's own event, is the model's choice (log entry 5). -/
def Obligations.SampleTick : Prop :=
  (∀ (s : State) (in0 in1 in2 in3 : Level) (samples : Vector Level 4), s.inputs.ticking = true →
    samples = #v[in0, in1, in2, in3] →
    ∃ t, exec (.sampleTick in0 in1 in2 in3) s = .next t
      ∧ t = { s with winch := t.winch, lights := t.lights, inputs := t.inputs
                     budget := { s.budget with demand := t.budget.demand } }
      ∧ ∀ n : Fin 4,
          (samples[n] = s.inputs.lines[n].level →
              t.inputs.lines[n] = { s.inputs.lines[n] with runCount := 0 })
            ∧ (samples[n] ≠ s.inputs.lines[n].level →
                s.inputs.lines[n].runCount + 1 < s.tables.input[n].debounce + 1 →
                t.inputs.lines[n] = { s.inputs.lines[n] with runCount := s.inputs.lines[n].runCount + 1 })
            ∧ (samples[n] ≠ s.inputs.lines[n].level →
                s.tables.input[n].debounce + 1 ≤ s.inputs.lines[n].runCount + 1 →
                t.inputs.lines[n].level = samples[n] ∧ t.inputs.lines[n].runCount = 0
                  ∧ (samples[n] = s.tables.input[n].active →
                      (s.inputs.lines[n].armed = true → t.inputs.flags[11 + n.val] = true)
                        ∧ (s.inputs.lines[n].armed = false →
                            t.inputs.flags[11 + n.val] = s.inputs.flags[11 + n.val])
                        ∧ t.inputs.lines[n].armed = s.inputs.lines[n].armed
                        ∧ (n = 0 → t.winch.line = 0 ∧ t.winch.homed = true))
                  ∧ (samples[n] ≠ s.tables.input[n].active → t.inputs.lines[n].armed = true)))
    ∧ ∀ (s : State) (in0 in1 in2 in3 : Level) (release : Prop) (event : LightMsg → Lights → Lights),
      s.inputs.ticking = true → in0 = s.tables.input[0].active → in0 ≠ s.inputs.lines[0].level →
      s.tables.input[0].debounce ≤ s.inputs.lines[0].runCount →
      in1 = s.inputs.lines[1].level ∨ s.inputs.lines[1].runCount < s.tables.input[1].debounce →
      (release ↔ s.winch.request = true ∧ s.link.run = .run ∧ s.protection.state ≠ .cutoff
        ∧ s.winch.releaseBlock = false) →
      (∀ m x, event m x = lightsEvent s.tables s.budget.grant[3] false m x) →
      ∃ t sources, exec (.sampleTick in0 in1 in2 in3) s = .next t
        ∧ (s.winch.state ≠ .haulIn →
            sources = [] ∧ t.winch = { s.winch with line := 0, homed := true })
        ∧ (s.winch.state = .haulIn → ¬release →
            sources = [[(.winchMoving, false)]]
              ∧ t.winch = { s.winch with
                            line := 0, homed := true, state := .idle, direction := .none
                            duty := 0, target := 0, filed := 0
                            clutchTimer := stopTimer s.winch.clutchTimer
                            stallTimer := stopTimer s.winch.stallTimer
                            noMotionTimer := stopTimer s.winch.noMotionTimer })
        ∧ (s.winch.state = .haulIn → release →
            sources = [[(.winchMoving, false)], [(.winchFree, true)]]
              ∧ t.winch = { s.winch with
                            line := 0, homed := true, state := .clutchOut, direction := .none
                            duty := 0, target := 0, filed := 0
                            clutchWidth := (s.tables.winch.releasePosition : Int)
                            clutchTimer := startTimer s.tables.winch.clutchTimeout s.winch.clutchTimer
                            stallTimer := stopTimer s.winch.stallTimer
                            noMotionTimer := stopTimer s.winch.noMotionTimer })
        ∧ (in2 = s.inputs.lines[2].level ∨ s.inputs.lines[2].runCount < s.tables.input[2].debounce →
            in3 = s.inputs.lines[3].level ∨ s.inputs.lines[3].runCount < s.tables.input[3].debounce →
            t.lights =
              event { sets := [(.inLevel 0, true)], fired := some (.inEdge 0) }
                (sources.foldl (fun x m => event { sets := m, fired := none } x)
                  (event { sets := [], fired := some .homeSeen } s.lights)))

/-- A sticky flag is cleared only by the completion of a STATUS answer that reported it, and by a reset. -/
def Obligations.FlagsAreClearedOnlyByReadOrReset : Prop :=
  ∀ (c : Instr) (s t : State) (i : Fin 15), exec c s = .next t →
    s.inputs.flags[i] = true → t.inputs.flags[i] = false →
    (c = .replyComplete ∧ carries .statusReport s.link.reply
        ∧ ∃ r, s.inputs.reported = some r ∧ r[i] = true)
      ∨ { t.link with discarding := false } = linkAfterReset

/-! ## Resets and start-up -/

/-- A power-on and a brown-out reset leave the part held in reset at its reset values, the image and the waiting
commands apart; after a power-on RESET_POWER alone is set, a brown-out sets RESET_BROWN and keeps the other two
reset causes. Leaving reset ends the hold and changes nothing else. The reset values of what the spec leaves
open, and the waiting commands, are the model's choice (log entries 4, 9 and 10). -/
def Obligations.ResetsFromOutside : Prop :=
  (∀ s : State,
      exec .powerOnReset s =
          .next { State.reset with pending := s.pending, store := { State.reset.store with image := s.store.image } }
        ∧ ∃ t, exec .brownOutReset s = .next t
            ∧ t = { State.reset with pending := s.pending
                                     store := { State.reset.store with image := s.store.image }
                                     inputs := { State.reset.inputs with flags := t.inputs.flags } }
            ∧ ∀ i : Fin 15, t.inputs.flags[i] = ((i == 2) || ((i == 0 || i == 1) && s.inputs.flags[i])))
    ∧ (∀ s : State, exec .leaveReset s = .next { s with heldInReset := false })

/-- Load complete, once after each reset: the tables come whole from a valid image or whole from the defaults
with IMAGE_DEFAULTED; the run state becomes WAIT; the present levels are accepted, with the run counts and the edge arms
as they are; STC takes the default mode; DRV starts its period with S4 at neutral and S5 ACTIVE; WCH takes the encoder
reference and the clutch switch's word, the clutch timer started where it enters CLUTCH_IN; MSC starts a pass, BPR sets
the cap, CBU starts its timer. The cue tick and the PWM cycles run, and each level source that another block owns has
its owner's present condition: from DRV at rest these are one event, which composes, after an event of BRAKING alone
where the brake delta is 0 and DRV's first computation is a throttle fall. From LTC at rest each enabled cue whose
trigger source is true starts, in ascending order. That load complete is one command that reaches every block, LTC
last, is the model's reading (log entry 17). -/
def Obligations.LoadComplete : Prop :=
  ∀ (s : State) (in0 in1 in2 in3 a b : Level) (samples : Vector Level 4) (tb : Tables) (engaged : Bool)
    (event : Bool → List (LevelSource × Bool) → Lights → Lights),
    s.heldInReset = false → s.store.loaded = false → samples = #v[in0, in1, in2, in3] →
    tb = (loadImage s.store.image).getD defaultTables → (engaged = true ↔ in1 = tb.input[1].active) →
    (∀ composes sets x, event composes sets x =
      lightsEvent tb s.budget.grant[3] composes { sets := sets, fired := none } x) →
    ∃ t, exec (.loadComplete in0 in1 in2 in3 a b) s = .next t
      ∧ t.tables = tb ∧ t.store = { s.store with loaded := true } ∧ t.record = s.record
      ∧ t.heldInReset = false ∧ t.link = { s.link with run := .wait }
      ∧ t.inputs.ticking = true
      ∧ (∀ n : Fin 4, t.inputs.lines[n] = { s.inputs.lines[n] with level := samples[n] })
      ∧ (∀ i : Fin 15, t.inputs.flags[i] =
          (s.inputs.flags[i] || (i == 3 && (loadImage s.store.image).isNone)))
      ∧ t.steering = { s.steering with mode := tb.steer.defaultMode, requested := tb.steer.defaultMode }
      ∧ t.drive.period = startTimer tb.drive.servoPeriod s.drive.period
      ∧ t.drive.s4Active = true ∧ t.drive.s5Active = true ∧ t.drive.s6Active = s.drive.s6Active
      ∧ t.drive.t2 = 0 ∧ t.drive.filed = 0 ∧ t.drive.reverse = false
      ∧ t.drive.s4Width = (tb.drive.neutral : Int)
      ∧ t.winch = { s.winch with
                    enca := a, encb := b, ticking := true, clutchWidth := (tb.winch.engagePosition : Int)
                    state := if engaged = true then .idle else .clutchIn
                    clutchTimer :=
                      if engaged = true then s.winch.clutchTimer
                      else startTimer tb.winch.clutchTimeout s.winch.clutchTimer }
      ∧ t.scanner = { s.scanner with pass := startPass tb.scan }
      ∧ t.protection = { s.protection with cap := capFor tb.protect s.protection.state }
      ∧ t.budget = { s.budget with demand := t.budget.demand
                                   timer := startTimer tb.protect.budgetPeriod s.budget.timer }
      ∧ t.lights.ticking = true ∧ t.lights.pwm = true ∧ t.lights.scene = s.lights.scene
      ∧ t.lights.grantUsed = s.budget.grant[3]
      ∧ (∀ o : Fin 12, t.lights.levels[o] = composedLevel tb s.lights.scene t.lights.active o)
      ∧ (s.drive = driveAfterReset →
          t.lights =
            event true
              ([(.reverse, false), (.braking, decide (tb.drive.brakeDelta = 0)),
                (.aligning, decide (s.steering.status = .align)),
                (.winchMoving, false), (.winchFree, !engaged), (.winchFault, false),
                (.protCaution, decide (s.protection.state ≠ .normal)),
                (.protLimit, decide (s.protection.state = .limit ∨ s.protection.state = .cutoff)),
                (.protCutoff, decide (s.protection.state = .cutoff)), (.failsafe, false), (.setup, false)]
                ++ (List.finRange 4).map fun n => (.inLevel n, decide (samples[n] = tb.input[n].active)))
              { (if tb.drive.brakeDelta = 0 then event false [(.braking, true)] s.lights else s.lights) with
                ticking := true, pwm := true })
      ∧ ∀ asked : List (Fin 16), s.drive = driveAfterReset → s.lights = lightsAfterReset →
          1 ≤ tb.drive.brakeDelta →
          (∀ k, k ∈ asked ↔ tb.cue[k].enabled = true
            ∧ ∃ l, tb.cue[k].trigger = some (.level l) ∧ keptValue t.lights.kept l = true) →
          asked.Pairwise (· < ·) → asked.length ≤ 8 →
          t.lights.active = asked.map fun k =>
            { cue := k, phaseOn := true, timeLeft := tb.cue[k].onTime, cyclesLeft := tb.cue[k].cycles }

/-! ## Invariants -/

/-- At State.reset every invariant below holds, together with those of the records, the cue list, the levels
and the claims. -/
def Obligations.InvariantsHoldAtReset : Prop :=
  StartUp State.reset ∧ LinkSound State.reset ∧ ReceiverSound State.reset.link.receiver
    ∧ NoticesSound State.reset ∧ StoreSound State.reset ∧ ThrottleSound State.reset ∧ WinchSound State.reset
    ∧ CueListSound State.reset ∧ CuesFollowSources State.reset ∧ LevelsSound State.reset
    ∧ SourcesFollowOwners State.reset ∧ ClaimsFiled State.reset ∧ SteeringSound State.reset
    ∧ ScannerSound State.reset ∧ ProtectionSound State.reset ∧ RecordsSound State.reset

/-- What runs from load complete to the next reset runs exactly then, and the winch with its three timers, the corners
and the scanner rest before it, through every step. -/
def Obligations.StartUpIsKept : Prop :=
  ∀ s t : State, StartUp s → step s = .next t → StartUp t

/-- Through every step: the hold timer runs exactly in RUN and FAILSAFE, the recovery count stands only in FAILSAFE,
and the receiver hunts while a reply waits or is sent; what the receiver keeps of a frame in progress (LEN, the
bytes taken, the running CRC) stays that of the frame; a soft reset is pending exactly while the reply carries its
notice, a reported set stands exactly while the reply carries its own, and only set flags are in it; a store is in
flight only in SETUP, over an image that is invalid meanwhile; a frame that a soft reset discards finds no reply and
the receiver in HUNT. -/
def Obligations.LinkAndStoreAreKept : Prop :=
  (∀ s t : State, LinkSound s → ReceiverSound s.link.receiver → step s = .next t →
      LinkSound t ∧ ReceiverSound t.link.receiver)
    ∧ (∀ s t : State, NoticesSound s → step s = .next t → NoticesSound t)
    ∧ (∀ s t : State, LinkSound s → StoreSound s → step s = .next t → StoreSound t)

/-- The throttle is 0 outside RUN and in CUTOFF and never above the ceiling of the grant used, S4 and REVERSE
follow t2, and BRAKING lasts as long as its timer, through every step. -/
def Obligations.ThrottleIsKept : Prop :=
  ∀ s t : State, ThrottleSound s → step s = .next t → ThrottleSound t

/-- The winch's duty, target, demand, direction, command, timers, fault record, clutch width and request stay
those of its state; it moves or is released only in RUN and out of CUTOFF, through every step. So the gate lines
carry what R86 gives: BRA the duty in parts of 1000 of each PWM cycle while the direction is IN, BRB while it is OUT,
both low sides on for the rest of the cycle; in FREESPOOL every switch off, and in every other state both low sides
on throughout. -/
def Obligations.WinchIsKept : Prop :=
  (∀ s t : State, StartUp s → WinchSound s → step s = .next t → WinchSound t)
    ∧ ∀ s : State, WinchSound s →
        bridgeCycle s.winch =
          (match s.winch.direction with
           | .haulIn => { bra := s.winch.duty, brb := 0, lowSides := 1000 - s.winch.duty }
           | .payOut => { bra := 0, brb := s.winch.duty, lowSides := 1000 - s.winch.duty }
           | .none =>
             if s.winch.state = .freespool then { bra := 0, brb := 0, lowSides := 0 }
             else { bra := 0, brb := 0, lowSides := 1000 })

/-- R101 to R104, the clutch handshake. At a function update in RUN the freespool request is the record's: present, it
takes IDLE to CLUTCH_OUT with the clutch at its release position and the clutch timer started, unless CUTOFF or the
release block stands; it leaves CLUTCH_OUT and FREESPOOL as they are with the command stored; withdrawn, it lifts the
release block and takes either to CLUTCH_IN with the clutch at its engage position and the timer started afresh, and at
once to IDLE when the clutch switch is active. CLUTCH_IN waits through the update. At an accepted transition of IN1,
inactive takes CLUTCH_OUT to FREESPOOL and active takes CLUTCH_IN to IDLE, and on to CLUTCH_OUT when a release is due;
no other state but a haul stopped at home changes. FAILSAFE entry returns a released clutch. -/
def Obligations.ClutchHandshake : Prop :=
  (∀ (p : List Byte) (s : State) (r : FunctionRecord) (w : WinchRecord) (present : Prop),
      Listening s → p.length = 16 → s.link.run = .run → receiverFailsafe p = false →
      r = normalize s.tables (rawChannels p) s.record → w = s.tables.winch →
      (present ↔ (w.freespoolSource = some .aux1 ∧ r.aux1Band = some w.freespoolBand)
        ∨ (w.freespoolSource = some .aux2 ∧ r.aux2Band = some w.freespoolBand)) →
      ∃ t, exec (.channels p) s = .next t
        ∧ (t.winch.request = true ↔ present)
        ∧ (t.winch.releaseBlock = true ↔ s.winch.releaseBlock = true ∧ present)
        ∧ (s.winch.state = .idle → present → s.protection.state ≠ .cutoff → s.winch.releaseBlock = false →
            t.winch = { s.winch with
              state := .clutchOut, direction := .none, record := r, command := r.winch, request := true
              clutchWidth := w.releasePosition, clutchTimer := startTimer w.clutchTimeout s.winch.clutchTimer
              filed := 0 })
        ∧ (s.winch.state = .idle → present → s.protection.state = .cutoff ∨ s.winch.releaseBlock = true →
            t.winch = { s.winch with record := r, command := r.winch, request := true, filed := 0 })
        ∧ (s.winch.state = .clutchOut ∨ s.winch.state = .freespool → present →
            t.winch = { s.winch with record := r, command := r.winch, request := true, filed := 0 })
        ∧ (s.winch.state = .clutchOut ∨ s.winch.state = .freespool → ¬present → inputActive s 1 = false →
            t.winch = { s.winch with
              state := .clutchIn, direction := .none, record := r, command := r.winch, request := false
              releaseBlock := false, clutchWidth := w.engagePosition
              clutchTimer := startTimer w.clutchTimeout s.winch.clutchTimer, filed := 0 })
        ∧ (s.winch.state = .clutchOut ∨ s.winch.state = .freespool → ¬present → inputActive s 1 = true →
            r.winch = 0 →
            t.winch.state = .idle ∧ t.winch.clutchWidth = (w.engagePosition : Int)
              ∧ t.winch.clutchTimer.running = false ∧ t.winch.duty = s.winch.duty)
        ∧ (s.winch.state = .clutchIn →
            t.winch = { s.winch with record := r, command := r.winch, request := t.winch.request
                                     releaseBlock := t.winch.releaseBlock, filed := 0 }))
    ∧ (∀ (s : State) (in0 in1 in2 in3 : Level) (release : Prop), s.inputs.ticking = true →
      in1 ≠ s.inputs.lines[1].level → s.tables.input[1].debounce ≤ s.inputs.lines[1].runCount →
      (release ↔ s.winch.request = true ∧ s.link.run = .run ∧ s.protection.state ≠ .cutoff
        ∧ s.winch.releaseBlock = false) →
      ∃ t, exec (.sampleTick in0 in1 in2 in3) s = .next t
        ∧ (in1 ≠ s.tables.input[1].active → s.winch.state = .clutchOut →
            t.winch = { s.winch with state := .freespool, direction := .none, filed := 0
                                     clutchTimer := stopTimer s.winch.clutchTimer
                                     line := t.winch.line, homed := t.winch.homed })
        ∧ (in1 = s.tables.input[1].active → s.winch.state = .clutchIn → ¬release →
            t.winch.state = .idle ∧ t.winch.clutchTimer = stopTimer s.winch.clutchTimer
              ∧ t.winch.clutchWidth = s.winch.clutchWidth)
        ∧ (in1 = s.tables.input[1].active → s.winch.state = .clutchIn → release →
            t.winch.state = .clutchOut ∧ t.winch.clutchWidth = (s.tables.winch.releasePosition : Int)
              ∧ t.winch.clutchTimer = startTimer s.tables.winch.clutchTimeout (stopTimer s.winch.clutchTimer))
        ∧ (s.winch.state ≠ .haulIn → s.winch.state ≠ .clutchOut → s.winch.state ≠ .clutchIn →
            t.winch = { s.winch with line := t.winch.line, homed := t.winch.homed })
        ∧ ((in1 = s.tables.input[1].active ∧ s.winch.state = .clutchOut)
              ∨ (in1 ≠ s.tables.input[1].active ∧ s.winch.state = .clutchIn) →
            t.winch = { s.winch with line := t.winch.line, homed := t.winch.homed }))
    ∧ ∀ s : State, s.link.run = .run → s.link.hold.running = true →
        s.winch.state = .clutchOut ∨ s.winch.state = .freespool →
        ∃ t, exec .holdTimerExpiry s = .next t
          ∧ t.winch.state = (if inputActive s 1 = true then .idle else .clutchIn)
          ∧ t.winch.clutchWidth = (s.tables.winch.engagePosition : Int)
          ∧ (inputActive s 1 = true → t.winch.clutchTimer.running = false)
          ∧ (inputActive s 1 = false →
              t.winch.clutchTimer = startTimer s.tables.winch.clutchTimeout s.winch.clutchTimer)
end

