-- ==== Sys2Proof/Laws/State.lean ====
section
/-! SUPPORT. One lemma per field per update: what each named update of the state leaves unchanged, and the
value of what it sets. All are true by unfolding the update. -/

namespace Sys2Proof.Machine

@[simp] theorem withPending_heldInReset (s : State) (q : List Instr) :
    (s.withPending q).heldInReset = s.heldInReset := rfl
@[simp] theorem withPending_link (s : State) (q : List Instr) :
    (s.withPending q).link = s.link := rfl
@[simp] theorem withPending_record (s : State) (q : List Instr) :
    (s.withPending q).record = s.record := rfl
@[simp] theorem withPending_steering (s : State) (q : List Instr) :
    (s.withPending q).steering = s.steering := rfl
@[simp] theorem withPending_drive (s : State) (q : List Instr) :
    (s.withPending q).drive = s.drive := rfl
@[simp] theorem withPending_winch (s : State) (q : List Instr) :
    (s.withPending q).winch = s.winch := rfl
@[simp] theorem withPending_lights (s : State) (q : List Instr) :
    (s.withPending q).lights = s.lights := rfl
@[simp] theorem withPending_scanner (s : State) (q : List Instr) :
    (s.withPending q).scanner = s.scanner := rfl
@[simp] theorem withPending_protection (s : State) (q : List Instr) :
    (s.withPending q).protection = s.protection := rfl
@[simp] theorem withPending_budget (s : State) (q : List Instr) :
    (s.withPending q).budget = s.budget := rfl
@[simp] theorem withPending_inputs (s : State) (q : List Instr) :
    (s.withPending q).inputs = s.inputs := rfl
@[simp] theorem withPending_store (s : State) (q : List Instr) :
    (s.withPending q).store = s.store := rfl
@[simp] theorem withPending_tables (s : State) (q : List Instr) :
    (s.withPending q).tables = s.tables := rfl

@[simp] theorem putRun_pending (n : RunState) (s : State) :
    (putRun n s).pending = s.pending := rfl
@[simp] theorem putRun_heldInReset (n : RunState) (s : State) :
    (putRun n s).heldInReset = s.heldInReset := rfl
@[simp] theorem putRun_record (n : RunState) (s : State) :
    (putRun n s).record = s.record := rfl
@[simp] theorem putRun_steering (n : RunState) (s : State) :
    (putRun n s).steering = s.steering := rfl
@[simp] theorem putRun_drive (n : RunState) (s : State) :
    (putRun n s).drive = s.drive := rfl
@[simp] theorem putRun_winch (n : RunState) (s : State) :
    (putRun n s).winch = s.winch := rfl
@[simp] theorem putRun_lights (n : RunState) (s : State) :
    (putRun n s).lights = s.lights := rfl
@[simp] theorem putRun_scanner (n : RunState) (s : State) :
    (putRun n s).scanner = s.scanner := rfl
@[simp] theorem putRun_protection (n : RunState) (s : State) :
    (putRun n s).protection = s.protection := rfl
@[simp] theorem putRun_budget (n : RunState) (s : State) :
    (putRun n s).budget = s.budget := rfl
@[simp] theorem putRun_inputs (n : RunState) (s : State) :
    (putRun n s).inputs = s.inputs := rfl
@[simp] theorem putRun_store (n : RunState) (s : State) :
    (putRun n s).store = s.store := rfl
@[simp] theorem putRun_tables (n : RunState) (s : State) :
    (putRun n s).tables = s.tables := rfl

@[simp] theorem putReply_pending (r : Reply) (s : State) :
    (putReply r s).pending = s.pending := rfl
@[simp] theorem putReply_heldInReset (r : Reply) (s : State) :
    (putReply r s).heldInReset = s.heldInReset := rfl
@[simp] theorem putReply_record (r : Reply) (s : State) :
    (putReply r s).record = s.record := rfl
@[simp] theorem putReply_steering (r : Reply) (s : State) :
    (putReply r s).steering = s.steering := rfl
@[simp] theorem putReply_drive (r : Reply) (s : State) :
    (putReply r s).drive = s.drive := rfl
@[simp] theorem putReply_winch (r : Reply) (s : State) :
    (putReply r s).winch = s.winch := rfl
@[simp] theorem putReply_lights (r : Reply) (s : State) :
    (putReply r s).lights = s.lights := rfl
@[simp] theorem putReply_scanner (r : Reply) (s : State) :
    (putReply r s).scanner = s.scanner := rfl
@[simp] theorem putReply_protection (r : Reply) (s : State) :
    (putReply r s).protection = s.protection := rfl
@[simp] theorem putReply_budget (r : Reply) (s : State) :
    (putReply r s).budget = s.budget := rfl
@[simp] theorem putReply_inputs (r : Reply) (s : State) :
    (putReply r s).inputs = s.inputs := rfl
@[simp] theorem putReply_store (r : Reply) (s : State) :
    (putReply r s).store = s.store := rfl
@[simp] theorem putReply_tables (r : Reply) (s : State) :
    (putReply r s).tables = s.tables := rfl

@[simp] theorem putDiscarding_pending (b : Bool) (s : State) :
    (putDiscarding b s).pending = s.pending := rfl
@[simp] theorem putDiscarding_heldInReset (b : Bool) (s : State) :
    (putDiscarding b s).heldInReset = s.heldInReset := rfl
@[simp] theorem putDiscarding_record (b : Bool) (s : State) :
    (putDiscarding b s).record = s.record := rfl
@[simp] theorem putDiscarding_steering (b : Bool) (s : State) :
    (putDiscarding b s).steering = s.steering := rfl
@[simp] theorem putDiscarding_drive (b : Bool) (s : State) :
    (putDiscarding b s).drive = s.drive := rfl
@[simp] theorem putDiscarding_winch (b : Bool) (s : State) :
    (putDiscarding b s).winch = s.winch := rfl
@[simp] theorem putDiscarding_lights (b : Bool) (s : State) :
    (putDiscarding b s).lights = s.lights := rfl
@[simp] theorem putDiscarding_scanner (b : Bool) (s : State) :
    (putDiscarding b s).scanner = s.scanner := rfl
@[simp] theorem putDiscarding_protection (b : Bool) (s : State) :
    (putDiscarding b s).protection = s.protection := rfl
@[simp] theorem putDiscarding_budget (b : Bool) (s : State) :
    (putDiscarding b s).budget = s.budget := rfl
@[simp] theorem putDiscarding_inputs (b : Bool) (s : State) :
    (putDiscarding b s).inputs = s.inputs := rfl
@[simp] theorem putDiscarding_store (b : Bool) (s : State) :
    (putDiscarding b s).store = s.store := rfl
@[simp] theorem putDiscarding_tables (b : Bool) (s : State) :
    (putDiscarding b s).tables = s.tables := rfl

@[simp] theorem putReceiver_pending (r : Receiver) (s : State) :
    (putReceiver r s).pending = s.pending := rfl
@[simp] theorem putReceiver_heldInReset (r : Receiver) (s : State) :
    (putReceiver r s).heldInReset = s.heldInReset := rfl
@[simp] theorem putReceiver_record (r : Receiver) (s : State) :
    (putReceiver r s).record = s.record := rfl
@[simp] theorem putReceiver_steering (r : Receiver) (s : State) :
    (putReceiver r s).steering = s.steering := rfl
@[simp] theorem putReceiver_drive (r : Receiver) (s : State) :
    (putReceiver r s).drive = s.drive := rfl
@[simp] theorem putReceiver_winch (r : Receiver) (s : State) :
    (putReceiver r s).winch = s.winch := rfl
@[simp] theorem putReceiver_lights (r : Receiver) (s : State) :
    (putReceiver r s).lights = s.lights := rfl
@[simp] theorem putReceiver_scanner (r : Receiver) (s : State) :
    (putReceiver r s).scanner = s.scanner := rfl
@[simp] theorem putReceiver_protection (r : Receiver) (s : State) :
    (putReceiver r s).protection = s.protection := rfl
@[simp] theorem putReceiver_budget (r : Receiver) (s : State) :
    (putReceiver r s).budget = s.budget := rfl
@[simp] theorem putReceiver_inputs (r : Receiver) (s : State) :
    (putReceiver r s).inputs = s.inputs := rfl
@[simp] theorem putReceiver_store (r : Receiver) (s : State) :
    (putReceiver r s).store = s.store := rfl
@[simp] theorem putReceiver_tables (r : Receiver) (s : State) :
    (putReceiver r s).tables = s.tables := rfl

@[simp] theorem putRecovery_pending (n : Nat) (s : State) :
    (putRecovery n s).pending = s.pending := rfl
@[simp] theorem putRecovery_heldInReset (n : Nat) (s : State) :
    (putRecovery n s).heldInReset = s.heldInReset := rfl
@[simp] theorem putRecovery_record (n : Nat) (s : State) :
    (putRecovery n s).record = s.record := rfl
@[simp] theorem putRecovery_steering (n : Nat) (s : State) :
    (putRecovery n s).steering = s.steering := rfl
@[simp] theorem putRecovery_drive (n : Nat) (s : State) :
    (putRecovery n s).drive = s.drive := rfl
@[simp] theorem putRecovery_winch (n : Nat) (s : State) :
    (putRecovery n s).winch = s.winch := rfl
@[simp] theorem putRecovery_lights (n : Nat) (s : State) :
    (putRecovery n s).lights = s.lights := rfl
@[simp] theorem putRecovery_scanner (n : Nat) (s : State) :
    (putRecovery n s).scanner = s.scanner := rfl
@[simp] theorem putRecovery_protection (n : Nat) (s : State) :
    (putRecovery n s).protection = s.protection := rfl
@[simp] theorem putRecovery_budget (n : Nat) (s : State) :
    (putRecovery n s).budget = s.budget := rfl
@[simp] theorem putRecovery_inputs (n : Nat) (s : State) :
    (putRecovery n s).inputs = s.inputs := rfl
@[simp] theorem putRecovery_store (n : Nat) (s : State) :
    (putRecovery n s).store = s.store := rfl
@[simp] theorem putRecovery_tables (n : Nat) (s : State) :
    (putRecovery n s).tables = s.tables := rfl

@[simp] theorem restartHold_pending (s : State) :
    (restartHold s).pending = s.pending := rfl
@[simp] theorem restartHold_heldInReset (s : State) :
    (restartHold s).heldInReset = s.heldInReset := rfl
@[simp] theorem restartHold_record (s : State) :
    (restartHold s).record = s.record := rfl
@[simp] theorem restartHold_steering (s : State) :
    (restartHold s).steering = s.steering := rfl
@[simp] theorem restartHold_drive (s : State) :
    (restartHold s).drive = s.drive := rfl
@[simp] theorem restartHold_winch (s : State) :
    (restartHold s).winch = s.winch := rfl
@[simp] theorem restartHold_lights (s : State) :
    (restartHold s).lights = s.lights := rfl
@[simp] theorem restartHold_scanner (s : State) :
    (restartHold s).scanner = s.scanner := rfl
@[simp] theorem restartHold_protection (s : State) :
    (restartHold s).protection = s.protection := rfl
@[simp] theorem restartHold_budget (s : State) :
    (restartHold s).budget = s.budget := rfl
@[simp] theorem restartHold_inputs (s : State) :
    (restartHold s).inputs = s.inputs := rfl
@[simp] theorem restartHold_store (s : State) :
    (restartHold s).store = s.store := rfl
@[simp] theorem restartHold_tables (s : State) :
    (restartHold s).tables = s.tables := rfl

@[simp] theorem stopHold_pending (s : State) :
    (stopHold s).pending = s.pending := rfl
@[simp] theorem stopHold_heldInReset (s : State) :
    (stopHold s).heldInReset = s.heldInReset := rfl
@[simp] theorem stopHold_record (s : State) :
    (stopHold s).record = s.record := rfl
@[simp] theorem stopHold_steering (s : State) :
    (stopHold s).steering = s.steering := rfl
@[simp] theorem stopHold_drive (s : State) :
    (stopHold s).drive = s.drive := rfl
@[simp] theorem stopHold_winch (s : State) :
    (stopHold s).winch = s.winch := rfl
@[simp] theorem stopHold_lights (s : State) :
    (stopHold s).lights = s.lights := rfl
@[simp] theorem stopHold_scanner (s : State) :
    (stopHold s).scanner = s.scanner := rfl
@[simp] theorem stopHold_protection (s : State) :
    (stopHold s).protection = s.protection := rfl
@[simp] theorem stopHold_budget (s : State) :
    (stopHold s).budget = s.budget := rfl
@[simp] theorem stopHold_inputs (s : State) :
    (stopHold s).inputs = s.inputs := rfl
@[simp] theorem stopHold_store (s : State) :
    (stopHold s).store = s.store := rfl
@[simp] theorem stopHold_tables (s : State) :
    (stopHold s).tables = s.tables := rfl

@[simp] theorem answerWith_pending (k : Byte) (r : Result) (e : List Byte) (ns : List Notice) (s : State) :
    (answerWith k r e ns s).pending = s.pending := rfl
@[simp] theorem answerWith_heldInReset (k : Byte) (r : Result) (e : List Byte) (ns : List Notice) (s : State) :
    (answerWith k r e ns s).heldInReset = s.heldInReset := rfl
@[simp] theorem answerWith_record (k : Byte) (r : Result) (e : List Byte) (ns : List Notice) (s : State) :
    (answerWith k r e ns s).record = s.record := rfl
@[simp] theorem answerWith_steering (k : Byte) (r : Result) (e : List Byte) (ns : List Notice) (s : State) :
    (answerWith k r e ns s).steering = s.steering := rfl
@[simp] theorem answerWith_drive (k : Byte) (r : Result) (e : List Byte) (ns : List Notice) (s : State) :
    (answerWith k r e ns s).drive = s.drive := rfl
@[simp] theorem answerWith_winch (k : Byte) (r : Result) (e : List Byte) (ns : List Notice) (s : State) :
    (answerWith k r e ns s).winch = s.winch := rfl
@[simp] theorem answerWith_lights (k : Byte) (r : Result) (e : List Byte) (ns : List Notice) (s : State) :
    (answerWith k r e ns s).lights = s.lights := rfl
@[simp] theorem answerWith_scanner (k : Byte) (r : Result) (e : List Byte) (ns : List Notice) (s : State) :
    (answerWith k r e ns s).scanner = s.scanner := rfl
@[simp] theorem answerWith_protection (k : Byte) (r : Result) (e : List Byte) (ns : List Notice) (s : State) :
    (answerWith k r e ns s).protection = s.protection := rfl
@[simp] theorem answerWith_budget (k : Byte) (r : Result) (e : List Byte) (ns : List Notice) (s : State) :
    (answerWith k r e ns s).budget = s.budget := rfl
@[simp] theorem answerWith_inputs (k : Byte) (r : Result) (e : List Byte) (ns : List Notice) (s : State) :
    (answerWith k r e ns s).inputs = s.inputs := rfl
@[simp] theorem answerWith_store (k : Byte) (r : Result) (e : List Byte) (ns : List Notice) (s : State) :
    (answerWith k r e ns s).store = s.store := rfl
@[simp] theorem answerWith_tables (k : Byte) (r : Result) (e : List Byte) (ns : List Notice) (s : State) :
    (answerWith k r e ns s).tables = s.tables := rfl

@[simp] theorem answer_pending (k : Byte) (r : Result) (s : State) :
    (answer k r s).pending = s.pending := rfl
@[simp] theorem answer_heldInReset (k : Byte) (r : Result) (s : State) :
    (answer k r s).heldInReset = s.heldInReset := rfl
@[simp] theorem answer_record (k : Byte) (r : Result) (s : State) :
    (answer k r s).record = s.record := rfl
@[simp] theorem answer_steering (k : Byte) (r : Result) (s : State) :
    (answer k r s).steering = s.steering := rfl
@[simp] theorem answer_drive (k : Byte) (r : Result) (s : State) :
    (answer k r s).drive = s.drive := rfl
@[simp] theorem answer_winch (k : Byte) (r : Result) (s : State) :
    (answer k r s).winch = s.winch := rfl
@[simp] theorem answer_lights (k : Byte) (r : Result) (s : State) :
    (answer k r s).lights = s.lights := rfl
@[simp] theorem answer_scanner (k : Byte) (r : Result) (s : State) :
    (answer k r s).scanner = s.scanner := rfl
@[simp] theorem answer_protection (k : Byte) (r : Result) (s : State) :
    (answer k r s).protection = s.protection := rfl
@[simp] theorem answer_budget (k : Byte) (r : Result) (s : State) :
    (answer k r s).budget = s.budget := rfl
@[simp] theorem answer_inputs (k : Byte) (r : Result) (s : State) :
    (answer k r s).inputs = s.inputs := rfl
@[simp] theorem answer_store (k : Byte) (r : Result) (s : State) :
    (answer k r s).store = s.store := rfl
@[simp] theorem answer_tables (k : Byte) (r : Result) (s : State) :
    (answer k r s).tables = s.tables := rfl

@[simp] theorem answerAction_pending (r : Result) (s : State) :
    (answerAction r s).pending = s.pending := rfl
@[simp] theorem answerAction_heldInReset (r : Result) (s : State) :
    (answerAction r s).heldInReset = s.heldInReset := rfl
@[simp] theorem answerAction_record (r : Result) (s : State) :
    (answerAction r s).record = s.record := rfl
@[simp] theorem answerAction_steering (r : Result) (s : State) :
    (answerAction r s).steering = s.steering := rfl
@[simp] theorem answerAction_drive (r : Result) (s : State) :
    (answerAction r s).drive = s.drive := rfl
@[simp] theorem answerAction_winch (r : Result) (s : State) :
    (answerAction r s).winch = s.winch := rfl
@[simp] theorem answerAction_lights (r : Result) (s : State) :
    (answerAction r s).lights = s.lights := rfl
@[simp] theorem answerAction_scanner (r : Result) (s : State) :
    (answerAction r s).scanner = s.scanner := rfl
@[simp] theorem answerAction_protection (r : Result) (s : State) :
    (answerAction r s).protection = s.protection := rfl
@[simp] theorem answerAction_budget (r : Result) (s : State) :
    (answerAction r s).budget = s.budget := rfl
@[simp] theorem answerAction_inputs (r : Result) (s : State) :
    (answerAction r s).inputs = s.inputs := rfl
@[simp] theorem answerAction_store (r : Result) (s : State) :
    (answerAction r s).store = s.store := rfl
@[simp] theorem answerAction_tables (r : Result) (s : State) :
    (answerAction r s).tables = s.tables := rfl

@[simp] theorem putTables_pending (t : Tables) (s : State) :
    (putTables t s).pending = s.pending := rfl
@[simp] theorem putTables_heldInReset (t : Tables) (s : State) :
    (putTables t s).heldInReset = s.heldInReset := rfl
@[simp] theorem putTables_link (t : Tables) (s : State) :
    (putTables t s).link = s.link := rfl
@[simp] theorem putTables_record (t : Tables) (s : State) :
    (putTables t s).record = s.record := rfl
@[simp] theorem putTables_steering (t : Tables) (s : State) :
    (putTables t s).steering = s.steering := rfl
@[simp] theorem putTables_drive (t : Tables) (s : State) :
    (putTables t s).drive = s.drive := rfl
@[simp] theorem putTables_winch (t : Tables) (s : State) :
    (putTables t s).winch = s.winch := rfl
@[simp] theorem putTables_lights (t : Tables) (s : State) :
    (putTables t s).lights = s.lights := rfl
@[simp] theorem putTables_scanner (t : Tables) (s : State) :
    (putTables t s).scanner = s.scanner := rfl
@[simp] theorem putTables_protection (t : Tables) (s : State) :
    (putTables t s).protection = s.protection := rfl
@[simp] theorem putTables_budget (t : Tables) (s : State) :
    (putTables t s).budget = s.budget := rfl
@[simp] theorem putTables_inputs (t : Tables) (s : State) :
    (putTables t s).inputs = s.inputs := rfl
@[simp] theorem putTables_store (t : Tables) (s : State) :
    (putTables t s).store = s.store := rfl

@[simp] theorem putStore_pending (x : Store) (s : State) :
    (putStore x s).pending = s.pending := rfl
@[simp] theorem putStore_heldInReset (x : Store) (s : State) :
    (putStore x s).heldInReset = s.heldInReset := rfl
@[simp] theorem putStore_link (x : Store) (s : State) :
    (putStore x s).link = s.link := rfl
@[simp] theorem putStore_record (x : Store) (s : State) :
    (putStore x s).record = s.record := rfl
@[simp] theorem putStore_steering (x : Store) (s : State) :
    (putStore x s).steering = s.steering := rfl
@[simp] theorem putStore_drive (x : Store) (s : State) :
    (putStore x s).drive = s.drive := rfl
@[simp] theorem putStore_winch (x : Store) (s : State) :
    (putStore x s).winch = s.winch := rfl
@[simp] theorem putStore_lights (x : Store) (s : State) :
    (putStore x s).lights = s.lights := rfl
@[simp] theorem putStore_scanner (x : Store) (s : State) :
    (putStore x s).scanner = s.scanner := rfl
@[simp] theorem putStore_protection (x : Store) (s : State) :
    (putStore x s).protection = s.protection := rfl
@[simp] theorem putStore_budget (x : Store) (s : State) :
    (putStore x s).budget = s.budget := rfl
@[simp] theorem putStore_inputs (x : Store) (s : State) :
    (putStore x s).inputs = s.inputs := rfl
@[simp] theorem putStore_tables (x : Store) (s : State) :
    (putStore x s).tables = s.tables := rfl

@[simp] theorem storeBegun_pending (s : State) :
    (storeBegun s).pending = s.pending := rfl
@[simp] theorem storeBegun_heldInReset (s : State) :
    (storeBegun s).heldInReset = s.heldInReset := rfl
@[simp] theorem storeBegun_link (s : State) :
    (storeBegun s).link = s.link := rfl
@[simp] theorem storeBegun_record (s : State) :
    (storeBegun s).record = s.record := rfl
@[simp] theorem storeBegun_steering (s : State) :
    (storeBegun s).steering = s.steering := rfl
@[simp] theorem storeBegun_drive (s : State) :
    (storeBegun s).drive = s.drive := rfl
@[simp] theorem storeBegun_winch (s : State) :
    (storeBegun s).winch = s.winch := rfl
@[simp] theorem storeBegun_lights (s : State) :
    (storeBegun s).lights = s.lights := rfl
@[simp] theorem storeBegun_scanner (s : State) :
    (storeBegun s).scanner = s.scanner := rfl
@[simp] theorem storeBegun_protection (s : State) :
    (storeBegun s).protection = s.protection := rfl
@[simp] theorem storeBegun_budget (s : State) :
    (storeBegun s).budget = s.budget := rfl
@[simp] theorem storeBegun_inputs (s : State) :
    (storeBegun s).inputs = s.inputs := rfl
@[simp] theorem storeBegun_tables (s : State) :
    (storeBegun s).tables = s.tables := rfl

@[simp] theorem putScanner_pending (q : Quantity) (v : Int) (p : Option Pass) (s : State) :
    (putScanner q v p s).pending = s.pending := rfl
@[simp] theorem putScanner_heldInReset (q : Quantity) (v : Int) (p : Option Pass) (s : State) :
    (putScanner q v p s).heldInReset = s.heldInReset := rfl
@[simp] theorem putScanner_link (q : Quantity) (v : Int) (p : Option Pass) (s : State) :
    (putScanner q v p s).link = s.link := rfl
@[simp] theorem putScanner_record (q : Quantity) (v : Int) (p : Option Pass) (s : State) :
    (putScanner q v p s).record = s.record := rfl
@[simp] theorem putScanner_steering (q : Quantity) (v : Int) (p : Option Pass) (s : State) :
    (putScanner q v p s).steering = s.steering := rfl
@[simp] theorem putScanner_drive (q : Quantity) (v : Int) (p : Option Pass) (s : State) :
    (putScanner q v p s).drive = s.drive := rfl
@[simp] theorem putScanner_winch (q : Quantity) (v : Int) (p : Option Pass) (s : State) :
    (putScanner q v p s).winch = s.winch := rfl
@[simp] theorem putScanner_lights (q : Quantity) (v : Int) (p : Option Pass) (s : State) :
    (putScanner q v p s).lights = s.lights := rfl
@[simp] theorem putScanner_protection (q : Quantity) (v : Int) (p : Option Pass) (s : State) :
    (putScanner q v p s).protection = s.protection := rfl
@[simp] theorem putScanner_budget (q : Quantity) (v : Int) (p : Option Pass) (s : State) :
    (putScanner q v p s).budget = s.budget := rfl
@[simp] theorem putScanner_inputs (q : Quantity) (v : Int) (p : Option Pass) (s : State) :
    (putScanner q v p s).inputs = s.inputs := rfl
@[simp] theorem putScanner_store (q : Quantity) (v : Int) (p : Option Pass) (s : State) :
    (putScanner q v p s).store = s.store := rfl
@[simp] theorem putScanner_tables (q : Quantity) (v : Int) (p : Option Pass) (s : State) :
    (putScanner q v p s).tables = s.tables := rfl

@[simp] theorem putPass_pending (p : Option Pass) (s : State) :
    (putPass p s).pending = s.pending := rfl
@[simp] theorem putPass_heldInReset (p : Option Pass) (s : State) :
    (putPass p s).heldInReset = s.heldInReset := rfl
@[simp] theorem putPass_link (p : Option Pass) (s : State) :
    (putPass p s).link = s.link := rfl
@[simp] theorem putPass_record (p : Option Pass) (s : State) :
    (putPass p s).record = s.record := rfl
@[simp] theorem putPass_steering (p : Option Pass) (s : State) :
    (putPass p s).steering = s.steering := rfl
@[simp] theorem putPass_drive (p : Option Pass) (s : State) :
    (putPass p s).drive = s.drive := rfl
@[simp] theorem putPass_winch (p : Option Pass) (s : State) :
    (putPass p s).winch = s.winch := rfl
@[simp] theorem putPass_lights (p : Option Pass) (s : State) :
    (putPass p s).lights = s.lights := rfl
@[simp] theorem putPass_protection (p : Option Pass) (s : State) :
    (putPass p s).protection = s.protection := rfl
@[simp] theorem putPass_budget (p : Option Pass) (s : State) :
    (putPass p s).budget = s.budget := rfl
@[simp] theorem putPass_inputs (p : Option Pass) (s : State) :
    (putPass p s).inputs = s.inputs := rfl
@[simp] theorem putPass_store (p : Option Pass) (s : State) :
    (putPass p s).store = s.store := rfl
@[simp] theorem putPass_tables (p : Option Pass) (s : State) :
    (putPass p s).tables = s.tables := rfl

@[simp] theorem putLine_pending (n : Fin 4) (l : Line) (s : State) :
    (putLine n l s).pending = s.pending := rfl
@[simp] theorem putLine_heldInReset (n : Fin 4) (l : Line) (s : State) :
    (putLine n l s).heldInReset = s.heldInReset := rfl
@[simp] theorem putLine_link (n : Fin 4) (l : Line) (s : State) :
    (putLine n l s).link = s.link := rfl
@[simp] theorem putLine_record (n : Fin 4) (l : Line) (s : State) :
    (putLine n l s).record = s.record := rfl
@[simp] theorem putLine_steering (n : Fin 4) (l : Line) (s : State) :
    (putLine n l s).steering = s.steering := rfl
@[simp] theorem putLine_drive (n : Fin 4) (l : Line) (s : State) :
    (putLine n l s).drive = s.drive := rfl
@[simp] theorem putLine_winch (n : Fin 4) (l : Line) (s : State) :
    (putLine n l s).winch = s.winch := rfl
@[simp] theorem putLine_lights (n : Fin 4) (l : Line) (s : State) :
    (putLine n l s).lights = s.lights := rfl
@[simp] theorem putLine_scanner (n : Fin 4) (l : Line) (s : State) :
    (putLine n l s).scanner = s.scanner := rfl
@[simp] theorem putLine_protection (n : Fin 4) (l : Line) (s : State) :
    (putLine n l s).protection = s.protection := rfl
@[simp] theorem putLine_budget (n : Fin 4) (l : Line) (s : State) :
    (putLine n l s).budget = s.budget := rfl
@[simp] theorem putLine_store (n : Fin 4) (l : Line) (s : State) :
    (putLine n l s).store = s.store := rfl
@[simp] theorem putLine_tables (n : Fin 4) (l : Line) (s : State) :
    (putLine n l s).tables = s.tables := rfl

@[simp] theorem setFlag_pending (f : Flag) (s : State) :
    (setFlag f s).pending = s.pending := rfl
@[simp] theorem setFlag_heldInReset (f : Flag) (s : State) :
    (setFlag f s).heldInReset = s.heldInReset := rfl
@[simp] theorem setFlag_link (f : Flag) (s : State) :
    (setFlag f s).link = s.link := rfl
@[simp] theorem setFlag_record (f : Flag) (s : State) :
    (setFlag f s).record = s.record := rfl
@[simp] theorem setFlag_steering (f : Flag) (s : State) :
    (setFlag f s).steering = s.steering := rfl
@[simp] theorem setFlag_drive (f : Flag) (s : State) :
    (setFlag f s).drive = s.drive := rfl
@[simp] theorem setFlag_winch (f : Flag) (s : State) :
    (setFlag f s).winch = s.winch := rfl
@[simp] theorem setFlag_lights (f : Flag) (s : State) :
    (setFlag f s).lights = s.lights := rfl
@[simp] theorem setFlag_scanner (f : Flag) (s : State) :
    (setFlag f s).scanner = s.scanner := rfl
@[simp] theorem setFlag_protection (f : Flag) (s : State) :
    (setFlag f s).protection = s.protection := rfl
@[simp] theorem setFlag_budget (f : Flag) (s : State) :
    (setFlag f s).budget = s.budget := rfl
@[simp] theorem setFlag_store (f : Flag) (s : State) :
    (setFlag f s).store = s.store := rfl
@[simp] theorem setFlag_tables (f : Flag) (s : State) :
    (setFlag f s).tables = s.tables := rfl

@[simp] theorem setFlags_pending (fs : List Flag) (s : State) :
    (setFlags fs s).pending = s.pending := rfl
@[simp] theorem setFlags_heldInReset (fs : List Flag) (s : State) :
    (setFlags fs s).heldInReset = s.heldInReset := rfl
@[simp] theorem setFlags_link (fs : List Flag) (s : State) :
    (setFlags fs s).link = s.link := rfl
@[simp] theorem setFlags_record (fs : List Flag) (s : State) :
    (setFlags fs s).record = s.record := rfl
@[simp] theorem setFlags_steering (fs : List Flag) (s : State) :
    (setFlags fs s).steering = s.steering := rfl
@[simp] theorem setFlags_drive (fs : List Flag) (s : State) :
    (setFlags fs s).drive = s.drive := rfl
@[simp] theorem setFlags_winch (fs : List Flag) (s : State) :
    (setFlags fs s).winch = s.winch := rfl
@[simp] theorem setFlags_lights (fs : List Flag) (s : State) :
    (setFlags fs s).lights = s.lights := rfl
@[simp] theorem setFlags_scanner (fs : List Flag) (s : State) :
    (setFlags fs s).scanner = s.scanner := rfl
@[simp] theorem setFlags_protection (fs : List Flag) (s : State) :
    (setFlags fs s).protection = s.protection := rfl
@[simp] theorem setFlags_budget (fs : List Flag) (s : State) :
    (setFlags fs s).budget = s.budget := rfl
@[simp] theorem setFlags_store (fs : List Flag) (s : State) :
    (setFlags fs s).store = s.store := rfl
@[simp] theorem setFlags_tables (fs : List Flag) (s : State) :
    (setFlags fs s).tables = s.tables := rfl

@[simp] theorem recordReported_pending (s : State) :
    (recordReported s).pending = s.pending := rfl
@[simp] theorem recordReported_heldInReset (s : State) :
    (recordReported s).heldInReset = s.heldInReset := rfl
@[simp] theorem recordReported_link (s : State) :
    (recordReported s).link = s.link := rfl
@[simp] theorem recordReported_record (s : State) :
    (recordReported s).record = s.record := rfl
@[simp] theorem recordReported_steering (s : State) :
    (recordReported s).steering = s.steering := rfl
@[simp] theorem recordReported_drive (s : State) :
    (recordReported s).drive = s.drive := rfl
@[simp] theorem recordReported_winch (s : State) :
    (recordReported s).winch = s.winch := rfl
@[simp] theorem recordReported_lights (s : State) :
    (recordReported s).lights = s.lights := rfl
@[simp] theorem recordReported_scanner (s : State) :
    (recordReported s).scanner = s.scanner := rfl
@[simp] theorem recordReported_protection (s : State) :
    (recordReported s).protection = s.protection := rfl
@[simp] theorem recordReported_budget (s : State) :
    (recordReported s).budget = s.budget := rfl
@[simp] theorem recordReported_store (s : State) :
    (recordReported s).store = s.store := rfl
@[simp] theorem recordReported_tables (s : State) :
    (recordReported s).tables = s.tables := rfl

@[simp] theorem acceptLevels_pending (v : Vector Level 4) (s : State) :
    (acceptLevels v s).pending = s.pending := rfl
@[simp] theorem acceptLevels_heldInReset (v : Vector Level 4) (s : State) :
    (acceptLevels v s).heldInReset = s.heldInReset := rfl
@[simp] theorem acceptLevels_link (v : Vector Level 4) (s : State) :
    (acceptLevels v s).link = s.link := rfl
@[simp] theorem acceptLevels_record (v : Vector Level 4) (s : State) :
    (acceptLevels v s).record = s.record := rfl
@[simp] theorem acceptLevels_steering (v : Vector Level 4) (s : State) :
    (acceptLevels v s).steering = s.steering := rfl
@[simp] theorem acceptLevels_drive (v : Vector Level 4) (s : State) :
    (acceptLevels v s).drive = s.drive := rfl
@[simp] theorem acceptLevels_winch (v : Vector Level 4) (s : State) :
    (acceptLevels v s).winch = s.winch := rfl
@[simp] theorem acceptLevels_lights (v : Vector Level 4) (s : State) :
    (acceptLevels v s).lights = s.lights := rfl
@[simp] theorem acceptLevels_scanner (v : Vector Level 4) (s : State) :
    (acceptLevels v s).scanner = s.scanner := rfl
@[simp] theorem acceptLevels_protection (v : Vector Level 4) (s : State) :
    (acceptLevels v s).protection = s.protection := rfl
@[simp] theorem acceptLevels_budget (v : Vector Level 4) (s : State) :
    (acceptLevels v s).budget = s.budget := rfl
@[simp] theorem acceptLevels_store (v : Vector Level 4) (s : State) :
    (acceptLevels v s).store = s.store := rfl
@[simp] theorem acceptLevels_tables (v : Vector Level 4) (s : State) :
    (acceptLevels v s).tables = s.tables := rfl

@[simp] theorem startPeriod_pending (s : State) :
    (startPeriod s).pending = s.pending := rfl
@[simp] theorem startPeriod_heldInReset (s : State) :
    (startPeriod s).heldInReset = s.heldInReset := rfl
@[simp] theorem startPeriod_link (s : State) :
    (startPeriod s).link = s.link := rfl
@[simp] theorem startPeriod_record (s : State) :
    (startPeriod s).record = s.record := rfl
@[simp] theorem startPeriod_steering (s : State) :
    (startPeriod s).steering = s.steering := rfl
@[simp] theorem startPeriod_winch (s : State) :
    (startPeriod s).winch = s.winch := rfl
@[simp] theorem startPeriod_lights (s : State) :
    (startPeriod s).lights = s.lights := rfl
@[simp] theorem startPeriod_scanner (s : State) :
    (startPeriod s).scanner = s.scanner := rfl
@[simp] theorem startPeriod_protection (s : State) :
    (startPeriod s).protection = s.protection := rfl
@[simp] theorem startPeriod_budget (s : State) :
    (startPeriod s).budget = s.budget := rfl
@[simp] theorem startPeriod_inputs (s : State) :
    (startPeriod s).inputs = s.inputs := rfl
@[simp] theorem startPeriod_store (s : State) :
    (startPeriod s).store = s.store := rfl
@[simp] theorem startPeriod_tables (s : State) :
    (startPeriod s).tables = s.tables := rfl

@[simp] theorem beginPulses_pending (s : State) :
    (beginPulses s).pending = s.pending := rfl
@[simp] theorem beginPulses_heldInReset (s : State) :
    (beginPulses s).heldInReset = s.heldInReset := rfl
@[simp] theorem beginPulses_link (s : State) :
    (beginPulses s).link = s.link := rfl
@[simp] theorem beginPulses_record (s : State) :
    (beginPulses s).record = s.record := rfl
@[simp] theorem beginPulses_steering (s : State) :
    (beginPulses s).steering = s.steering := rfl
@[simp] theorem beginPulses_winch (s : State) :
    (beginPulses s).winch = s.winch := rfl
@[simp] theorem beginPulses_lights (s : State) :
    (beginPulses s).lights = s.lights := rfl
@[simp] theorem beginPulses_scanner (s : State) :
    (beginPulses s).scanner = s.scanner := rfl
@[simp] theorem beginPulses_protection (s : State) :
    (beginPulses s).protection = s.protection := rfl
@[simp] theorem beginPulses_budget (s : State) :
    (beginPulses s).budget = s.budget := rfl
@[simp] theorem beginPulses_inputs (s : State) :
    (beginPulses s).inputs = s.inputs := rfl
@[simp] theorem beginPulses_store (s : State) :
    (beginPulses s).store = s.store := rfl
@[simp] theorem beginPulses_tables (s : State) :
    (beginPulses s).tables = s.tables := rfl

@[simp] theorem startBudgetTimer_pending (s : State) :
    (startBudgetTimer s).pending = s.pending := rfl
@[simp] theorem startBudgetTimer_heldInReset (s : State) :
    (startBudgetTimer s).heldInReset = s.heldInReset := rfl
@[simp] theorem startBudgetTimer_link (s : State) :
    (startBudgetTimer s).link = s.link := rfl
@[simp] theorem startBudgetTimer_record (s : State) :
    (startBudgetTimer s).record = s.record := rfl
@[simp] theorem startBudgetTimer_steering (s : State) :
    (startBudgetTimer s).steering = s.steering := rfl
@[simp] theorem startBudgetTimer_drive (s : State) :
    (startBudgetTimer s).drive = s.drive := rfl
@[simp] theorem startBudgetTimer_winch (s : State) :
    (startBudgetTimer s).winch = s.winch := rfl
@[simp] theorem startBudgetTimer_lights (s : State) :
    (startBudgetTimer s).lights = s.lights := rfl
@[simp] theorem startBudgetTimer_scanner (s : State) :
    (startBudgetTimer s).scanner = s.scanner := rfl
@[simp] theorem startBudgetTimer_protection (s : State) :
    (startBudgetTimer s).protection = s.protection := rfl
@[simp] theorem startBudgetTimer_inputs (s : State) :
    (startBudgetTimer s).inputs = s.inputs := rfl
@[simp] theorem startBudgetTimer_store (s : State) :
    (startBudgetTimer s).store = s.store := rfl
@[simp] theorem startBudgetTimer_tables (s : State) :
    (startBudgetTimer s).tables = s.tables := rfl

@[simp] theorem putGrants_pending (d : Deal) (s : State) :
    (putGrants d s).pending = s.pending := rfl
@[simp] theorem putGrants_heldInReset (d : Deal) (s : State) :
    (putGrants d s).heldInReset = s.heldInReset := rfl
@[simp] theorem putGrants_link (d : Deal) (s : State) :
    (putGrants d s).link = s.link := rfl
@[simp] theorem putGrants_record (d : Deal) (s : State) :
    (putGrants d s).record = s.record := rfl
@[simp] theorem putGrants_steering (d : Deal) (s : State) :
    (putGrants d s).steering = s.steering := rfl
@[simp] theorem putGrants_drive (d : Deal) (s : State) :
    (putGrants d s).drive = s.drive := rfl
@[simp] theorem putGrants_winch (d : Deal) (s : State) :
    (putGrants d s).winch = s.winch := rfl
@[simp] theorem putGrants_lights (d : Deal) (s : State) :
    (putGrants d s).lights = s.lights := rfl
@[simp] theorem putGrants_scanner (d : Deal) (s : State) :
    (putGrants d s).scanner = s.scanner := rfl
@[simp] theorem putGrants_protection (d : Deal) (s : State) :
    (putGrants d s).protection = s.protection := rfl
@[simp] theorem putGrants_inputs (d : Deal) (s : State) :
    (putGrants d s).inputs = s.inputs := rfl
@[simp] theorem putGrants_store (d : Deal) (s : State) :
    (putGrants d s).store = s.store := rfl
@[simp] theorem putGrants_tables (d : Deal) (s : State) :
    (putGrants d s).tables = s.tables := rfl

@[simp] theorem computeBudget_pending (s : State) :
    (computeBudget s).pending = s.pending := by
  rw [computeBudget, putGrants_pending]
@[simp] theorem computeBudget_heldInReset (s : State) :
    (computeBudget s).heldInReset = s.heldInReset := by
  rw [computeBudget, putGrants_heldInReset]
@[simp] theorem computeBudget_link (s : State) :
    (computeBudget s).link = s.link := by
  rw [computeBudget, putGrants_link]
@[simp] theorem computeBudget_record (s : State) :
    (computeBudget s).record = s.record := by
  rw [computeBudget, putGrants_record]
@[simp] theorem computeBudget_steering (s : State) :
    (computeBudget s).steering = s.steering := by
  rw [computeBudget, putGrants_steering]
@[simp] theorem computeBudget_drive (s : State) :
    (computeBudget s).drive = s.drive := by
  rw [computeBudget, putGrants_drive]
@[simp] theorem computeBudget_winch (s : State) :
    (computeBudget s).winch = s.winch := by
  rw [computeBudget, putGrants_winch]
@[simp] theorem computeBudget_lights (s : State) :
    (computeBudget s).lights = s.lights := by
  rw [computeBudget, putGrants_lights]
@[simp] theorem computeBudget_scanner (s : State) :
    (computeBudget s).scanner = s.scanner := by
  rw [computeBudget, putGrants_scanner]
@[simp] theorem computeBudget_protection (s : State) :
    (computeBudget s).protection = s.protection := by
  rw [computeBudget, putGrants_protection]
@[simp] theorem computeBudget_inputs (s : State) :
    (computeBudget s).inputs = s.inputs := by
  rw [computeBudget, putGrants_inputs]
@[simp] theorem computeBudget_store (s : State) :
    (computeBudget s).store = s.store := by
  rw [computeBudget, putGrants_store]
@[simp] theorem computeBudget_tables (s : State) :
    (computeBudget s).tables = s.tables := by
  rw [computeBudget, putGrants_tables]

@[simp] theorem recomputeCap_pending (s : State) :
    (recomputeCap s).pending = s.pending := rfl
@[simp] theorem recomputeCap_heldInReset (s : State) :
    (recomputeCap s).heldInReset = s.heldInReset := rfl
@[simp] theorem recomputeCap_link (s : State) :
    (recomputeCap s).link = s.link := rfl
@[simp] theorem recomputeCap_record (s : State) :
    (recomputeCap s).record = s.record := rfl
@[simp] theorem recomputeCap_steering (s : State) :
    (recomputeCap s).steering = s.steering := rfl
@[simp] theorem recomputeCap_drive (s : State) :
    (recomputeCap s).drive = s.drive := rfl
@[simp] theorem recomputeCap_winch (s : State) :
    (recomputeCap s).winch = s.winch := rfl
@[simp] theorem recomputeCap_lights (s : State) :
    (recomputeCap s).lights = s.lights := rfl
@[simp] theorem recomputeCap_scanner (s : State) :
    (recomputeCap s).scanner = s.scanner := rfl
@[simp] theorem recomputeCap_budget (s : State) :
    (recomputeCap s).budget = s.budget := rfl
@[simp] theorem recomputeCap_inputs (s : State) :
    (recomputeCap s).inputs = s.inputs := rfl
@[simp] theorem recomputeCap_store (s : State) :
    (recomputeCap s).store = s.store := rfl
@[simp] theorem recomputeCap_tables (s : State) :
    (recomputeCap s).tables = s.tables := rfl

@[simp] theorem storeEnded_pending (c : Tables) (v : Verify) (s : State) :
    (storeEnded c v s).pending = s.pending := rfl
@[simp] theorem storeEnded_heldInReset (c : Tables) (v : Verify) (s : State) :
    (storeEnded c v s).heldInReset = s.heldInReset := rfl
@[simp] theorem storeEnded_link (c : Tables) (v : Verify) (s : State) :
    (storeEnded c v s).link = s.link := rfl
@[simp] theorem storeEnded_record (c : Tables) (v : Verify) (s : State) :
    (storeEnded c v s).record = s.record := rfl
@[simp] theorem storeEnded_steering (c : Tables) (v : Verify) (s : State) :
    (storeEnded c v s).steering = s.steering := rfl
@[simp] theorem storeEnded_drive (c : Tables) (v : Verify) (s : State) :
    (storeEnded c v s).drive = s.drive := rfl
@[simp] theorem storeEnded_winch (c : Tables) (v : Verify) (s : State) :
    (storeEnded c v s).winch = s.winch := rfl
@[simp] theorem storeEnded_lights (c : Tables) (v : Verify) (s : State) :
    (storeEnded c v s).lights = s.lights := rfl
@[simp] theorem storeEnded_scanner (c : Tables) (v : Verify) (s : State) :
    (storeEnded c v s).scanner = s.scanner := rfl
@[simp] theorem storeEnded_protection (c : Tables) (v : Verify) (s : State) :
    (storeEnded c v s).protection = s.protection := rfl
@[simp] theorem storeEnded_budget (c : Tables) (v : Verify) (s : State) :
    (storeEnded c v s).budget = s.budget := rfl
@[simp] theorem storeEnded_tables (c : Tables) (v : Verify) (s : State) :
    (storeEnded c v s).tables = s.tables := rfl

@[simp] theorem steeringLoaded_pending (s : State) :
    (steeringLoaded s).pending = s.pending := rfl
@[simp] theorem steeringLoaded_heldInReset (s : State) :
    (steeringLoaded s).heldInReset = s.heldInReset := rfl
@[simp] theorem steeringLoaded_link (s : State) :
    (steeringLoaded s).link = s.link := rfl
@[simp] theorem steeringLoaded_record (s : State) :
    (steeringLoaded s).record = s.record := rfl
@[simp] theorem steeringLoaded_drive (s : State) :
    (steeringLoaded s).drive = s.drive := rfl
@[simp] theorem steeringLoaded_winch (s : State) :
    (steeringLoaded s).winch = s.winch := rfl
@[simp] theorem steeringLoaded_lights (s : State) :
    (steeringLoaded s).lights = s.lights := rfl
@[simp] theorem steeringLoaded_scanner (s : State) :
    (steeringLoaded s).scanner = s.scanner := rfl
@[simp] theorem steeringLoaded_protection (s : State) :
    (steeringLoaded s).protection = s.protection := rfl
@[simp] theorem steeringLoaded_budget (s : State) :
    (steeringLoaded s).budget = s.budget := rfl
@[simp] theorem steeringLoaded_inputs (s : State) :
    (steeringLoaded s).inputs = s.inputs := rfl
@[simp] theorem steeringLoaded_store (s : State) :
    (steeringLoaded s).store = s.store := rfl
@[simp] theorem steeringLoaded_tables (s : State) :
    (steeringLoaded s).tables = s.tables := rfl

@[simp] theorem winchLoaded_pending (a b : Level) (s : State) :
    (winchLoaded a b s).pending = s.pending := rfl
@[simp] theorem winchLoaded_heldInReset (a b : Level) (s : State) :
    (winchLoaded a b s).heldInReset = s.heldInReset := rfl
@[simp] theorem winchLoaded_link (a b : Level) (s : State) :
    (winchLoaded a b s).link = s.link := rfl
@[simp] theorem winchLoaded_record (a b : Level) (s : State) :
    (winchLoaded a b s).record = s.record := rfl
@[simp] theorem winchLoaded_steering (a b : Level) (s : State) :
    (winchLoaded a b s).steering = s.steering := rfl
@[simp] theorem winchLoaded_drive (a b : Level) (s : State) :
    (winchLoaded a b s).drive = s.drive := rfl
@[simp] theorem winchLoaded_lights (a b : Level) (s : State) :
    (winchLoaded a b s).lights = s.lights := rfl
@[simp] theorem winchLoaded_scanner (a b : Level) (s : State) :
    (winchLoaded a b s).scanner = s.scanner := rfl
@[simp] theorem winchLoaded_protection (a b : Level) (s : State) :
    (winchLoaded a b s).protection = s.protection := rfl
@[simp] theorem winchLoaded_budget (a b : Level) (s : State) :
    (winchLoaded a b s).budget = s.budget := rfl
@[simp] theorem winchLoaded_inputs (a b : Level) (s : State) :
    (winchLoaded a b s).inputs = s.inputs := rfl
@[simp] theorem winchLoaded_store (a b : Level) (s : State) :
    (winchLoaded a b s).store = s.store := rfl
@[simp] theorem winchLoaded_tables (a b : Level) (s : State) :
    (winchLoaded a b s).tables = s.tables := rfl

@[simp] theorem batteryLoaded_pending (s : State) :
    (batteryLoaded s).pending = s.pending := rfl
@[simp] theorem batteryLoaded_heldInReset (s : State) :
    (batteryLoaded s).heldInReset = s.heldInReset := rfl
@[simp] theorem batteryLoaded_link (s : State) :
    (batteryLoaded s).link = s.link := rfl
@[simp] theorem batteryLoaded_record (s : State) :
    (batteryLoaded s).record = s.record := rfl
@[simp] theorem batteryLoaded_steering (s : State) :
    (batteryLoaded s).steering = s.steering := rfl
@[simp] theorem batteryLoaded_drive (s : State) :
    (batteryLoaded s).drive = s.drive := rfl
@[simp] theorem batteryLoaded_winch (s : State) :
    (batteryLoaded s).winch = s.winch := rfl
@[simp] theorem batteryLoaded_lights (s : State) :
    (batteryLoaded s).lights = s.lights := rfl
@[simp] theorem batteryLoaded_inputs (s : State) :
    (batteryLoaded s).inputs = s.inputs := rfl
@[simp] theorem batteryLoaded_store (s : State) :
    (batteryLoaded s).store = s.store := rfl
@[simp] theorem batteryLoaded_tables (s : State) :
    (batteryLoaded s).tables = s.tables := rfl

@[simp] theorem putLights_pending (x : Lights) (s : State) :
    (putLights x s).pending = s.pending := rfl
@[simp] theorem putLights_heldInReset (x : Lights) (s : State) :
    (putLights x s).heldInReset = s.heldInReset := rfl
@[simp] theorem putLights_link (x : Lights) (s : State) :
    (putLights x s).link = s.link := rfl
@[simp] theorem putLights_record (x : Lights) (s : State) :
    (putLights x s).record = s.record := rfl
@[simp] theorem putLights_steering (x : Lights) (s : State) :
    (putLights x s).steering = s.steering := rfl
@[simp] theorem putLights_drive (x : Lights) (s : State) :
    (putLights x s).drive = s.drive := rfl
@[simp] theorem putLights_winch (x : Lights) (s : State) :
    (putLights x s).winch = s.winch := rfl
@[simp] theorem putLights_scanner (x : Lights) (s : State) :
    (putLights x s).scanner = s.scanner := rfl
@[simp] theorem putLights_protection (x : Lights) (s : State) :
    (putLights x s).protection = s.protection := rfl
@[simp] theorem putLights_inputs (x : Lights) (s : State) :
    (putLights x s).inputs = s.inputs := rfl
@[simp] theorem putLights_store (x : Lights) (s : State) :
    (putLights x s).store = s.store := rfl
@[simp] theorem putLights_tables (x : Lights) (s : State) :
    (putLights x s).tables = s.tables := rfl

@[simp] theorem lightEvent_pending (m : LightMsg) (s : State) :
    (lightEvent m s).pending = s.pending := rfl
@[simp] theorem lightEvent_heldInReset (m : LightMsg) (s : State) :
    (lightEvent m s).heldInReset = s.heldInReset := rfl
@[simp] theorem lightEvent_link (m : LightMsg) (s : State) :
    (lightEvent m s).link = s.link := rfl
@[simp] theorem lightEvent_record (m : LightMsg) (s : State) :
    (lightEvent m s).record = s.record := rfl
@[simp] theorem lightEvent_steering (m : LightMsg) (s : State) :
    (lightEvent m s).steering = s.steering := rfl
@[simp] theorem lightEvent_drive (m : LightMsg) (s : State) :
    (lightEvent m s).drive = s.drive := rfl
@[simp] theorem lightEvent_winch (m : LightMsg) (s : State) :
    (lightEvent m s).winch = s.winch := rfl
@[simp] theorem lightEvent_scanner (m : LightMsg) (s : State) :
    (lightEvent m s).scanner = s.scanner := rfl
@[simp] theorem lightEvent_protection (m : LightMsg) (s : State) :
    (lightEvent m s).protection = s.protection := rfl
@[simp] theorem lightEvent_inputs (m : LightMsg) (s : State) :
    (lightEvent m s).inputs = s.inputs := rfl
@[simp] theorem lightEvent_store (m : LightMsg) (s : State) :
    (lightEvent m s).store = s.store := rfl
@[simp] theorem lightEvent_tables (m : LightMsg) (s : State) :
    (lightEvent m s).tables = s.tables := rfl

@[simp] theorem recompose_pending (s : State) :
    (recompose s).pending = s.pending := rfl
@[simp] theorem recompose_heldInReset (s : State) :
    (recompose s).heldInReset = s.heldInReset := rfl
@[simp] theorem recompose_link (s : State) :
    (recompose s).link = s.link := rfl
@[simp] theorem recompose_record (s : State) :
    (recompose s).record = s.record := rfl
@[simp] theorem recompose_steering (s : State) :
    (recompose s).steering = s.steering := rfl
@[simp] theorem recompose_drive (s : State) :
    (recompose s).drive = s.drive := rfl
@[simp] theorem recompose_winch (s : State) :
    (recompose s).winch = s.winch := rfl
@[simp] theorem recompose_scanner (s : State) :
    (recompose s).scanner = s.scanner := rfl
@[simp] theorem recompose_protection (s : State) :
    (recompose s).protection = s.protection := rfl
@[simp] theorem recompose_inputs (s : State) :
    (recompose s).inputs = s.inputs := rfl
@[simp] theorem recompose_store (s : State) :
    (recompose s).store = s.store := rfl
@[simp] theorem recompose_tables (s : State) :
    (recompose s).tables = s.tables := rfl

@[simp] theorem lightsUpdate_pending (r : FunctionRecord) (s : State) :
    (lightsUpdate r s).pending = s.pending := rfl
@[simp] theorem lightsUpdate_heldInReset (r : FunctionRecord) (s : State) :
    (lightsUpdate r s).heldInReset = s.heldInReset := rfl
@[simp] theorem lightsUpdate_link (r : FunctionRecord) (s : State) :
    (lightsUpdate r s).link = s.link := rfl
@[simp] theorem lightsUpdate_record (r : FunctionRecord) (s : State) :
    (lightsUpdate r s).record = s.record := rfl
@[simp] theorem lightsUpdate_steering (r : FunctionRecord) (s : State) :
    (lightsUpdate r s).steering = s.steering := rfl
@[simp] theorem lightsUpdate_drive (r : FunctionRecord) (s : State) :
    (lightsUpdate r s).drive = s.drive := rfl
@[simp] theorem lightsUpdate_winch (r : FunctionRecord) (s : State) :
    (lightsUpdate r s).winch = s.winch := rfl
@[simp] theorem lightsUpdate_scanner (r : FunctionRecord) (s : State) :
    (lightsUpdate r s).scanner = s.scanner := rfl
@[simp] theorem lightsUpdate_protection (r : FunctionRecord) (s : State) :
    (lightsUpdate r s).protection = s.protection := rfl
@[simp] theorem lightsUpdate_inputs (r : FunctionRecord) (s : State) :
    (lightsUpdate r s).inputs = s.inputs := rfl
@[simp] theorem lightsUpdate_store (r : FunctionRecord) (s : State) :
    (lightsUpdate r s).store = s.store := rfl
@[simp] theorem lightsUpdate_tables (r : FunctionRecord) (s : State) :
    (lightsUpdate r s).tables = s.tables := rfl

@[simp] theorem cueWritten_pending (k : Fin 16) (s : State) :
    (cueWritten k s).pending = s.pending := rfl
@[simp] theorem cueWritten_heldInReset (k : Fin 16) (s : State) :
    (cueWritten k s).heldInReset = s.heldInReset := rfl
@[simp] theorem cueWritten_link (k : Fin 16) (s : State) :
    (cueWritten k s).link = s.link := rfl
@[simp] theorem cueWritten_record (k : Fin 16) (s : State) :
    (cueWritten k s).record = s.record := rfl
@[simp] theorem cueWritten_steering (k : Fin 16) (s : State) :
    (cueWritten k s).steering = s.steering := rfl
@[simp] theorem cueWritten_drive (k : Fin 16) (s : State) :
    (cueWritten k s).drive = s.drive := rfl
@[simp] theorem cueWritten_winch (k : Fin 16) (s : State) :
    (cueWritten k s).winch = s.winch := rfl
@[simp] theorem cueWritten_scanner (k : Fin 16) (s : State) :
    (cueWritten k s).scanner = s.scanner := rfl
@[simp] theorem cueWritten_protection (k : Fin 16) (s : State) :
    (cueWritten k s).protection = s.protection := rfl
@[simp] theorem cueWritten_inputs (k : Fin 16) (s : State) :
    (cueWritten k s).inputs = s.inputs := rfl
@[simp] theorem cueWritten_store (k : Fin 16) (s : State) :
    (cueWritten k s).store = s.store := rfl
@[simp] theorem cueWritten_tables (k : Fin 16) (s : State) :
    (cueWritten k s).tables = s.tables := rfl

@[simp] theorem lightsStartUp_pending (s : State) :
    (lightsStartUp s).pending = s.pending := rfl
@[simp] theorem lightsStartUp_heldInReset (s : State) :
    (lightsStartUp s).heldInReset = s.heldInReset := rfl
@[simp] theorem lightsStartUp_link (s : State) :
    (lightsStartUp s).link = s.link := rfl
@[simp] theorem lightsStartUp_record (s : State) :
    (lightsStartUp s).record = s.record := rfl
@[simp] theorem lightsStartUp_steering (s : State) :
    (lightsStartUp s).steering = s.steering := rfl
@[simp] theorem lightsStartUp_drive (s : State) :
    (lightsStartUp s).drive = s.drive := rfl
@[simp] theorem lightsStartUp_winch (s : State) :
    (lightsStartUp s).winch = s.winch := rfl
@[simp] theorem lightsStartUp_scanner (s : State) :
    (lightsStartUp s).scanner = s.scanner := rfl
@[simp] theorem lightsStartUp_protection (s : State) :
    (lightsStartUp s).protection = s.protection := rfl
@[simp] theorem lightsStartUp_inputs (s : State) :
    (lightsStartUp s).inputs = s.inputs := rfl
@[simp] theorem lightsStartUp_store (s : State) :
    (lightsStartUp s).store = s.store := rfl
@[simp] theorem lightsStartUp_tables (s : State) :
    (lightsStartUp s).tables = s.tables := rfl

/-! ## The values set -/

@[simp] theorem withPending_pending (s : State) (q : List Instr) : (s.withPending q).pending = q := rfl
@[simp] theorem putRun_link (n : RunState) (s : State) : (putRun n s).link = { s.link with run := n } := rfl
@[simp] theorem putReply_link (r : Reply) (s : State) : (putReply r s).link = { s.link with reply := r } := rfl
@[simp] theorem putReceiver_link (r : Receiver) (s : State) :
    (putReceiver r s).link = { s.link with receiver := r } := rfl
@[simp] theorem putDiscarding_link (b : Bool) (s : State) :
    (putDiscarding b s).link = { s.link with discarding := b } := rfl
@[simp] theorem putRecovery_link (n : Nat) (s : State) :
    (putRecovery n s).link = { s.link with recovery := n } := rfl
@[simp] theorem restartHold_link (s : State) :
    (restartHold s).link = { s.link with hold := startTimer s.tables.link.holdTime s.link.hold } := rfl
@[simp] theorem stopHold_link (s : State) :
    (stopHold s).link = { s.link with hold := stopTimer s.link.hold } := rfl
@[simp] theorem answerWith_link (k : Byte) (r : Result) (e : List Byte) (ns : List Notice) (s : State) :
    (answerWith k r e ns s).link =
      { s.link with
        reply := .pending { kind := Config.kindAnswer, payload := k :: resultCode r :: e, answered := k,
                            notices := ns } } := rfl
@[simp] theorem answer_link (k : Byte) (r : Result) (s : State) :
    (answer k r s).link =
      { s.link with
        reply := .pending { kind := Config.kindAnswer, payload := [k, resultCode r], answered := k,
                            notices := [] } } := rfl
@[simp] theorem answerAction_link (r : Result) (s : State) :
    (answerAction r s).link =
      { s.link with
        reply := .pending { kind := Config.kindAnswer, payload := [Config.kindAction, resultCode r],
                            answered := Config.kindAction, notices := [] } } := rfl
@[simp] theorem putTables_tables (t : Tables) (s : State) : (putTables t s).tables = t := rfl
@[simp] theorem putStore_store (x : Store) (s : State) : (putStore x s).store = x := rfl
@[simp] theorem putPass_scanner (p : Option Pass) (s : State) :
    (putPass p s).scanner = { s.scanner with pass := p } := rfl
@[simp] theorem putScanner_scanner (q : Quantity) (v : Int) (p : Option Pass) (s : State) :
    (putScanner q v p s).scanner =
      { values := s.scanner.values.set (quantityIndex q).val v, pass := p } := rfl
@[simp] theorem setFlag_inputs (f : Flag) (s : State) : (setFlag f s).inputs = raiseFlag f s.inputs := rfl
@[simp] theorem raiseFlag_lines (f : Flag) (x : Inputs) : (raiseFlag f x).lines = x.lines := rfl
@[simp] theorem raiseFlag_ticking (f : Flag) (x : Inputs) : (raiseFlag f x).ticking = x.ticking := rfl
@[simp] theorem putLights_lights (x : Lights) (s : State) : (putLights x s).lights = x := rfl
@[simp] theorem putLights_budget (x : Lights) (s : State) :
    (putLights x s).budget = fileClaim 3 s.lights.filed x.filed s.budget := rfl
@[simp] theorem lightEvent_lights (m : LightMsg) (s : State) :
    (lightEvent m s).lights = lightsEvent s.tables (grantOf s 3) false m s.lights := rfl
@[simp] theorem recomputeCap_protection (s : State) :
    (recomputeCap s).protection =
      { s.protection with cap := capFor s.tables.protect s.protection.state } := rfl
@[simp] theorem putGrants_budget (d : Deal) (s : State) :
    (putGrants d s).budget =
      { s.budget with grant := d.grants, pointers := d.pointers, capUsed := s.protection.cap } := rfl
@[simp] theorem computeBudget_demand (s : State) : (computeBudget s).budget.demand = s.budget.demand := by
  rw [computeBudget, putGrants_budget]
@[simp] theorem computeBudget_timer (s : State) : (computeBudget s).budget.timer = s.budget.timer := by
  rw [computeBudget, putGrants_budget]
@[simp] theorem startBudgetTimer_demand (s : State) :
    (startBudgetTimer s).budget.demand = s.budget.demand := rfl
@[simp] theorem startBudgetTimer_grant (s : State) :
    (startBudgetTimer s).budget.grant = s.budget.grant := rfl
@[simp] theorem startTimer_running (n : Nat) (t : Timer) : (startTimer n t).running = true := rfl
@[simp] theorem startTimer_length (n : Nat) (t : Timer) : (startTimer n t).length = n := rfl
@[simp] theorem stopTimer_running (t : Timer) : (stopTimer t).running = false := rfl

end Sys2Proof.Machine
end

