-- ==== Sys2Proof/Laws/Frame.lean ====
section
/-! SUPPORT. Frames: which blocks each shared operation can change. Each lemma names a block that the
operation leaves as it is. -/

namespace Sys2Proof.Machine

@[simp] theorem lightEvents_pending (ms : List LightMsg) (s : State) :
    (lightEvents ms s).pending = s.pending := by
  induction ms generalizing s with
  | nil => rfl
  | cons m ms ih => simpa [lightEvents] using ih (lightEvent m s)
@[simp] theorem lightEvents_heldInReset (ms : List LightMsg) (s : State) :
    (lightEvents ms s).heldInReset = s.heldInReset := by
  induction ms generalizing s with
  | nil => rfl
  | cons m ms ih => simpa [lightEvents] using ih (lightEvent m s)
@[simp] theorem lightEvents_link (ms : List LightMsg) (s : State) :
    (lightEvents ms s).link = s.link := by
  induction ms generalizing s with
  | nil => rfl
  | cons m ms ih => simpa [lightEvents] using ih (lightEvent m s)
@[simp] theorem lightEvents_record (ms : List LightMsg) (s : State) :
    (lightEvents ms s).record = s.record := by
  induction ms generalizing s with
  | nil => rfl
  | cons m ms ih => simpa [lightEvents] using ih (lightEvent m s)
@[simp] theorem lightEvents_steering (ms : List LightMsg) (s : State) :
    (lightEvents ms s).steering = s.steering := by
  induction ms generalizing s with
  | nil => rfl
  | cons m ms ih => simpa [lightEvents] using ih (lightEvent m s)
@[simp] theorem lightEvents_drive (ms : List LightMsg) (s : State) :
    (lightEvents ms s).drive = s.drive := by
  induction ms generalizing s with
  | nil => rfl
  | cons m ms ih => simpa [lightEvents] using ih (lightEvent m s)
@[simp] theorem lightEvents_winch (ms : List LightMsg) (s : State) :
    (lightEvents ms s).winch = s.winch := by
  induction ms generalizing s with
  | nil => rfl
  | cons m ms ih => simpa [lightEvents] using ih (lightEvent m s)
@[simp] theorem lightEvents_scanner (ms : List LightMsg) (s : State) :
    (lightEvents ms s).scanner = s.scanner := by
  induction ms generalizing s with
  | nil => rfl
  | cons m ms ih => simpa [lightEvents] using ih (lightEvent m s)
@[simp] theorem lightEvents_protection (ms : List LightMsg) (s : State) :
    (lightEvents ms s).protection = s.protection := by
  induction ms generalizing s with
  | nil => rfl
  | cons m ms ih => simpa [lightEvents] using ih (lightEvent m s)
@[simp] theorem lightEvents_inputs (ms : List LightMsg) (s : State) :
    (lightEvents ms s).inputs = s.inputs := by
  induction ms generalizing s with
  | nil => rfl
  | cons m ms ih => simpa [lightEvents] using ih (lightEvent m s)
@[simp] theorem lightEvents_store (ms : List LightMsg) (s : State) :
    (lightEvents ms s).store = s.store := by
  induction ms generalizing s with
  | nil => rfl
  | cons m ms ih => simpa [lightEvents] using ih (lightEvent m s)
@[simp] theorem lightEvents_tables (ms : List LightMsg) (s : State) :
    (lightEvents ms s).tables = s.tables := by
  induction ms generalizing s with
  | nil => rfl
  | cons m ms ih => simpa [lightEvents] using ih (lightEvent m s)

@[simp] theorem putSteering_pending (x : Steering) (s : State) :
    (putSteering x s).pending = s.pending := by simp [putSteering]
@[simp] theorem putSteering_heldInReset (x : Steering) (s : State) :
    (putSteering x s).heldInReset = s.heldInReset := by simp [putSteering]
@[simp] theorem putSteering_link (x : Steering) (s : State) :
    (putSteering x s).link = s.link := by simp [putSteering]
@[simp] theorem putSteering_record (x : Steering) (s : State) :
    (putSteering x s).record = s.record := by simp [putSteering]
@[simp] theorem putSteering_drive (x : Steering) (s : State) :
    (putSteering x s).drive = s.drive := by simp [putSteering]
@[simp] theorem putSteering_winch (x : Steering) (s : State) :
    (putSteering x s).winch = s.winch := by simp [putSteering]
@[simp] theorem putSteering_scanner (x : Steering) (s : State) :
    (putSteering x s).scanner = s.scanner := by simp [putSteering]
@[simp] theorem putSteering_protection (x : Steering) (s : State) :
    (putSteering x s).protection = s.protection := by simp [putSteering]
@[simp] theorem putSteering_inputs (x : Steering) (s : State) :
    (putSteering x s).inputs = s.inputs := by simp [putSteering]
@[simp] theorem putSteering_store (x : Steering) (s : State) :
    (putSteering x s).store = s.store := by simp [putSteering]
@[simp] theorem putSteering_tables (x : Steering) (s : State) :
    (putSteering x s).tables = s.tables := by simp [putSteering]

@[simp] theorem steerWritten_pending (s : State) :
    (steerWritten s).pending = s.pending := by simp [steerWritten]
@[simp] theorem steerWritten_heldInReset (s : State) :
    (steerWritten s).heldInReset = s.heldInReset := by simp [steerWritten]
@[simp] theorem steerWritten_link (s : State) :
    (steerWritten s).link = s.link := by simp [steerWritten]
@[simp] theorem steerWritten_record (s : State) :
    (steerWritten s).record = s.record := by simp [steerWritten]
@[simp] theorem steerWritten_drive (s : State) :
    (steerWritten s).drive = s.drive := by simp [steerWritten]
@[simp] theorem steerWritten_winch (s : State) :
    (steerWritten s).winch = s.winch := by simp [steerWritten]
@[simp] theorem steerWritten_scanner (s : State) :
    (steerWritten s).scanner = s.scanner := by simp [steerWritten]
@[simp] theorem steerWritten_protection (s : State) :
    (steerWritten s).protection = s.protection := by simp [steerWritten]
@[simp] theorem steerWritten_inputs (s : State) :
    (steerWritten s).inputs = s.inputs := by simp [steerWritten]
@[simp] theorem steerWritten_store (s : State) :
    (steerWritten s).store = s.store := by simp [steerWritten]
@[simp] theorem steerWritten_tables (s : State) :
    (steerWritten s).tables = s.tables := by simp [steerWritten]

@[simp] theorem putDrive_pending (x : Drive) (s : State) :
    (putDrive x s).pending = s.pending := by simp [putDrive]
@[simp] theorem putDrive_heldInReset (x : Drive) (s : State) :
    (putDrive x s).heldInReset = s.heldInReset := by simp [putDrive]
@[simp] theorem putDrive_link (x : Drive) (s : State) :
    (putDrive x s).link = s.link := by simp [putDrive]
@[simp] theorem putDrive_record (x : Drive) (s : State) :
    (putDrive x s).record = s.record := by simp [putDrive]
@[simp] theorem putDrive_steering (x : Drive) (s : State) :
    (putDrive x s).steering = s.steering := by simp [putDrive]
@[simp] theorem putDrive_winch (x : Drive) (s : State) :
    (putDrive x s).winch = s.winch := by simp [putDrive]
@[simp] theorem putDrive_scanner (x : Drive) (s : State) :
    (putDrive x s).scanner = s.scanner := by simp [putDrive]
@[simp] theorem putDrive_protection (x : Drive) (s : State) :
    (putDrive x s).protection = s.protection := by simp [putDrive]
@[simp] theorem putDrive_inputs (x : Drive) (s : State) :
    (putDrive x s).inputs = s.inputs := by simp [putDrive]
@[simp] theorem putDrive_store (x : Drive) (s : State) :
    (putDrive x s).store = s.store := by simp [putDrive]
@[simp] theorem putDrive_tables (x : Drive) (s : State) :
    (putDrive x s).tables = s.tables := by simp [putDrive]

@[simp] theorem driveCompute_pending (s : State) :
    (driveCompute s).pending = s.pending := by simp [driveCompute]
@[simp] theorem driveCompute_heldInReset (s : State) :
    (driveCompute s).heldInReset = s.heldInReset := by simp [driveCompute]
@[simp] theorem driveCompute_link (s : State) :
    (driveCompute s).link = s.link := by simp [driveCompute]
@[simp] theorem driveCompute_record (s : State) :
    (driveCompute s).record = s.record := by simp [driveCompute]
@[simp] theorem driveCompute_steering (s : State) :
    (driveCompute s).steering = s.steering := by simp [driveCompute]
@[simp] theorem driveCompute_winch (s : State) :
    (driveCompute s).winch = s.winch := by simp [driveCompute]
@[simp] theorem driveCompute_scanner (s : State) :
    (driveCompute s).scanner = s.scanner := by simp [driveCompute]
@[simp] theorem driveCompute_protection (s : State) :
    (driveCompute s).protection = s.protection := by simp [driveCompute]
@[simp] theorem driveCompute_inputs (s : State) :
    (driveCompute s).inputs = s.inputs := by simp [driveCompute]
@[simp] theorem driveCompute_store (s : State) :
    (driveCompute s).store = s.store := by simp [driveCompute]
@[simp] theorem driveCompute_tables (s : State) :
    (driveCompute s).tables = s.tables := by simp [driveCompute]

@[simp] theorem driveUpdate_pending (r : FunctionRecord) (s : State) :
    (driveUpdate r s).pending = s.pending := by simp [driveUpdate]
@[simp] theorem driveUpdate_heldInReset (r : FunctionRecord) (s : State) :
    (driveUpdate r s).heldInReset = s.heldInReset := by simp [driveUpdate]
@[simp] theorem driveUpdate_link (r : FunctionRecord) (s : State) :
    (driveUpdate r s).link = s.link := by simp [driveUpdate]
@[simp] theorem driveUpdate_record (r : FunctionRecord) (s : State) :
    (driveUpdate r s).record = s.record := by simp [driveUpdate]
@[simp] theorem driveUpdate_steering (r : FunctionRecord) (s : State) :
    (driveUpdate r s).steering = s.steering := by simp [driveUpdate]
@[simp] theorem driveUpdate_winch (r : FunctionRecord) (s : State) :
    (driveUpdate r s).winch = s.winch := by simp [driveUpdate]
@[simp] theorem driveUpdate_scanner (r : FunctionRecord) (s : State) :
    (driveUpdate r s).scanner = s.scanner := by simp [driveUpdate]
@[simp] theorem driveUpdate_protection (r : FunctionRecord) (s : State) :
    (driveUpdate r s).protection = s.protection := by simp [driveUpdate]
@[simp] theorem driveUpdate_inputs (r : FunctionRecord) (s : State) :
    (driveUpdate r s).inputs = s.inputs := by simp [driveUpdate]
@[simp] theorem driveUpdate_store (r : FunctionRecord) (s : State) :
    (driveUpdate r s).store = s.store := by simp [driveUpdate]
@[simp] theorem driveUpdate_tables (r : FunctionRecord) (s : State) :
    (driveUpdate r s).tables = s.tables := by simp [driveUpdate]

@[simp] theorem putWinch_pending (x : WinchStep) (s : State) :
    (putWinch x s).pending = s.pending := by simp [putWinch]
@[simp] theorem putWinch_heldInReset (x : WinchStep) (s : State) :
    (putWinch x s).heldInReset = s.heldInReset := by simp [putWinch]
@[simp] theorem putWinch_link (x : WinchStep) (s : State) :
    (putWinch x s).link = s.link := by simp [putWinch]
@[simp] theorem putWinch_record (x : WinchStep) (s : State) :
    (putWinch x s).record = s.record := by simp [putWinch]
@[simp] theorem putWinch_steering (x : WinchStep) (s : State) :
    (putWinch x s).steering = s.steering := by simp [putWinch]
@[simp] theorem putWinch_drive (x : WinchStep) (s : State) :
    (putWinch x s).drive = s.drive := by simp [putWinch]
@[simp] theorem putWinch_scanner (x : WinchStep) (s : State) :
    (putWinch x s).scanner = s.scanner := by simp [putWinch]
@[simp] theorem putWinch_protection (x : WinchStep) (s : State) :
    (putWinch x s).protection = s.protection := by simp [putWinch]
@[simp] theorem putWinch_store (x : WinchStep) (s : State) :
    (putWinch x s).store = s.store := by simp [putWinch]
@[simp] theorem putWinch_tables (x : WinchStep) (s : State) :
    (putWinch x s).tables = s.tables := by simp [putWinch]

@[simp] theorem onWinchEvent_pending (f : WinchContext → Winch → WinchStep) (s : State) :
    (onWinchEvent f s).pending = s.pending := by simp [onWinchEvent]
@[simp] theorem onWinchEvent_heldInReset (f : WinchContext → Winch → WinchStep) (s : State) :
    (onWinchEvent f s).heldInReset = s.heldInReset := by simp [onWinchEvent]
@[simp] theorem onWinchEvent_link (f : WinchContext → Winch → WinchStep) (s : State) :
    (onWinchEvent f s).link = s.link := by simp [onWinchEvent]
@[simp] theorem onWinchEvent_record (f : WinchContext → Winch → WinchStep) (s : State) :
    (onWinchEvent f s).record = s.record := by simp [onWinchEvent]
@[simp] theorem onWinchEvent_steering (f : WinchContext → Winch → WinchStep) (s : State) :
    (onWinchEvent f s).steering = s.steering := by simp [onWinchEvent]
@[simp] theorem onWinchEvent_drive (f : WinchContext → Winch → WinchStep) (s : State) :
    (onWinchEvent f s).drive = s.drive := by simp [onWinchEvent]
@[simp] theorem onWinchEvent_scanner (f : WinchContext → Winch → WinchStep) (s : State) :
    (onWinchEvent f s).scanner = s.scanner := by simp [onWinchEvent]
@[simp] theorem onWinchEvent_protection (f : WinchContext → Winch → WinchStep) (s : State) :
    (onWinchEvent f s).protection = s.protection := by simp [onWinchEvent]
@[simp] theorem onWinchEvent_store (f : WinchContext → Winch → WinchStep) (s : State) :
    (onWinchEvent f s).store = s.store := by simp [onWinchEvent]
@[simp] theorem onWinchEvent_tables (f : WinchContext → Winch → WinchStep) (s : State) :
    (onWinchEvent f s).tables = s.tables := by simp [onWinchEvent]

@[simp] theorem steeringTakesUpdate_pending (r : FunctionRecord) (s : State) :
    (steeringTakesUpdate r s).pending = s.pending := by simp [steeringTakesUpdate]
@[simp] theorem steeringTakesUpdate_heldInReset (r : FunctionRecord) (s : State) :
    (steeringTakesUpdate r s).heldInReset = s.heldInReset := by simp [steeringTakesUpdate]
@[simp] theorem steeringTakesUpdate_link (r : FunctionRecord) (s : State) :
    (steeringTakesUpdate r s).link = s.link := by simp [steeringTakesUpdate]
@[simp] theorem steeringTakesUpdate_record (r : FunctionRecord) (s : State) :
    (steeringTakesUpdate r s).record = s.record := by simp [steeringTakesUpdate]
@[simp] theorem steeringTakesUpdate_drive (r : FunctionRecord) (s : State) :
    (steeringTakesUpdate r s).drive = s.drive := by simp [steeringTakesUpdate]
@[simp] theorem steeringTakesUpdate_winch (r : FunctionRecord) (s : State) :
    (steeringTakesUpdate r s).winch = s.winch := by simp [steeringTakesUpdate]
@[simp] theorem steeringTakesUpdate_scanner (r : FunctionRecord) (s : State) :
    (steeringTakesUpdate r s).scanner = s.scanner := by simp [steeringTakesUpdate]
@[simp] theorem steeringTakesUpdate_protection (r : FunctionRecord) (s : State) :
    (steeringTakesUpdate r s).protection = s.protection := by simp [steeringTakesUpdate]
@[simp] theorem steeringTakesUpdate_inputs (r : FunctionRecord) (s : State) :
    (steeringTakesUpdate r s).inputs = s.inputs := by simp [steeringTakesUpdate]
@[simp] theorem steeringTakesUpdate_store (r : FunctionRecord) (s : State) :
    (steeringTakesUpdate r s).store = s.store := by simp [steeringTakesUpdate]
@[simp] theorem steeringTakesUpdate_tables (r : FunctionRecord) (s : State) :
    (steeringTakesUpdate r s).tables = s.tables := by simp [steeringTakesUpdate]

@[simp] theorem winchTakesUpdate_pending (r : FunctionRecord) (s : State) :
    (winchTakesUpdate r s).pending = s.pending := by simp [winchTakesUpdate]
@[simp] theorem winchTakesUpdate_heldInReset (r : FunctionRecord) (s : State) :
    (winchTakesUpdate r s).heldInReset = s.heldInReset := by simp [winchTakesUpdate]
@[simp] theorem winchTakesUpdate_link (r : FunctionRecord) (s : State) :
    (winchTakesUpdate r s).link = s.link := by simp [winchTakesUpdate]
@[simp] theorem winchTakesUpdate_record (r : FunctionRecord) (s : State) :
    (winchTakesUpdate r s).record = s.record := by simp [winchTakesUpdate]
@[simp] theorem winchTakesUpdate_steering (r : FunctionRecord) (s : State) :
    (winchTakesUpdate r s).steering = s.steering := by simp [winchTakesUpdate]
@[simp] theorem winchTakesUpdate_drive (r : FunctionRecord) (s : State) :
    (winchTakesUpdate r s).drive = s.drive := by simp [winchTakesUpdate]
@[simp] theorem winchTakesUpdate_scanner (r : FunctionRecord) (s : State) :
    (winchTakesUpdate r s).scanner = s.scanner := by simp [winchTakesUpdate]
@[simp] theorem winchTakesUpdate_protection (r : FunctionRecord) (s : State) :
    (winchTakesUpdate r s).protection = s.protection := by simp [winchTakesUpdate]
@[simp] theorem winchTakesUpdate_store (r : FunctionRecord) (s : State) :
    (winchTakesUpdate r s).store = s.store := by simp [winchTakesUpdate]
@[simp] theorem winchTakesUpdate_tables (r : FunctionRecord) (s : State) :
    (winchTakesUpdate r s).tables = s.tables := by simp [winchTakesUpdate]

@[simp] theorem functionUpdate_pending (r : FunctionRecord) (s : State) :
    (functionUpdate r s).pending = s.pending := by simp [functionUpdate]
@[simp] theorem functionUpdate_heldInReset (r : FunctionRecord) (s : State) :
    (functionUpdate r s).heldInReset = s.heldInReset := by simp [functionUpdate]
@[simp] theorem functionUpdate_link (r : FunctionRecord) (s : State) :
    (functionUpdate r s).link = s.link := by simp [functionUpdate]
@[simp] theorem functionUpdate_scanner (r : FunctionRecord) (s : State) :
    (functionUpdate r s).scanner = s.scanner := by simp [functionUpdate]
@[simp] theorem functionUpdate_protection (r : FunctionRecord) (s : State) :
    (functionUpdate r s).protection = s.protection := by simp [functionUpdate]
@[simp] theorem functionUpdate_store (r : FunctionRecord) (s : State) :
    (functionUpdate r s).store = s.store := by simp [functionUpdate]
@[simp] theorem functionUpdate_tables (r : FunctionRecord) (s : State) :
    (functionUpdate r s).tables = s.tables := by simp [functionUpdate]

@[simp] theorem handToMapper_pending (p : List Byte) (s : State) :
    (handToMapper p s).pending = s.pending := by simp [handToMapper]
@[simp] theorem handToMapper_heldInReset (p : List Byte) (s : State) :
    (handToMapper p s).heldInReset = s.heldInReset := by simp [handToMapper]
@[simp] theorem handToMapper_link (p : List Byte) (s : State) :
    (handToMapper p s).link = s.link := by simp [handToMapper]
@[simp] theorem handToMapper_scanner (p : List Byte) (s : State) :
    (handToMapper p s).scanner = s.scanner := by simp [handToMapper]
@[simp] theorem handToMapper_protection (p : List Byte) (s : State) :
    (handToMapper p s).protection = s.protection := by simp [handToMapper]
@[simp] theorem handToMapper_store (p : List Byte) (s : State) :
    (handToMapper p s).store = s.store := by simp [handToMapper]
@[simp] theorem handToMapper_tables (p : List Byte) (s : State) :
    (handToMapper p s).tables = s.tables := by simp [handToMapper]

@[simp] theorem deliverRun_pending (n : RunState) (s : State) :
    (deliverRun n s).pending = s.pending := by simp [deliverRun]
@[simp] theorem deliverRun_heldInReset (n : RunState) (s : State) :
    (deliverRun n s).heldInReset = s.heldInReset := by simp [deliverRun]
@[simp] theorem deliverRun_record (n : RunState) (s : State) :
    (deliverRun n s).record = s.record := by simp [deliverRun]
@[simp] theorem deliverRun_steering (n : RunState) (s : State) :
    (deliverRun n s).steering = s.steering := by simp [deliverRun]
@[simp] theorem deliverRun_scanner (n : RunState) (s : State) :
    (deliverRun n s).scanner = s.scanner := by simp [deliverRun]
@[simp] theorem deliverRun_protection (n : RunState) (s : State) :
    (deliverRun n s).protection = s.protection := by simp [deliverRun]
@[simp] theorem deliverRun_store (n : RunState) (s : State) :
    (deliverRun n s).store = s.store := by simp [deliverRun]
@[simp] theorem deliverRun_tables (n : RunState) (s : State) :
    (deliverRun n s).tables = s.tables := by simp [deliverRun]

@[simp] theorem applyFailsafe_pending (s : State) :
    (applyFailsafe s).pending = s.pending := by simp [applyFailsafe]
@[simp] theorem applyFailsafe_heldInReset (s : State) :
    (applyFailsafe s).heldInReset = s.heldInReset := by simp [applyFailsafe]
@[simp] theorem applyFailsafe_link (s : State) :
    (applyFailsafe s).link = s.link := by simp [applyFailsafe]
@[simp] theorem applyFailsafe_scanner (s : State) :
    (applyFailsafe s).scanner = s.scanner := by simp [applyFailsafe]
@[simp] theorem applyFailsafe_protection (s : State) :
    (applyFailsafe s).protection = s.protection := by simp [applyFailsafe]
@[simp] theorem applyFailsafe_store (s : State) :
    (applyFailsafe s).store = s.store := by simp [applyFailsafe]
@[simp] theorem applyFailsafe_tables (s : State) :
    (applyFailsafe s).tables = s.tables := by simp [applyFailsafe]

@[simp] theorem enterFailsafe_pending (s : State) :
    (enterFailsafe s).pending = s.pending := by simp [enterFailsafe]
@[simp] theorem enterFailsafe_heldInReset (s : State) :
    (enterFailsafe s).heldInReset = s.heldInReset := by simp [enterFailsafe]
@[simp] theorem enterFailsafe_scanner (s : State) :
    (enterFailsafe s).scanner = s.scanner := by simp [enterFailsafe]
@[simp] theorem enterFailsafe_protection (s : State) :
    (enterFailsafe s).protection = s.protection := by simp [enterFailsafe]
@[simp] theorem enterFailsafe_store (s : State) :
    (enterFailsafe s).store = s.store := by simp [enterFailsafe]
@[simp] theorem enterFailsafe_tables (s : State) :
    (enterFailsafe s).tables = s.tables := by simp [enterFailsafe]

@[simp] theorem deliverProtection_pending (p : Protection) (s : State) :
    (deliverProtection p s).pending = s.pending := by simp [deliverProtection]
@[simp] theorem deliverProtection_heldInReset (p : Protection) (s : State) :
    (deliverProtection p s).heldInReset = s.heldInReset := by simp [deliverProtection]
@[simp] theorem deliverProtection_link (p : Protection) (s : State) :
    (deliverProtection p s).link = s.link := by simp [deliverProtection]
@[simp] theorem deliverProtection_record (p : Protection) (s : State) :
    (deliverProtection p s).record = s.record := by simp [deliverProtection]
@[simp] theorem deliverProtection_steering (p : Protection) (s : State) :
    (deliverProtection p s).steering = s.steering := by simp [deliverProtection]
@[simp] theorem deliverProtection_scanner (p : Protection) (s : State) :
    (deliverProtection p s).scanner = s.scanner := by simp [deliverProtection]
@[simp] theorem deliverProtection_store (p : Protection) (s : State) :
    (deliverProtection p s).store = s.store := by simp [deliverProtection]
@[simp] theorem deliverProtection_tables (p : Protection) (s : State) :
    (deliverProtection p s).tables = s.tables := by simp [deliverProtection]

@[simp] theorem protectCleared_pending (s : State) :
    (protectCleared s).pending = s.pending := by simp [protectCleared]
@[simp] theorem protectCleared_heldInReset (s : State) :
    (protectCleared s).heldInReset = s.heldInReset := by simp [protectCleared]
@[simp] theorem protectCleared_link (s : State) :
    (protectCleared s).link = s.link := by simp [protectCleared]
@[simp] theorem protectCleared_record (s : State) :
    (protectCleared s).record = s.record := by simp [protectCleared]
@[simp] theorem protectCleared_steering (s : State) :
    (protectCleared s).steering = s.steering := by simp [protectCleared]
@[simp] theorem protectCleared_scanner (s : State) :
    (protectCleared s).scanner = s.scanner := by simp [protectCleared]
@[simp] theorem protectCleared_store (s : State) :
    (protectCleared s).store = s.store := by simp [protectCleared]
@[simp] theorem protectCleared_tables (s : State) :
    (protectCleared s).tables = s.tables := by simp [protectCleared]

@[simp] theorem evaluatePass_pending (l : Vector ScanEntry 8) (s : State) :
    (evaluatePass l s).pending = s.pending := by
  simp only [evaluatePass]; split <;> [split; skip] <;> simp
@[simp] theorem evaluatePass_heldInReset (l : Vector ScanEntry 8) (s : State) :
    (evaluatePass l s).heldInReset = s.heldInReset := by
  simp only [evaluatePass]; split <;> [split; skip] <;> simp
@[simp] theorem evaluatePass_link (l : Vector ScanEntry 8) (s : State) :
    (evaluatePass l s).link = s.link := by
  simp only [evaluatePass]; split <;> [split; skip] <;> simp
@[simp] theorem evaluatePass_record (l : Vector ScanEntry 8) (s : State) :
    (evaluatePass l s).record = s.record := by
  simp only [evaluatePass]; split <;> [split; skip] <;> simp
@[simp] theorem evaluatePass_steering (l : Vector ScanEntry 8) (s : State) :
    (evaluatePass l s).steering = s.steering := by
  simp only [evaluatePass]; split <;> [split; skip] <;> simp
@[simp] theorem evaluatePass_scanner (l : Vector ScanEntry 8) (s : State) :
    (evaluatePass l s).scanner = s.scanner := by
  simp only [evaluatePass]; split <;> [split; skip] <;> simp
@[simp] theorem evaluatePass_store (l : Vector ScanEntry 8) (s : State) :
    (evaluatePass l s).store = s.store := by
  simp only [evaluatePass]; split <;> [split; skip] <;> simp
@[simp] theorem evaluatePass_tables (l : Vector ScanEntry 8) (s : State) :
    (evaluatePass l s).tables = s.tables := by
  simp only [evaluatePass]; split <;> [split; skip] <;> simp

@[simp] theorem handValue_pending (q : Quantity) (v : Int) (s : State) :
    (handValue q v s).pending = s.pending := by
  simp only [handValue]; split <;> simp
@[simp] theorem handValue_heldInReset (q : Quantity) (v : Int) (s : State) :
    (handValue q v s).heldInReset = s.heldInReset := by
  simp only [handValue]; split <;> simp
@[simp] theorem handValue_link (q : Quantity) (v : Int) (s : State) :
    (handValue q v s).link = s.link := by
  simp only [handValue]; split <;> simp
@[simp] theorem handValue_record (q : Quantity) (v : Int) (s : State) :
    (handValue q v s).record = s.record := by
  simp only [handValue]; split <;> simp
@[simp] theorem handValue_steering (q : Quantity) (v : Int) (s : State) :
    (handValue q v s).steering = s.steering := by
  simp only [handValue]; split <;> simp
@[simp] theorem handValue_drive (q : Quantity) (v : Int) (s : State) :
    (handValue q v s).drive = s.drive := by
  simp only [handValue]; split <;> simp
@[simp] theorem handValue_scanner (q : Quantity) (v : Int) (s : State) :
    (handValue q v s).scanner = s.scanner := by
  simp only [handValue]; split <;> simp
@[simp] theorem handValue_protection (q : Quantity) (v : Int) (s : State) :
    (handValue q v s).protection = s.protection := by
  simp only [handValue]; split <;> simp
@[simp] theorem handValue_store (q : Quantity) (v : Int) (s : State) :
    (handValue q v s).store = s.store := by
  simp only [handValue]; split <;> simp
@[simp] theorem handValue_tables (q : Quantity) (v : Int) (s : State) :
    (handValue q v s).tables = s.tables := by
  simp only [handValue]; split <;> simp

@[simp] theorem completeSlot_pending (p : Pass) (q : Quantity) (v : Int) (s : State) :
    (completeSlot p q v s).pending = s.pending := by
  simp only [completeSlot]; split <;> simp
@[simp] theorem completeSlot_heldInReset (p : Pass) (q : Quantity) (v : Int) (s : State) :
    (completeSlot p q v s).heldInReset = s.heldInReset := by
  simp only [completeSlot]; split <;> simp
@[simp] theorem completeSlot_link (p : Pass) (q : Quantity) (v : Int) (s : State) :
    (completeSlot p q v s).link = s.link := by
  simp only [completeSlot]; split <;> simp
@[simp] theorem completeSlot_record (p : Pass) (q : Quantity) (v : Int) (s : State) :
    (completeSlot p q v s).record = s.record := by
  simp only [completeSlot]; split <;> simp
@[simp] theorem completeSlot_steering (p : Pass) (q : Quantity) (v : Int) (s : State) :
    (completeSlot p q v s).steering = s.steering := by
  simp only [completeSlot]; split <;> simp
@[simp] theorem completeSlot_store (p : Pass) (q : Quantity) (v : Int) (s : State) :
    (completeSlot p q v s).store = s.store := by
  simp only [completeSlot]; split <;> simp
@[simp] theorem completeSlot_tables (p : Pass) (q : Quantity) (v : Int) (s : State) :
    (completeSlot p q v s).tables = s.tables := by
  simp only [completeSlot]; split <;> simp

@[simp] theorem conversionEnded_pending (v : SenseInputs) (s : State) :
    (conversionEnded v s).pending = s.pending := by
  simp only [conversionEnded]; repeat' split
  all_goals simp
@[simp] theorem conversionEnded_heldInReset (v : SenseInputs) (s : State) :
    (conversionEnded v s).heldInReset = s.heldInReset := by
  simp only [conversionEnded]; repeat' split
  all_goals simp
@[simp] theorem conversionEnded_link (v : SenseInputs) (s : State) :
    (conversionEnded v s).link = s.link := by
  simp only [conversionEnded]; repeat' split
  all_goals simp
@[simp] theorem conversionEnded_record (v : SenseInputs) (s : State) :
    (conversionEnded v s).record = s.record := by
  simp only [conversionEnded]; repeat' split
  all_goals simp
@[simp] theorem conversionEnded_steering (v : SenseInputs) (s : State) :
    (conversionEnded v s).steering = s.steering := by
  simp only [conversionEnded]; repeat' split
  all_goals simp
@[simp] theorem conversionEnded_store (v : SenseInputs) (s : State) :
    (conversionEnded v s).store = s.store := by
  simp only [conversionEnded]; repeat' split
  all_goals simp
@[simp] theorem conversionEnded_tables (v : SenseInputs) (s : State) :
    (conversionEnded v s).tables = s.tables := by
  simp only [conversionEnded]; repeat' split
  all_goals simp

@[simp] theorem wakeScanner_pending (s : State) :
    (wakeScanner s).pending = s.pending := by
  simp only [wakeScanner]; split <;> simp
@[simp] theorem wakeScanner_heldInReset (s : State) :
    (wakeScanner s).heldInReset = s.heldInReset := by
  simp only [wakeScanner]; split <;> simp
@[simp] theorem wakeScanner_link (s : State) :
    (wakeScanner s).link = s.link := by
  simp only [wakeScanner]; split <;> simp
@[simp] theorem wakeScanner_record (s : State) :
    (wakeScanner s).record = s.record := by
  simp only [wakeScanner]; split <;> simp
@[simp] theorem wakeScanner_steering (s : State) :
    (wakeScanner s).steering = s.steering := by
  simp only [wakeScanner]; split <;> simp
@[simp] theorem wakeScanner_drive (s : State) :
    (wakeScanner s).drive = s.drive := by
  simp only [wakeScanner]; split <;> simp
@[simp] theorem wakeScanner_winch (s : State) :
    (wakeScanner s).winch = s.winch := by
  simp only [wakeScanner]; split <;> simp
@[simp] theorem wakeScanner_lights (s : State) :
    (wakeScanner s).lights = s.lights := by
  simp only [wakeScanner]; split <;> simp
@[simp] theorem wakeScanner_protection (s : State) :
    (wakeScanner s).protection = s.protection := by
  simp only [wakeScanner]; split <;> simp
@[simp] theorem wakeScanner_budget (s : State) :
    (wakeScanner s).budget = s.budget := by
  simp only [wakeScanner]; split <;> simp
@[simp] theorem wakeScanner_inputs (s : State) :
    (wakeScanner s).inputs = s.inputs := by
  simp only [wakeScanner]; split <;> simp
@[simp] theorem wakeScanner_store (s : State) :
    (wakeScanner s).store = s.store := by
  simp only [wakeScanner]; split <;> simp
@[simp] theorem wakeScanner_tables (s : State) :
    (wakeScanner s).tables = s.tables := by
  simp only [wakeScanner]; split <;> simp

@[simp] theorem lineEvent_pending (n : Fin 4) (a : Bool) (s : State) :
    (lineEvent n a s).pending = s.pending := by simp [lineEvent]
@[simp] theorem lineEvent_heldInReset (n : Fin 4) (a : Bool) (s : State) :
    (lineEvent n a s).heldInReset = s.heldInReset := by simp [lineEvent]
@[simp] theorem lineEvent_link (n : Fin 4) (a : Bool) (s : State) :
    (lineEvent n a s).link = s.link := by simp [lineEvent]
@[simp] theorem lineEvent_record (n : Fin 4) (a : Bool) (s : State) :
    (lineEvent n a s).record = s.record := by simp [lineEvent]
@[simp] theorem lineEvent_steering (n : Fin 4) (a : Bool) (s : State) :
    (lineEvent n a s).steering = s.steering := by simp [lineEvent]
@[simp] theorem lineEvent_drive (n : Fin 4) (a : Bool) (s : State) :
    (lineEvent n a s).drive = s.drive := by simp [lineEvent]
@[simp] theorem lineEvent_scanner (n : Fin 4) (a : Bool) (s : State) :
    (lineEvent n a s).scanner = s.scanner := by simp [lineEvent]
@[simp] theorem lineEvent_protection (n : Fin 4) (a : Bool) (s : State) :
    (lineEvent n a s).protection = s.protection := by simp [lineEvent]
@[simp] theorem lineEvent_store (n : Fin 4) (a : Bool) (s : State) :
    (lineEvent n a s).store = s.store := by simp [lineEvent]
@[simp] theorem lineEvent_tables (n : Fin 4) (a : Bool) (s : State) :
    (lineEvent n a s).tables = s.tables := by simp [lineEvent]

@[simp] theorem takeSample_pending (v : Level) (n : Fin 4) (s : State) :
    (takeSample v n s).pending = s.pending := by
  simp only [takeSample]; split <;> simp
@[simp] theorem takeSample_heldInReset (v : Level) (n : Fin 4) (s : State) :
    (takeSample v n s).heldInReset = s.heldInReset := by
  simp only [takeSample]; split <;> simp
@[simp] theorem takeSample_link (v : Level) (n : Fin 4) (s : State) :
    (takeSample v n s).link = s.link := by
  simp only [takeSample]; split <;> simp
@[simp] theorem takeSample_record (v : Level) (n : Fin 4) (s : State) :
    (takeSample v n s).record = s.record := by
  simp only [takeSample]; split <;> simp
@[simp] theorem takeSample_steering (v : Level) (n : Fin 4) (s : State) :
    (takeSample v n s).steering = s.steering := by
  simp only [takeSample]; split <;> simp
@[simp] theorem takeSample_drive (v : Level) (n : Fin 4) (s : State) :
    (takeSample v n s).drive = s.drive := by
  simp only [takeSample]; split <;> simp
@[simp] theorem takeSample_scanner (v : Level) (n : Fin 4) (s : State) :
    (takeSample v n s).scanner = s.scanner := by
  simp only [takeSample]; split <;> simp
@[simp] theorem takeSample_protection (v : Level) (n : Fin 4) (s : State) :
    (takeSample v n s).protection = s.protection := by
  simp only [takeSample]; split <;> simp
@[simp] theorem takeSample_store (v : Level) (n : Fin 4) (s : State) :
    (takeSample v n s).store = s.store := by
  simp only [takeSample]; split <;> simp
@[simp] theorem takeSample_tables (v : Level) (n : Fin 4) (s : State) :
    (takeSample v n s).tables = s.tables := by
  simp only [takeSample]; split <;> simp

@[simp] theorem takeSamples_pending (v : Vector Level 4) (s : State) :
    (takeSamples v s).pending = s.pending := by
  simp [takeSamples, List.finRange_succ]
@[simp] theorem takeSamples_heldInReset (v : Vector Level 4) (s : State) :
    (takeSamples v s).heldInReset = s.heldInReset := by
  simp [takeSamples, List.finRange_succ]
@[simp] theorem takeSamples_link (v : Vector Level 4) (s : State) :
    (takeSamples v s).link = s.link := by
  simp [takeSamples, List.finRange_succ]
@[simp] theorem takeSamples_record (v : Vector Level 4) (s : State) :
    (takeSamples v s).record = s.record := by
  simp [takeSamples, List.finRange_succ]
@[simp] theorem takeSamples_steering (v : Vector Level 4) (s : State) :
    (takeSamples v s).steering = s.steering := by
  simp [takeSamples, List.finRange_succ]
@[simp] theorem takeSamples_drive (v : Vector Level 4) (s : State) :
    (takeSamples v s).drive = s.drive := by
  simp [takeSamples, List.finRange_succ]
@[simp] theorem takeSamples_scanner (v : Vector Level 4) (s : State) :
    (takeSamples v s).scanner = s.scanner := by
  simp [takeSamples, List.finRange_succ]
@[simp] theorem takeSamples_protection (v : Vector Level 4) (s : State) :
    (takeSamples v s).protection = s.protection := by
  simp [takeSamples, List.finRange_succ]
@[simp] theorem takeSamples_store (v : Vector Level 4) (s : State) :
    (takeSamples v s).store = s.store := by
  simp [takeSamples, List.finRange_succ]
@[simp] theorem takeSamples_tables (v : Vector Level 4) (s : State) :
    (takeSamples v s).tables = s.tables := by
  simp [takeSamples, List.finRange_succ]

@[simp] theorem lineRewritten_pending (l : Level) (n : Fin 4) (s : State) :
    (lineRewritten l n s).pending = s.pending := by
  simp only [lineRewritten]; split <;> simp
@[simp] theorem lineRewritten_heldInReset (l : Level) (n : Fin 4) (s : State) :
    (lineRewritten l n s).heldInReset = s.heldInReset := by
  simp only [lineRewritten]; split <;> simp
@[simp] theorem lineRewritten_link (l : Level) (n : Fin 4) (s : State) :
    (lineRewritten l n s).link = s.link := by
  simp only [lineRewritten]; split <;> simp
@[simp] theorem lineRewritten_record (l : Level) (n : Fin 4) (s : State) :
    (lineRewritten l n s).record = s.record := by
  simp only [lineRewritten]; split <;> simp
@[simp] theorem lineRewritten_steering (l : Level) (n : Fin 4) (s : State) :
    (lineRewritten l n s).steering = s.steering := by
  simp only [lineRewritten]; split <;> simp
@[simp] theorem lineRewritten_drive (l : Level) (n : Fin 4) (s : State) :
    (lineRewritten l n s).drive = s.drive := by
  simp only [lineRewritten]; split <;> simp
@[simp] theorem lineRewritten_scanner (l : Level) (n : Fin 4) (s : State) :
    (lineRewritten l n s).scanner = s.scanner := by
  simp only [lineRewritten]; split <;> simp
@[simp] theorem lineRewritten_protection (l : Level) (n : Fin 4) (s : State) :
    (lineRewritten l n s).protection = s.protection := by
  simp only [lineRewritten]; split <;> simp
@[simp] theorem lineRewritten_store (l : Level) (n : Fin 4) (s : State) :
    (lineRewritten l n s).store = s.store := by
  simp only [lineRewritten]; split <;> simp
@[simp] theorem lineRewritten_tables (l : Level) (n : Fin 4) (s : State) :
    (lineRewritten l n s).tables = s.tables := by
  simp only [lineRewritten]; split <;> simp

@[simp] theorem ownerWritten_pending (t : Tables) (id : TableId) (i : Nat) (s : State) :
    (ownerWritten t id i s).pending = s.pending := by
  cases id <;> simp only [ownerWritten] <;> (try split) <;> simp
@[simp] theorem ownerWritten_heldInReset (t : Tables) (id : TableId) (i : Nat) (s : State) :
    (ownerWritten t id i s).heldInReset = s.heldInReset := by
  cases id <;> simp only [ownerWritten] <;> (try split) <;> simp
@[simp] theorem ownerWritten_link (t : Tables) (id : TableId) (i : Nat) (s : State) :
    (ownerWritten t id i s).link = s.link := by
  cases id <;> simp only [ownerWritten] <;> (try split) <;> simp
@[simp] theorem ownerWritten_record (t : Tables) (id : TableId) (i : Nat) (s : State) :
    (ownerWritten t id i s).record = s.record := by
  cases id <;> simp only [ownerWritten] <;> (try split) <;> simp
@[simp] theorem ownerWritten_store (t : Tables) (id : TableId) (i : Nat) (s : State) :
    (ownerWritten t id i s).store = s.store := by
  cases id <;> simp only [ownerWritten] <;> (try split) <;> simp
@[simp] theorem ownerWritten_tables (t : Tables) (id : TableId) (i : Nat) (s : State) :
    (ownerWritten t id i s).tables = s.tables := by
  cases id <;> simp only [ownerWritten] <;> (try split) <;> simp

@[simp] theorem advanceTelemetry_pending (s : State) :
    (advanceTelemetry s).pending = s.pending := by
  simp only [advanceTelemetry]; split <;> [skip; split] <;> rfl
@[simp] theorem advanceTelemetry_heldInReset (s : State) :
    (advanceTelemetry s).heldInReset = s.heldInReset := by
  simp only [advanceTelemetry]; split <;> [skip; split] <;> rfl
@[simp] theorem advanceTelemetry_record (s : State) :
    (advanceTelemetry s).record = s.record := by
  simp only [advanceTelemetry]; split <;> [skip; split] <;> rfl
@[simp] theorem advanceTelemetry_steering (s : State) :
    (advanceTelemetry s).steering = s.steering := by
  simp only [advanceTelemetry]; split <;> [skip; split] <;> rfl
@[simp] theorem advanceTelemetry_drive (s : State) :
    (advanceTelemetry s).drive = s.drive := by
  simp only [advanceTelemetry]; split <;> [skip; split] <;> rfl
@[simp] theorem advanceTelemetry_winch (s : State) :
    (advanceTelemetry s).winch = s.winch := by
  simp only [advanceTelemetry]; split <;> [skip; split] <;> rfl
@[simp] theorem advanceTelemetry_lights (s : State) :
    (advanceTelemetry s).lights = s.lights := by
  simp only [advanceTelemetry]; split <;> [skip; split] <;> rfl
@[simp] theorem advanceTelemetry_scanner (s : State) :
    (advanceTelemetry s).scanner = s.scanner := by
  simp only [advanceTelemetry]; split <;> [skip; split] <;> rfl
@[simp] theorem advanceTelemetry_protection (s : State) :
    (advanceTelemetry s).protection = s.protection := by
  simp only [advanceTelemetry]; split <;> [skip; split] <;> rfl
@[simp] theorem advanceTelemetry_budget (s : State) :
    (advanceTelemetry s).budget = s.budget := by
  simp only [advanceTelemetry]; split <;> [skip; split] <;> rfl
@[simp] theorem advanceTelemetry_inputs (s : State) :
    (advanceTelemetry s).inputs = s.inputs := by
  simp only [advanceTelemetry]; split <;> [skip; split] <;> rfl
@[simp] theorem advanceTelemetry_store (s : State) :
    (advanceTelemetry s).store = s.store := by
  simp only [advanceTelemetry]; split <;> [skip; split] <;> rfl
@[simp] theorem advanceTelemetry_tables (s : State) :
    (advanceTelemetry s).tables = s.tables := by
  simp only [advanceTelemetry]; split <;> [skip; split] <;> rfl

@[simp] theorem decideTelemetry_pending (p : List Byte) (s : State) :
    (decideTelemetry p s).pending = s.pending := by
  simp only [decideTelemetry]; split <;> rfl
@[simp] theorem decideTelemetry_heldInReset (p : List Byte) (s : State) :
    (decideTelemetry p s).heldInReset = s.heldInReset := by
  simp only [decideTelemetry]; split <;> rfl
@[simp] theorem decideTelemetry_record (p : List Byte) (s : State) :
    (decideTelemetry p s).record = s.record := by
  simp only [decideTelemetry]; split <;> rfl
@[simp] theorem decideTelemetry_steering (p : List Byte) (s : State) :
    (decideTelemetry p s).steering = s.steering := by
  simp only [decideTelemetry]; split <;> rfl
@[simp] theorem decideTelemetry_drive (p : List Byte) (s : State) :
    (decideTelemetry p s).drive = s.drive := by
  simp only [decideTelemetry]; split <;> rfl
@[simp] theorem decideTelemetry_winch (p : List Byte) (s : State) :
    (decideTelemetry p s).winch = s.winch := by
  simp only [decideTelemetry]; split <;> rfl
@[simp] theorem decideTelemetry_lights (p : List Byte) (s : State) :
    (decideTelemetry p s).lights = s.lights := by
  simp only [decideTelemetry]; split <;> rfl
@[simp] theorem decideTelemetry_scanner (p : List Byte) (s : State) :
    (decideTelemetry p s).scanner = s.scanner := by
  simp only [decideTelemetry]; split <;> rfl
@[simp] theorem decideTelemetry_protection (p : List Byte) (s : State) :
    (decideTelemetry p s).protection = s.protection := by
  simp only [decideTelemetry]; split <;> rfl
@[simp] theorem decideTelemetry_budget (p : List Byte) (s : State) :
    (decideTelemetry p s).budget = s.budget := by
  simp only [decideTelemetry]; split <;> rfl
@[simp] theorem decideTelemetry_inputs (p : List Byte) (s : State) :
    (decideTelemetry p s).inputs = s.inputs := by
  simp only [decideTelemetry]; split <;> rfl
@[simp] theorem decideTelemetry_store (p : List Byte) (s : State) :
    (decideTelemetry p s).store = s.store := by
  simp only [decideTelemetry]; split <;> rfl
@[simp] theorem decideTelemetry_tables (p : List Byte) (s : State) :
    (decideTelemetry p s).tables = s.tables := by
  simp only [decideTelemetry]; split <;> rfl

@[simp] theorem neutralCheck_pending (p : List Byte) (s : State) :
    (neutralCheck p s).pending = s.pending := by
  simp only [neutralCheck]; split <;> [skip; split] <;> simp
@[simp] theorem neutralCheck_heldInReset (p : List Byte) (s : State) :
    (neutralCheck p s).heldInReset = s.heldInReset := by
  simp only [neutralCheck]; split <;> [skip; split] <;> simp
@[simp] theorem neutralCheck_record (p : List Byte) (s : State) :
    (neutralCheck p s).record = s.record := by
  simp only [neutralCheck]; split <;> [skip; split] <;> simp
@[simp] theorem neutralCheck_steering (p : List Byte) (s : State) :
    (neutralCheck p s).steering = s.steering := by
  simp only [neutralCheck]; split <;> [skip; split] <;> simp
@[simp] theorem neutralCheck_scanner (p : List Byte) (s : State) :
    (neutralCheck p s).scanner = s.scanner := by
  simp only [neutralCheck]; split <;> [skip; split] <;> simp
@[simp] theorem neutralCheck_protection (p : List Byte) (s : State) :
    (neutralCheck p s).protection = s.protection := by
  simp only [neutralCheck]; split <;> [skip; split] <;> simp
@[simp] theorem neutralCheck_store (p : List Byte) (s : State) :
    (neutralCheck p s).store = s.store := by
  simp only [neutralCheck]; split <;> [skip; split] <;> simp
@[simp] theorem neutralCheck_tables (p : List Byte) (s : State) :
    (neutralCheck p s).tables = s.tables := by
  simp only [neutralCheck]; split <;> [skip; split] <;> simp

@[simp] theorem countRecovery_pending (s : State) :
    (countRecovery s).pending = s.pending := by
  simp only [countRecovery]; split <;> simp
@[simp] theorem countRecovery_heldInReset (s : State) :
    (countRecovery s).heldInReset = s.heldInReset := by
  simp only [countRecovery]; split <;> simp
@[simp] theorem countRecovery_record (s : State) :
    (countRecovery s).record = s.record := by
  simp only [countRecovery]; split <;> simp
@[simp] theorem countRecovery_steering (s : State) :
    (countRecovery s).steering = s.steering := by
  simp only [countRecovery]; split <;> simp
@[simp] theorem countRecovery_scanner (s : State) :
    (countRecovery s).scanner = s.scanner := by
  simp only [countRecovery]; split <;> simp
@[simp] theorem countRecovery_protection (s : State) :
    (countRecovery s).protection = s.protection := by
  simp only [countRecovery]; split <;> simp
@[simp] theorem countRecovery_store (s : State) :
    (countRecovery s).store = s.store := by
  simp only [countRecovery]; split <;> simp
@[simp] theorem countRecovery_tables (s : State) :
    (countRecovery s).tables = s.tables := by
  simp only [countRecovery]; split <;> simp

@[simp] theorem channelsHandled_pending (p : List Byte) (s : State) :
    (channelsHandled p s).pending = s.pending := by
  simp only [channelsHandled]; split <;> (try split) <;> simp
@[simp] theorem channelsHandled_heldInReset (p : List Byte) (s : State) :
    (channelsHandled p s).heldInReset = s.heldInReset := by
  simp only [channelsHandled]; split <;> (try split) <;> simp
@[simp] theorem channelsHandled_scanner (p : List Byte) (s : State) :
    (channelsHandled p s).scanner = s.scanner := by
  simp only [channelsHandled]; split <;> (try split) <;> simp
@[simp] theorem channelsHandled_protection (p : List Byte) (s : State) :
    (channelsHandled p s).protection = s.protection := by
  simp only [channelsHandled]; split <;> (try split) <;> simp
@[simp] theorem channelsHandled_store (p : List Byte) (s : State) :
    (channelsHandled p s).store = s.store := by
  simp only [channelsHandled]; split <;> (try split) <;> simp
@[simp] theorem channelsHandled_tables (p : List Byte) (s : State) :
    (channelsHandled p s).tables = s.tables := by
  simp only [channelsHandled]; split <;> (try split) <;> simp

@[simp] theorem channelsFrame_pending (p : List Byte) (s : State) :
    (channelsFrame p s).pending = s.pending := by
  simp only [channelsFrame]; split <;> [skip; split] <;> simp
@[simp] theorem channelsFrame_heldInReset (p : List Byte) (s : State) :
    (channelsFrame p s).heldInReset = s.heldInReset := by
  simp only [channelsFrame]; split <;> [skip; split] <;> simp
@[simp] theorem channelsFrame_scanner (p : List Byte) (s : State) :
    (channelsFrame p s).scanner = s.scanner := by
  simp only [channelsFrame]; split <;> [skip; split] <;> simp
@[simp] theorem channelsFrame_protection (p : List Byte) (s : State) :
    (channelsFrame p s).protection = s.protection := by
  simp only [channelsFrame]; split <;> [skip; split] <;> simp
@[simp] theorem channelsFrame_store (p : List Byte) (s : State) :
    (channelsFrame p s).store = s.store := by
  simp only [channelsFrame]; split <;> [skip; split] <;> simp
@[simp] theorem channelsFrame_tables (p : List Byte) (s : State) :
    (channelsFrame p s).tables = s.tables := by
  simp only [channelsFrame]; split <;> [skip; split] <;> simp

@[simp] theorem telemetrySent_pending (c : ReplyContent) (s : State) :
    (telemetrySent c s).pending = s.pending := by
  simp only [telemetrySent]; split <;> rfl
@[simp] theorem telemetrySent_heldInReset (c : ReplyContent) (s : State) :
    (telemetrySent c s).heldInReset = s.heldInReset := by
  simp only [telemetrySent]; split <;> rfl
@[simp] theorem telemetrySent_record (c : ReplyContent) (s : State) :
    (telemetrySent c s).record = s.record := by
  simp only [telemetrySent]; split <;> rfl
@[simp] theorem telemetrySent_steering (c : ReplyContent) (s : State) :
    (telemetrySent c s).steering = s.steering := by
  simp only [telemetrySent]; split <;> rfl
@[simp] theorem telemetrySent_drive (c : ReplyContent) (s : State) :
    (telemetrySent c s).drive = s.drive := by
  simp only [telemetrySent]; split <;> rfl
@[simp] theorem telemetrySent_winch (c : ReplyContent) (s : State) :
    (telemetrySent c s).winch = s.winch := by
  simp only [telemetrySent]; split <;> rfl
@[simp] theorem telemetrySent_lights (c : ReplyContent) (s : State) :
    (telemetrySent c s).lights = s.lights := by
  simp only [telemetrySent]; split <;> rfl
@[simp] theorem telemetrySent_scanner (c : ReplyContent) (s : State) :
    (telemetrySent c s).scanner = s.scanner := by
  simp only [telemetrySent]; split <;> rfl
@[simp] theorem telemetrySent_protection (c : ReplyContent) (s : State) :
    (telemetrySent c s).protection = s.protection := by
  simp only [telemetrySent]; split <;> rfl
@[simp] theorem telemetrySent_budget (c : ReplyContent) (s : State) :
    (telemetrySent c s).budget = s.budget := by
  simp only [telemetrySent]; split <;> rfl
@[simp] theorem telemetrySent_inputs (c : ReplyContent) (s : State) :
    (telemetrySent c s).inputs = s.inputs := by
  simp only [telemetrySent]; split <;> rfl
@[simp] theorem telemetrySent_store (c : ReplyContent) (s : State) :
    (telemetrySent c s).store = s.store := by
  simp only [telemetrySent]; split <;> rfl
@[simp] theorem telemetrySent_tables (c : ReplyContent) (s : State) :
    (telemetrySent c s).tables = s.tables := by
  simp only [telemetrySent]; split <;> rfl

@[simp] theorem evaluateEnterSetup_pending (s : State) :
    (evaluateEnterSetup s).pending = s.pending := by
  simp only [evaluateEnterSetup]; split <;> simp
@[simp] theorem evaluateEnterSetup_heldInReset (s : State) :
    (evaluateEnterSetup s).heldInReset = s.heldInReset := by
  simp only [evaluateEnterSetup]; split <;> simp
@[simp] theorem evaluateEnterSetup_record (s : State) :
    (evaluateEnterSetup s).record = s.record := by
  simp only [evaluateEnterSetup]; split <;> simp
@[simp] theorem evaluateEnterSetup_steering (s : State) :
    (evaluateEnterSetup s).steering = s.steering := by
  simp only [evaluateEnterSetup]; split <;> simp
@[simp] theorem evaluateEnterSetup_scanner (s : State) :
    (evaluateEnterSetup s).scanner = s.scanner := by
  simp only [evaluateEnterSetup]; split <;> simp
@[simp] theorem evaluateEnterSetup_protection (s : State) :
    (evaluateEnterSetup s).protection = s.protection := by
  simp only [evaluateEnterSetup]; split <;> simp
@[simp] theorem evaluateEnterSetup_store (s : State) :
    (evaluateEnterSetup s).store = s.store := by
  simp only [evaluateEnterSetup]; split <;> simp
@[simp] theorem evaluateEnterSetup_tables (s : State) :
    (evaluateEnterSetup s).tables = s.tables := by
  simp only [evaluateEnterSetup]; split <;> simp

@[simp] theorem startReply_pending (s : State) :
    (startReply s).pending = s.pending := by
  simp only [startReply]; split <;> simp
@[simp] theorem startReply_heldInReset (s : State) :
    (startReply s).heldInReset = s.heldInReset := by
  simp only [startReply]; split <;> simp
@[simp] theorem startReply_record (s : State) :
    (startReply s).record = s.record := by
  simp only [startReply]; split <;> simp
@[simp] theorem startReply_steering (s : State) :
    (startReply s).steering = s.steering := by
  simp only [startReply]; split <;> simp
@[simp] theorem startReply_drive (s : State) :
    (startReply s).drive = s.drive := by
  simp only [startReply]; split <;> simp
@[simp] theorem startReply_winch (s : State) :
    (startReply s).winch = s.winch := by
  simp only [startReply]; split <;> simp
@[simp] theorem startReply_lights (s : State) :
    (startReply s).lights = s.lights := by
  simp only [startReply]; split <;> simp
@[simp] theorem startReply_scanner (s : State) :
    (startReply s).scanner = s.scanner := by
  simp only [startReply]; split <;> simp
@[simp] theorem startReply_protection (s : State) :
    (startReply s).protection = s.protection := by
  simp only [startReply]; split <;> simp
@[simp] theorem startReply_budget (s : State) :
    (startReply s).budget = s.budget := by
  simp only [startReply]; split <;> simp
@[simp] theorem startReply_inputs (s : State) :
    (startReply s).inputs = s.inputs := by
  simp only [startReply]; split <;> simp
@[simp] theorem startReply_store (s : State) :
    (startReply s).store = s.store := by
  simp only [startReply]; split <;> simp
@[simp] theorem startReply_tables (s : State) :
    (startReply s).tables = s.tables := by
  simp only [startReply]; split <;> simp

@[simp] theorem gapExpired_pending (s : State) :
    (gapExpired s).pending = s.pending := by
  simp only [gapExpired]; split <;> simp
@[simp] theorem gapExpired_heldInReset (s : State) :
    (gapExpired s).heldInReset = s.heldInReset := by
  simp only [gapExpired]; split <;> simp
@[simp] theorem gapExpired_record (s : State) :
    (gapExpired s).record = s.record := by
  simp only [gapExpired]; split <;> simp
@[simp] theorem gapExpired_steering (s : State) :
    (gapExpired s).steering = s.steering := by
  simp only [gapExpired]; split <;> simp
@[simp] theorem gapExpired_drive (s : State) :
    (gapExpired s).drive = s.drive := by
  simp only [gapExpired]; split <;> simp
@[simp] theorem gapExpired_winch (s : State) :
    (gapExpired s).winch = s.winch := by
  simp only [gapExpired]; split <;> simp
@[simp] theorem gapExpired_lights (s : State) :
    (gapExpired s).lights = s.lights := by
  simp only [gapExpired]; split <;> simp
@[simp] theorem gapExpired_scanner (s : State) :
    (gapExpired s).scanner = s.scanner := by
  simp only [gapExpired]; split <;> simp
@[simp] theorem gapExpired_protection (s : State) :
    (gapExpired s).protection = s.protection := by
  simp only [gapExpired]; split <;> simp
@[simp] theorem gapExpired_budget (s : State) :
    (gapExpired s).budget = s.budget := by
  simp only [gapExpired]; split <;> simp
@[simp] theorem gapExpired_inputs (s : State) :
    (gapExpired s).inputs = s.inputs := by
  simp only [gapExpired]; split <;> simp
@[simp] theorem gapExpired_store (s : State) :
    (gapExpired s).store = s.store := by
  simp only [gapExpired]; split <;> simp
@[simp] theorem gapExpired_tables (s : State) :
    (gapExpired s).tables = s.tables := by
  simp only [gapExpired]; split <;> simp

@[simp] theorem steeringTakesPeriod_pending (s : State) :
    (steeringTakesPeriod s).pending = s.pending := by simp [steeringTakesPeriod]
@[simp] theorem steeringTakesPeriod_heldInReset (s : State) :
    (steeringTakesPeriod s).heldInReset = s.heldInReset := by simp [steeringTakesPeriod]
@[simp] theorem steeringTakesPeriod_link (s : State) :
    (steeringTakesPeriod s).link = s.link := by simp [steeringTakesPeriod]
@[simp] theorem steeringTakesPeriod_record (s : State) :
    (steeringTakesPeriod s).record = s.record := by simp [steeringTakesPeriod]
@[simp] theorem steeringTakesPeriod_drive (s : State) :
    (steeringTakesPeriod s).drive = s.drive := by simp [steeringTakesPeriod]
@[simp] theorem steeringTakesPeriod_winch (s : State) :
    (steeringTakesPeriod s).winch = s.winch := by simp [steeringTakesPeriod]
@[simp] theorem steeringTakesPeriod_scanner (s : State) :
    (steeringTakesPeriod s).scanner = s.scanner := by simp [steeringTakesPeriod]
@[simp] theorem steeringTakesPeriod_protection (s : State) :
    (steeringTakesPeriod s).protection = s.protection := by simp [steeringTakesPeriod]
@[simp] theorem steeringTakesPeriod_inputs (s : State) :
    (steeringTakesPeriod s).inputs = s.inputs := by simp [steeringTakesPeriod]
@[simp] theorem steeringTakesPeriod_store (s : State) :
    (steeringTakesPeriod s).store = s.store := by simp [steeringTakesPeriod]
@[simp] theorem steeringTakesPeriod_tables (s : State) :
    (steeringTakesPeriod s).tables = s.tables := by simp [steeringTakesPeriod]

@[simp] theorem driveTakesPeriod_pending (s : State) :
    (driveTakesPeriod s).pending = s.pending := by
  simp only [driveTakesPeriod]; split <;> simp
@[simp] theorem driveTakesPeriod_heldInReset (s : State) :
    (driveTakesPeriod s).heldInReset = s.heldInReset := by
  simp only [driveTakesPeriod]; split <;> simp
@[simp] theorem driveTakesPeriod_link (s : State) :
    (driveTakesPeriod s).link = s.link := by
  simp only [driveTakesPeriod]; split <;> simp
@[simp] theorem driveTakesPeriod_record (s : State) :
    (driveTakesPeriod s).record = s.record := by
  simp only [driveTakesPeriod]; split <;> simp
@[simp] theorem driveTakesPeriod_steering (s : State) :
    (driveTakesPeriod s).steering = s.steering := by
  simp only [driveTakesPeriod]; split <;> simp
@[simp] theorem driveTakesPeriod_winch (s : State) :
    (driveTakesPeriod s).winch = s.winch := by
  simp only [driveTakesPeriod]; split <;> simp
@[simp] theorem driveTakesPeriod_scanner (s : State) :
    (driveTakesPeriod s).scanner = s.scanner := by
  simp only [driveTakesPeriod]; split <;> simp
@[simp] theorem driveTakesPeriod_protection (s : State) :
    (driveTakesPeriod s).protection = s.protection := by
  simp only [driveTakesPeriod]; split <;> simp
@[simp] theorem driveTakesPeriod_inputs (s : State) :
    (driveTakesPeriod s).inputs = s.inputs := by
  simp only [driveTakesPeriod]; split <;> simp
@[simp] theorem driveTakesPeriod_store (s : State) :
    (driveTakesPeriod s).store = s.store := by
  simp only [driveTakesPeriod]; split <;> simp
@[simp] theorem driveTakesPeriod_tables (s : State) :
    (driveTakesPeriod s).tables = s.tables := by
  simp only [driveTakesPeriod]; split <;> simp

@[simp] theorem servoPeriodStarted_pending (s : State) :
    (servoPeriodStarted s).pending = s.pending := by simp [servoPeriodStarted]
@[simp] theorem servoPeriodStarted_heldInReset (s : State) :
    (servoPeriodStarted s).heldInReset = s.heldInReset := by simp [servoPeriodStarted]
@[simp] theorem servoPeriodStarted_link (s : State) :
    (servoPeriodStarted s).link = s.link := by simp [servoPeriodStarted]
@[simp] theorem servoPeriodStarted_record (s : State) :
    (servoPeriodStarted s).record = s.record := by simp [servoPeriodStarted]
@[simp] theorem servoPeriodStarted_winch (s : State) :
    (servoPeriodStarted s).winch = s.winch := by simp [servoPeriodStarted]
@[simp] theorem servoPeriodStarted_scanner (s : State) :
    (servoPeriodStarted s).scanner = s.scanner := by simp [servoPeriodStarted]
@[simp] theorem servoPeriodStarted_protection (s : State) :
    (servoPeriodStarted s).protection = s.protection := by simp [servoPeriodStarted]
@[simp] theorem servoPeriodStarted_inputs (s : State) :
    (servoPeriodStarted s).inputs = s.inputs := by simp [servoPeriodStarted]
@[simp] theorem servoPeriodStarted_store (s : State) :
    (servoPeriodStarted s).store = s.store := by simp [servoPeriodStarted]
@[simp] theorem servoPeriodStarted_tables (s : State) :
    (servoPeriodStarted s).tables = s.tables := by simp [servoPeriodStarted]

@[simp] theorem brakingExpired_pending (s : State) :
    (brakingExpired s).pending = s.pending := by simp [brakingExpired]
@[simp] theorem brakingExpired_heldInReset (s : State) :
    (brakingExpired s).heldInReset = s.heldInReset := by simp [brakingExpired]
@[simp] theorem brakingExpired_link (s : State) :
    (brakingExpired s).link = s.link := by simp [brakingExpired]
@[simp] theorem brakingExpired_record (s : State) :
    (brakingExpired s).record = s.record := by simp [brakingExpired]
@[simp] theorem brakingExpired_steering (s : State) :
    (brakingExpired s).steering = s.steering := by simp [brakingExpired]
@[simp] theorem brakingExpired_winch (s : State) :
    (brakingExpired s).winch = s.winch := by simp [brakingExpired]
@[simp] theorem brakingExpired_scanner (s : State) :
    (brakingExpired s).scanner = s.scanner := by simp [brakingExpired]
@[simp] theorem brakingExpired_protection (s : State) :
    (brakingExpired s).protection = s.protection := by simp [brakingExpired]
@[simp] theorem brakingExpired_inputs (s : State) :
    (brakingExpired s).inputs = s.inputs := by simp [brakingExpired]
@[simp] theorem brakingExpired_store (s : State) :
    (brakingExpired s).store = s.store := by simp [brakingExpired]
@[simp] theorem brakingExpired_tables (s : State) :
    (brakingExpired s).tables = s.tables := by simp [brakingExpired]

@[simp] theorem driveLoaded_pending (s : State) :
    (driveLoaded s).pending = s.pending := by simp [driveLoaded]
@[simp] theorem driveLoaded_heldInReset (s : State) :
    (driveLoaded s).heldInReset = s.heldInReset := by simp [driveLoaded]
@[simp] theorem driveLoaded_link (s : State) :
    (driveLoaded s).link = s.link := by simp [driveLoaded]
@[simp] theorem driveLoaded_record (s : State) :
    (driveLoaded s).record = s.record := by simp [driveLoaded]
@[simp] theorem driveLoaded_steering (s : State) :
    (driveLoaded s).steering = s.steering := by simp [driveLoaded]
@[simp] theorem driveLoaded_winch (s : State) :
    (driveLoaded s).winch = s.winch := by simp [driveLoaded]
@[simp] theorem driveLoaded_scanner (s : State) :
    (driveLoaded s).scanner = s.scanner := by simp [driveLoaded]
@[simp] theorem driveLoaded_protection (s : State) :
    (driveLoaded s).protection = s.protection := by simp [driveLoaded]
@[simp] theorem driveLoaded_inputs (s : State) :
    (driveLoaded s).inputs = s.inputs := by simp [driveLoaded]
@[simp] theorem driveLoaded_store (s : State) :
    (driveLoaded s).store = s.store := by simp [driveLoaded]
@[simp] theorem driveLoaded_tables (s : State) :
    (driveLoaded s).tables = s.tables := by simp [driveLoaded]

@[simp] theorem loadTables_pending (s : State) :
    (loadTables s).pending = s.pending := by
  simp only [loadTables]; split <;> simp
@[simp] theorem loadTables_heldInReset (s : State) :
    (loadTables s).heldInReset = s.heldInReset := by
  simp only [loadTables]; split <;> simp
@[simp] theorem loadTables_link (s : State) :
    (loadTables s).link = s.link := by
  simp only [loadTables]; split <;> simp
@[simp] theorem loadTables_record (s : State) :
    (loadTables s).record = s.record := by
  simp only [loadTables]; split <;> simp
@[simp] theorem loadTables_steering (s : State) :
    (loadTables s).steering = s.steering := by
  simp only [loadTables]; split <;> simp
@[simp] theorem loadTables_drive (s : State) :
    (loadTables s).drive = s.drive := by
  simp only [loadTables]; split <;> simp
@[simp] theorem loadTables_winch (s : State) :
    (loadTables s).winch = s.winch := by
  simp only [loadTables]; split <;> simp
@[simp] theorem loadTables_lights (s : State) :
    (loadTables s).lights = s.lights := by
  simp only [loadTables]; split <;> simp
@[simp] theorem loadTables_scanner (s : State) :
    (loadTables s).scanner = s.scanner := by
  simp only [loadTables]; split <;> simp
@[simp] theorem loadTables_protection (s : State) :
    (loadTables s).protection = s.protection := by
  simp only [loadTables]; split <;> simp
@[simp] theorem loadTables_budget (s : State) :
    (loadTables s).budget = s.budget := by
  simp only [loadTables]; split <;> simp

@[simp] theorem loadCompleted_pending (v : Vector Level 4) (a b : Level) (s : State) :
    (loadCompleted v a b s).pending = s.pending := by simp [loadCompleted]
@[simp] theorem loadCompleted_heldInReset (v : Vector Level 4) (a b : Level) (s : State) :
    (loadCompleted v a b s).heldInReset = s.heldInReset := by simp [loadCompleted]
@[simp] theorem loadCompleted_record (v : Vector Level 4) (a b : Level) (s : State) :
    (loadCompleted v a b s).record = s.record := by simp [loadCompleted]

@[simp] theorem holdExpired_pending (s : State) :
    (holdExpired s).pending = s.pending := by
  simp only [holdExpired]; split <;> simp
@[simp] theorem holdExpired_heldInReset (s : State) :
    (holdExpired s).heldInReset = s.heldInReset := by
  simp only [holdExpired]; split <;> simp
@[simp] theorem holdExpired_scanner (s : State) :
    (holdExpired s).scanner = s.scanner := by
  simp only [holdExpired]; split <;> simp
@[simp] theorem holdExpired_protection (s : State) :
    (holdExpired s).protection = s.protection := by
  simp only [holdExpired]; split <;> simp
@[simp] theorem holdExpired_store (s : State) :
    (holdExpired s).store = s.store := by
  simp only [holdExpired]; split <;> simp
@[simp] theorem holdExpired_tables (s : State) :
    (holdExpired s).tables = s.tables := by
  simp only [holdExpired]; split <;> simp

@[simp] theorem eraseEnded_pending (s : State) :
    (eraseEnded s).pending = s.pending := by
  simp only [eraseEnded]; split <;> simp
@[simp] theorem eraseEnded_heldInReset (s : State) :
    (eraseEnded s).heldInReset = s.heldInReset := by
  simp only [eraseEnded]; split <;> simp
@[simp] theorem eraseEnded_link (s : State) :
    (eraseEnded s).link = s.link := by
  simp only [eraseEnded]; split <;> simp
@[simp] theorem eraseEnded_record (s : State) :
    (eraseEnded s).record = s.record := by
  simp only [eraseEnded]; split <;> simp
@[simp] theorem eraseEnded_steering (s : State) :
    (eraseEnded s).steering = s.steering := by
  simp only [eraseEnded]; split <;> simp
@[simp] theorem eraseEnded_drive (s : State) :
    (eraseEnded s).drive = s.drive := by
  simp only [eraseEnded]; split <;> simp
@[simp] theorem eraseEnded_winch (s : State) :
    (eraseEnded s).winch = s.winch := by
  simp only [eraseEnded]; split <;> simp
@[simp] theorem eraseEnded_lights (s : State) :
    (eraseEnded s).lights = s.lights := by
  simp only [eraseEnded]; split <;> simp
@[simp] theorem eraseEnded_scanner (s : State) :
    (eraseEnded s).scanner = s.scanner := by
  simp only [eraseEnded]; split <;> simp
@[simp] theorem eraseEnded_protection (s : State) :
    (eraseEnded s).protection = s.protection := by
  simp only [eraseEnded]; split <;> simp
@[simp] theorem eraseEnded_budget (s : State) :
    (eraseEnded s).budget = s.budget := by
  simp only [eraseEnded]; split <;> simp
@[simp] theorem eraseEnded_inputs (s : State) :
    (eraseEnded s).inputs = s.inputs := by
  simp only [eraseEnded]; split <;> simp
@[simp] theorem eraseEnded_tables (s : State) :
    (eraseEnded s).tables = s.tables := by
  simp only [eraseEnded]; split <;> simp

@[simp] theorem programmingEnded_pending (v : Verify) (s : State) :
    (programmingEnded v s).pending = s.pending := by
  simp only [programmingEnded]; split <;> simp
@[simp] theorem programmingEnded_heldInReset (v : Verify) (s : State) :
    (programmingEnded v s).heldInReset = s.heldInReset := by
  simp only [programmingEnded]; split <;> simp
@[simp] theorem programmingEnded_link (v : Verify) (s : State) :
    (programmingEnded v s).link = s.link := by
  simp only [programmingEnded]; split <;> simp
@[simp] theorem programmingEnded_record (v : Verify) (s : State) :
    (programmingEnded v s).record = s.record := by
  simp only [programmingEnded]; split <;> simp
@[simp] theorem programmingEnded_steering (v : Verify) (s : State) :
    (programmingEnded v s).steering = s.steering := by
  simp only [programmingEnded]; split <;> simp
@[simp] theorem programmingEnded_drive (v : Verify) (s : State) :
    (programmingEnded v s).drive = s.drive := by
  simp only [programmingEnded]; split <;> simp
@[simp] theorem programmingEnded_winch (v : Verify) (s : State) :
    (programmingEnded v s).winch = s.winch := by
  simp only [programmingEnded]; split <;> simp
@[simp] theorem programmingEnded_lights (v : Verify) (s : State) :
    (programmingEnded v s).lights = s.lights := by
  simp only [programmingEnded]; split <;> simp
@[simp] theorem programmingEnded_scanner (v : Verify) (s : State) :
    (programmingEnded v s).scanner = s.scanner := by
  simp only [programmingEnded]; split <;> simp
@[simp] theorem programmingEnded_protection (v : Verify) (s : State) :
    (programmingEnded v s).protection = s.protection := by
  simp only [programmingEnded]; split <;> simp
@[simp] theorem programmingEnded_budget (v : Verify) (s : State) :
    (programmingEnded v s).budget = s.budget := by
  simp only [programmingEnded]; split <;> simp
@[simp] theorem programmingEnded_tables (v : Verify) (s : State) :
    (programmingEnded v s).tables = s.tables := by
  simp only [programmingEnded]; split <;> simp

/-! ## What the operations set -/

@[simp] theorem lightEvents_nil (s : State) : lightEvents [] s = s := rfl
@[simp] theorem lightEvents_cons (m : LightMsg) (ms : List LightMsg) (s : State) :
    lightEvents (m :: ms) s = lightEvents ms (lightEvent m s) := rfl
@[simp] theorem putSteering_steering (x : Steering) (s : State) : (putSteering x s).steering = x := by
  simp [putSteering]
@[simp] theorem putDrive_drive (x : Drive) (s : State) : (putDrive x s).drive = x := by simp [putDrive]
@[simp] theorem putWinch_winch (x : WinchStep) (s : State) : (putWinch x s).winch = x.winch := by
  simp [putWinch]
@[simp] theorem onWinchEvent_winch (f : WinchContext → Winch → WinchStep) (s : State) :
    (onWinchEvent f s).winch = (f (winchContext s) s.winch).winch := by simp [onWinchEvent]
@[simp] theorem deliverRun_link (n : RunState) (s : State) :
    (deliverRun n s).link = { s.link with run := n } := by simp [deliverRun]
@[simp] theorem deliverProtection_protection (p : Protection) (s : State) :
    (deliverProtection p s).protection = p := by simp [deliverProtection]
@[simp] theorem functionUpdate_record (r : FunctionRecord) (s : State) : (functionUpdate r s).record = r := by
  simp [functionUpdate]
@[simp] theorem functionUpdate_steering (r : FunctionRecord) (s : State) :
    (functionUpdate r s).steering = steeringUpdate s.tables r s.steering := by
  simp [functionUpdate, steeringTakesUpdate]
theorem enterFailsafe_link (s : State) :
    (enterFailsafe s).link =
      { s.link with
        run := .failsafe, recovery := 0, hold := startTimer s.tables.link.holdTime s.link.hold } := by
  simp [enterFailsafe]

end Sys2Proof.Machine
end

