-- ==== Sys2Proof/Laws/Ops.lean ====
section
/-! SUPPORT. One lemma for each shared operation that says what it does, to be cited in place of its unfolding:
arithmetic, fields of bytes, claims, flags, level sources, scanner slots, the CRC, and the line. -/

namespace Sys2Proof.Machine

/-! ## Tables of values -/

@[simp] theorem tab_get {α : Type} {n : Nat} (f : Fin n → α) (i : Fin n) : (tab f)[i] = f i := by simp [tab]

theorem tab_getElem {α : Type} {n : Nat} (f : Fin n → α) (i : Nat) (h : i < n) : (tab f)[i] = f ⟨i, h⟩ := by
  simp [tab]

/-! ## Arithmetic (R1, R139) -/

theorem clampTo_bounds {lo hi : Int} (h : lo ≤ hi) (v : Int) : lo ≤ clampTo lo hi v ∧ clampTo lo hi v ≤ hi := by
  unfold clampTo; omega

theorem clampTo_of_between {lo hi v : Int} (h₁ : lo ≤ v) (h₂ : v ≤ hi) : clampTo lo hi v = v := by
  unfold clampTo; omega

theorem quantityRange_ordered (q : Quantity) : (quantityRange q).1 ≤ (quantityRange q).2 := by cases q <;> decide

theorem saturate_bounds (q : Quantity) (v : Int) :
    (quantityRange q).1 ≤ saturate q v ∧ saturate q v ≤ (quantityRange q).2 :=
  clampTo_bounds (quantityRange_ordered q) v

theorem quantityIndex_injective {p q : Quantity} (h : quantityIndex p = quantityIndex q) : p = q := by
  cases p <;> cases q <;> first | rfl | cases h

/-- A quotient truncated toward zero is no larger than the dividend. -/
theorem natAbs_tdiv_le (a b : Int) : (a.tdiv b).natAbs ≤ a.natAbs := by
  rw [Int.natAbs_tdiv]
  exact Nat.div_le_self _ _

/-! ## Fields of bytes (R190) -/

@[simp] theorem putU8_length (n : Nat) : (putU8 n).length = 1 := rfl
@[simp] theorem putU16_length (n : Nat) : (putU16 n).length = 2 := rfl
@[simp] theorem putU24_length (n : Nat) : (putU24 n).length = 3 := rfl
@[simp] theorem putS16_length (v : Int) : (putS16 v).length = 2 := rfl
@[simp] theorem putS24_length (v : Int) : (putS24 v).length = 3 := rfl
@[simp] theorem putBool_length (b : Bool) : (putBool b).length = 1 := rfl
@[simp] theorem putFinOrNone_length {n : Nat} (v : Option (Fin n)) : (putFinOrNone v).length = 1 := rfl

theorem u8At_lt (b : List Byte) (o : Nat) : u8At b o < 256 := (b.getD o 0).isLt

/-- A field past the bytes in front of it is read from the bytes that follow them. -/
theorem u8At_append_right (a b : List Byte) (o : Nat) : u8At (a ++ b) (a.length + o) = u8At b o := by
  simp [u8At, List.getD_eq_getElem?_getD, List.getElem?_append_right]

theorem u8At_append_left (a b : List Byte) {o : Nat} (h : o < a.length) : u8At (a ++ b) o = u8At a o := by
  simp [u8At, List.getD_eq_getElem?_getD, List.getElem?_append_left h]

theorem u8At_putU8 {n : Nat} (h : n < 256) (b : List Byte) : u8At (putU8 n ++ b) 0 = n := by
  simp [u8At, putU8, Nat.mod_eq_of_lt h]

theorem u16At_putU16 {n : Nat} (h : n < 65536) (b : List Byte) : u16At (putU16 n ++ b) 0 = n := by
  simp only [u16At, u8At, putU16, List.cons_append, List.nil_append, List.getD_cons_zero, List.getD_cons_succ,
    BitVec.toNat_ofNat]
  omega

theorem u24At_putU24 {n : Nat} (h : n < 16777216) (b : List Byte) : u24At (putU24 n ++ b) 0 = n := by
  simp only [u24At, u16At, u8At, putU24, putU16, List.cons_append, List.nil_append, List.getD_cons_zero,
    List.getD_cons_succ, BitVec.toNat_ofNat]
  omega

theorem s16At_putS16 {v : Int} (h₁ : -32768 ≤ v) (h₂ : v < 32768) (b : List Byte) : s16At (putS16 v ++ b) 0 = v := by
  have h : (v % 65536).toNat < 65536 := by omega
  have e : u16At (putS16 v ++ b) 0 = (v % 65536).toNat := u16At_putU16 h b
  unfold s16At
  rw [e]
  split <;> omega

theorem boolAt_putBool (v : Bool) (b : List Byte) : boolAt (putBool v ++ b) 0 = some v := by
  cases v <;> rfl

/-! ## Claims (R157) -/

/-- A claim whose demand in the table is the filed one becomes the evaluated demand; no other claim changes. -/
theorem fileClaim_demand (c : Fin 4) (filed evaluated : Nat) (b : Budget) (h : b.demand[c] = filed) (d : Fin 4) :
    (fileClaim c filed evaluated b).demand[d] = if d = c then evaluated else b.demand[d] := by
  unfold fileClaim
  split
  · next e => split <;> simp_all
  · by_cases hd : d = c
    · subst hd; simp
    · have hn : c.val ≠ d.val := fun e => hd (Fin.ext e.symm)
      simp [hd, hn]

/-- Filing a claim changes nothing of the budget but the demands. -/
theorem fileClaim_eq (c : Fin 4) (filed evaluated : Nat) (b : Budget) :
    fileClaim c filed evaluated b = { b with demand := (fileClaim c filed evaluated b).demand } := by
  unfold fileClaim
  split <;> rfl

/-! ## Flags (R174 to R176) -/

theorem flagIndex_injective {f g : Flag} (h : flagIndex f = flagIndex g) : f = g := by
  cases f <;> cases g <;>
    first
    | rfl
    | exact absurd h (by decide)
    | (revert h; rename_i n; revert n; decide)
    | (revert h; rename_i m n; revert m n; decide)

/-- A flag set is set, and every other stands as it was. -/
theorem raiseFlag_flag (f : Flag) (x : Inputs) (i : Fin 15) :
    (raiseFlag f x).flags[i] = if i = flagIndex f then true else x.flags[i] := by
  by_cases h : i = flagIndex f
  · subst h; simp [raiseFlag]
  · have hn : (flagIndex f).val ≠ i.val := fun e => h (Fin.ext e.symm)
    simp [raiseFlag, h, hn]

/-- Setting a flag clears none. -/
theorem raiseFlag_keeps (f : Flag) (x : Inputs) (i : Fin 15) (h : x.flags[i] = true) :
    (raiseFlag f x).flags[i] = true := by
  rw [raiseFlag_flag]
  split
  · rfl
  · exact h

/-! ## Level sources (R121) -/

theorem keptIndex_injective {l m : LevelSource} (h : keptIndex l = keptIndex m) : l = m := by
  cases l <;> cases m <;>
    first
    | rfl
    | exact absurd h (by decide)
    | (revert h; rename_i n; revert n; decide)
    | (revert h; rename_i m n; revert m n; decide)

/-- One delivery of a level source: its kept value is the one delivered, every other stands. -/
theorem keptValue_set (k : Vector Bool 33) (l m : LevelSource) (v : Bool) :
    keptValue (k.set (keptIndex l).val v) m = if m = l then v else keptValue k m := by
  by_cases h : m = l
  · subst h; simp [keptValue]
  · have hn : (keptIndex l).val ≠ (keptIndex m).val := fun e => h (keptIndex_injective (Fin.ext e.symm))
    simp [keptValue, h, hn]

/-- A list of deliveries changes no level source that it does not name. -/
theorem keptAfter_other (ms : List (LevelSource × Bool)) (k : Vector Bool 33) (l : LevelSource)
    (h : ∀ m ∈ ms, m.1 ≠ l) : keptValue (keptAfter ms k) l = keptValue k l := by
  induction ms generalizing k with
  | nil => rfl
  | cons m ms ih =>
    obtain ⟨m, v⟩ := m
    have hm : l ≠ m := fun e => h (m, v) (by simp) e.symm
    rw [keptAfter, ih _ fun x hx => h x (by simp [hx]), keptValue_set, if_neg hm]

/-! ## Events at the light controller (R124) -/

@[simp] theorem happens_none (old new : Vector Bool 33) (fired : Option EdgeSource) : happens old new fired none = false := rfl

@[simp] theorem happens_level (old new : Vector Bool 33) (fired : Option EdgeSource) (l : LevelSource) :
    happens old new fired (some (.level l)) = rises old new l := rfl

@[simp] theorem happens_edge (old new : Vector Bool 33) (fired : Option EdgeSource) (e : EdgeSource) :
    happens old new fired (some (.edge e)) = decide (fired = some e) := rfl

/-- A source that no event delivers does not rise, and nothing fires without a firing. -/
theorem happens_unchanged (k : Vector Bool 33) (src : Option Trigger) : happens k k none src = false := by
  rcases src with _ | _ | _ <;> simp [rises]

/-- A trigger source rises or fires at an event: a level source whose kept value passes from false to true, or the edge
source that fires (R121, R123). -/
theorem happens_iff (old new : Vector Bool 33) (fired : Option EdgeSource) (src : Option Trigger) :
    happens old new fired src = true ↔
      (∃ l, src = some (.level l) ∧ keptValue old l = false ∧ keptValue new l = true)
        ∨ ∃ e, src = some (.edge e) ∧ fired = some e := by
  rcases src with _ | _ | _ <;> simp [rises]

/-- An event removes a WHILE instance whose trigger source falls and a LATCH instance whose cancel source rises or fires
(R124, step 1). -/
theorem removedAt_iff (cues : Vector CueEntry 16) (old new : Vector Bool 33) (fired : Option EdgeSource) (i : CueInstance) :
    removedAt cues old new fired i = true ↔
      (cues[i.cue].mode = .whileTrue ∧ ∃ l, cues[i.cue].trigger = some (.level l)
          ∧ keptValue old l = true ∧ keptValue new l = false)
        ∨ (cues[i.cue].mode = .latch ∧ happens old new fired cues[i.cue].cancel = true) := by
  unfold removedAt
  cases cues[i.cue].mode <;> simp
  rcases cues[i.cue].trigger with _ | _ | _ <;> simp [falls]

/-- An event leaves the kept values after its deliveries, and the active list of its removals and starts. -/
theorem lightsEvent_kept (t : Tables) (grant : Nat) (composes : Bool) (m : LightMsg) (x : Lights) :
    (lightsEvent t grant composes m x).kept = keptAfter m.sets x.kept := by
  unfold lightsEvent
  dsimp only
  split <;> rfl

theorem lightsEvent_active (t : Tables) (grant : Nat) (composes : Bool) (m : LightMsg) (x : Lights) :
    (lightsEvent t grant composes m x).active =
      (rosterAt t.cue x.kept (keptAfter m.sets x.kept) m.fired x.active).active := by
  unfold lightsEvent
  dsimp only
  split <;> rfl

/-- An event changes neither the scene, the cue tick nor the PWM cycles. -/
theorem lightsEvent_frame (t : Tables) (grant : Nat) (composes : Bool) (m : LightMsg) (x : Lights) :
    (lightsEvent t grant composes m x).scene = x.scene ∧ (lightsEvent t grant composes m x).ticking = x.ticking
      ∧ (lightsEvent t grant composes m x).pwm = x.pwm := by
  unfold lightsEvent
  dsimp only
  split <;> exact ⟨rfl, rfl, rfl⟩

/-- A cue's trigger source is true exactly as a level source whose kept value is true (R125, R131). -/
theorem triggerTrue_iff (kept : Vector Bool 33) (e : CueEntry) :
    triggerTrue kept e = true ↔ ∃ l, e.trigger = some (.level l) ∧ keptValue kept l = true := by
  unfold triggerTrue
  rcases e.trigger with _ | _ | _ <;> simp

/-! ## Rotation (R161, R163) -/

/-- The rotation takes each claimant once. -/
theorem cycleAfter_complete (p : Option (Fin 4)) (c : Fin 4) : c ∈ cycleAfter p ∧ (cycleAfter p).Nodup := by
  revert p c; decide

/-- A level deals no more exactly when every claimant at it has its demand. -/
theorem nextClaimant_none_iff (t : Vector BudgetEntry 4) (demand : Vector Nat 4) (lv : Fin 4) (d : Deal) :
    nextClaimant t demand lv d = none ↔ ∀ c : Fin 4, t[c].priority = lv → demand[c] ≤ d.grants[c] := by
  simp [nextClaimant, rotation, List.find?_eq_none, (cycleAfter_complete _ _).1]

/-- A deal goes to a claimant of the level that is below its demand. -/
theorem nextClaimant_some {t : Vector BudgetEntry 4} {demand : Vector Nat 4} {lv c : Fin 4} {d : Deal}
    (h : nextClaimant t demand lv d = some c) : t[c].priority = lv ∧ d.grants[c] < demand[c] := by
  have hm := List.mem_of_find?_eq_some h
  have hp := List.find?_some h
  simp only [rotation, List.mem_filter, beq_iff_eq] at hm
  exact ⟨hm.2, of_decide_eq_true hp⟩

/-! ## Scanner slots (R142) -/

/-- The next slot is the first one at or after the place that has a source. -/
theorem nextSlot_some {list : Vector ScanEntry 8} {i : Nat} {k : Fin 8} (h : nextSlot list i = some k) :
    i ≤ k.val ∧ list[k].source ≠ none ∧ ∀ j : Fin 8, i ≤ j.val → j < k → list[j].source = none := by
  obtain ⟨hk, a, b, e, ha⟩ := List.find?_eq_some_iff_append.mp h
  rw [Bool.and_eq_true, decide_eq_true_eq] at hk
  refine ⟨hk.1, Option.isSome_iff_ne_none.mp hk.2, fun j hi hj => ?_⟩
  have hs : (List.finRange 8).Pairwise (· < ·) := List.pairwise_lt_finRange 8
  rw [e, List.pairwise_append] at hs
  have hm : j ∈ a ++ k :: b := e ▸ List.mem_finRange j
  rcases List.mem_append.mp hm with hja | hjb
  · have := ha j hja
    simpa [hi] using this
  · rcases List.mem_cons.mp hjb with rfl | hjb
    · exact absurd hj (lt_irrefl _)
    · exact absurd hj (lt_asymm ((List.pairwise_cons.mp hs.2.1).1 j hjb))

/-- There is no next slot exactly when every slot from the place on is EMPTY. -/
theorem nextSlot_none {list : Vector ScanEntry 8} {i : Nat} :
    nextSlot list i = none ↔ ∀ j : Fin 8, i ≤ j.val → list[j].source = none := by
  simp [nextSlot, List.find?_eq_none]

/-! ## Sense inputs (R139) -/

/-- PACK_V is taken at the tap of the cell count, and no other source depends on the count. -/
theorem sourceInput_packV (x : SenseInputs) :
    sourceInput 2 x .packV = x.tap2 ∧ sourceInput 3 x .packV = x.tap3 ∧ sourceInput 4 x .packV = x.tap4 := ⟨rfl, rfl, rfl⟩

theorem sourceInput_other {q : Quantity} (h : q ≠ .packV) (m n : Nat) (x : SenseInputs) :
    sourceInput m x q = sourceInput n x q := by
  cases q <;> first | rfl | exact absurd rfl h

/-! ## The bridge (R86) -/

/-- At a duty of at most 1000, one of the switches that carry the duty and the low sides fill the PWM cycle, but in
COAST, where every switch is off. -/
theorem cycleOf_fills {duty : Nat} (h : duty ≤ 1000) (m : Bridge) :
    (cycleOf duty m).bra + (cycleOf duty m).brb + (cycleOf duty m).lowSides = if m = .coast then 0 else 1000 := by
  cases m <;> simp [cycleOf] <;> omega

/-- At most one of BRA and BRB carries the duty. -/
theorem cycleOf_one_side (duty : Nat) (m : Bridge) : (cycleOf duty m).bra = 0 ∨ (cycleOf duty m).brb = 0 := by
  cases m <;> simp [cycleOf]

/-! ## The CRC (R5) -/

/-- The bytes of two pieces enter one after the other. -/
theorem crcBytes_append (c : Check) (a b : List Byte) : crcBytes c (a ++ b) = crcBytes (crcBytes c a) b := by
  induction a generalizing c with
  | nil => rfl
  | cons x a ih => exact ih (crcByte c x)

/-- The two bytes of a CHECK give it back. -/
theorem checkHigh_append_checkLow (c : Check) : checkHigh c ++ checkLow c = c := by
  unfold checkHigh checkLow
  ext i hi
  simp only [BitVec.getElem_append, BitVec.getElem_extractLsb']
  split
  · simp [BitVec.getLsbD_eq_getElem (by omega : i < 16)]
  · have h : 8 + (i - 8) = i := by omega
    rw [h, BitVec.getLsbD_eq_getElem (by omega : i < 16)]

/-! ## The line (R2, R10, R189) -/

/-- A part that is held or transmits takes nothing from the line. -/
theorem onLine_idle {s : State} (f : State → State) (h : receiving s = false) : onLine f s = s := by
  simp [onLine, h]

/-- With no reply pending and no frame to discard, the line goes straight to the receiver. -/
theorem onLine_empty {s : State} (f : State → State) (hr : s.heldInReset = false) (he : s.link.reply = .empty)
    (hd : s.link.discarding = false) :
    onLine f s = f s := by
  simp [onLine, receiving, afterStartBit, abandonReply, hr, he, hd]

/-- The frame that a soft reset discards: the line takes nothing of it, and the mark is gone (R187). -/
theorem onLine_discards {s : State} (f : State → State) (hr : s.heldInReset = false) (he : s.link.reply = .empty)
    (hd : s.link.discarding = true) : onLine f s = putDiscarding false s := by
  simp [onLine, receiving, afterStartBit, abandonReply, hr, he, hd]

/-- A reply that is not PENDING cannot be abandoned. -/
theorem abandonReply_of_not_pending {s : State} (h : ∀ c, s.link.reply ≠ .pending c) : abandonReply s = s := by
  unfold abandonReply
  split
  · next c e => exact absurd e (h c)
  · rfl
  · rfl

end Sys2Proof.Machine
end

