-- ==== Sys2Proof/WellFormed.lean ====
section
/-! DEFINITION. Which operand values a command can carry. `exec` is total: it gives an ill-formed command a
meaning too (the meaning of the bytes it stands for), so nothing here is a ground for a stop. -/

namespace Sys2Proof

/-- A payload that LEN can announce (R3, Table 1-1). -/
abbrev payloadFits (payload : List Byte) : Bool := decide (payload.length ≤ Config.maxLen)

/-- A table write whose payload (table id, index, entry bytes) LEN can announce. -/
abbrev entryFits (entry : List Byte) : Bool := decide (entry.length + 2 ≤ Config.maxLen)

/-- The table ids that have a row of their own in the table of commands (Table 1-9): STEER, DRIVE to LINK,
every id but FUNC 1, CURVE 2, BAND 3, GEOM 5 and CORNER 6. -/
def hasOwnRow (id : Byte) : Bool :=
  id == 4 || (decide (7 ≤ id.toNat) && decide (id.toNat ≤ 16))

/-- A SETUP_WRITE payload of the general row: its table id, if it has one, has no row of its own. -/
def generalWrite : List Byte → Bool
  | id :: _ => !hasOwnRow id
  | [] => true

/-- The inbound KIND codes (Table 1-3). -/
def inboundKind (kind : Byte) : Bool :=
  kind == Config.kindChannels || kind == Config.kindSetupWrite || kind == Config.kindSetupRead
    || kind == Config.kindQuery || kind == Config.kindAction

/-- The operands of a command are ones its row can carry. -/
def WellFormed : Instr → Bool
  | .channels p => payloadFits p
  | .setupWrite p => payloadFits p && generalWrite p
  | .linkRecordWrite _ e => entryFits e
  | .steerRecordWrite _ e => entryFits e
  | .driveRecordWrite _ e => entryFits e
  | .winchRecordWrite _ e => entryFits e
  | .lampWrite _ e => entryFits e
  | .sceneWrite _ e => entryFits e
  | .cueWrite _ e => entryFits e
  | .scanWrite _ e => entryFits e
  | .protectWrite _ e => entryFits e
  | .budgetWrite _ e => entryFits e
  | .inputWrite _ e => entryFits e
  | .setupRead p => payloadFits p
  | .statusQuery => true
  | .measureQuery => true
  | .winchQuery => true
  | .budgetQuery => true
  | .steerQuery => true
  | .enterSetup => true
  | .leaveSetup => true
  | .store => true
  | .restoreDefaults => true
  | .softReset => true
  | .clearProtect => true
  | .winchHome => true
  | .winchClear => true
  | .unknownKindFrame k p => payloadFits p && !inboundKind k
  | .checkMismatchFrame k p c => payloadFits p && c != Machine.frameCheck k p
  | .gapTimeout => true
  | .framingError => true
  | .lenDiscard len => decide (Config.maxLen < len.toNat)
  | .replyStart => true
  | .replyAbandon => true
  | .replyComplete => true
  | .holdTimerExpiry => true
  | .servoPeriodStart => true
  | .brakingTimerExpiry => true
  | .rampTick => true
  | .stallTimerExpiry => true
  | .noMotionTimerExpiry => true
  | .clutchTimerExpiry => true
  | .encoderCount _ _ => true
  | .cueTick => true
  | .conversionEnd _ => true
  | .budgetTimerExpiry => true
  | .sampleTick _ _ _ _ => true
  | .loadComplete _ _ _ _ _ _ => true
  | .eraseEnd => true
  | .storeEnd _ => true
  | .powerOnReset => true
  | .brownOutReset => true
  | .byteReceived _ => true
  | .leaveReset => true

end Sys2Proof
end

