-- ==== Sys2Proof/Laws/PerInstr.lean ====
section
/-! SUPPORT. Statements made once per command, about its operands as they are written. -/

namespace Sys2Proof.Laws.FrameFits

open Sys2Proof.Machine

/-- A well-formed command that stands for a good frame stands for one whose payload LEN can announce (R3, Table
1-1), and the frame's KIND is an inbound code (Table 1-3) exactly when the command is not the row of unknown
kinds. -/
def Statement (i : Instr) : Prop :=
  WellFormed i = true → ∀ k p, frameOf i = some (k, p) →
    p.length ≤ Config.maxLen ∧ (inboundKind k = true ↔ i ≠ .unknownKindFrame k p)

/-- A command that stands for a frame of an inbound kind. -/
theorem of_inbound {i : Instr} {k : Byte} {p : List Byte} (hf : frameOf i = some (k, p)) (hk : inboundKind k = true)
    (hi : ∀ k p, i ≠ .unknownKindFrame k p) (hl : WellFormed i = true → p.length ≤ Config.maxLen) : Statement i := by
  intro h k' p' e
  cases hf.symm.trans e
  exact ⟨hl h, by simp [hk, hi]⟩

/-- A command that stands for no good frame. -/
theorem of_none {i : Instr} (hf : frameOf i = none) : Statement i := fun _ _ _ e => nomatch hf.symm.trans e

theorem channels (payload : List Byte) : Statement (.channels payload) :=
  of_inbound rfl rfl (fun _ _ h => nomatch h) of_decide_eq_true

theorem setupWrite (payload : List Byte) : Statement (.setupWrite payload) :=
  of_inbound rfl rfl (fun _ _ h => nomatch h) fun h => of_decide_eq_true ((Bool.and_eq_true _ _).mp h).1

theorem linkRecordWrite (index : Byte) (entry : List Byte) : Statement (.linkRecordWrite index entry) :=
  of_inbound rfl rfl (fun _ _ h => nomatch h) of_decide_eq_true

theorem steerRecordWrite (index : Byte) (entry : List Byte) : Statement (.steerRecordWrite index entry) :=
  of_inbound rfl rfl (fun _ _ h => nomatch h) of_decide_eq_true

theorem driveRecordWrite (index : Byte) (entry : List Byte) : Statement (.driveRecordWrite index entry) :=
  of_inbound rfl rfl (fun _ _ h => nomatch h) of_decide_eq_true

theorem winchRecordWrite (index : Byte) (entry : List Byte) : Statement (.winchRecordWrite index entry) :=
  of_inbound rfl rfl (fun _ _ h => nomatch h) of_decide_eq_true

theorem lampWrite (index : Byte) (entry : List Byte) : Statement (.lampWrite index entry) :=
  of_inbound rfl rfl (fun _ _ h => nomatch h) of_decide_eq_true

theorem sceneWrite (index : Byte) (entry : List Byte) : Statement (.sceneWrite index entry) :=
  of_inbound rfl rfl (fun _ _ h => nomatch h) of_decide_eq_true

theorem cueWrite (index : Byte) (entry : List Byte) : Statement (.cueWrite index entry) :=
  of_inbound rfl rfl (fun _ _ h => nomatch h) of_decide_eq_true

theorem scanWrite (index : Byte) (entry : List Byte) : Statement (.scanWrite index entry) :=
  of_inbound rfl rfl (fun _ _ h => nomatch h) of_decide_eq_true

theorem protectWrite (index : Byte) (entry : List Byte) : Statement (.protectWrite index entry) :=
  of_inbound rfl rfl (fun _ _ h => nomatch h) of_decide_eq_true

theorem budgetWrite (index : Byte) (entry : List Byte) : Statement (.budgetWrite index entry) :=
  of_inbound rfl rfl (fun _ _ h => nomatch h) of_decide_eq_true

theorem inputWrite (index : Byte) (entry : List Byte) : Statement (.inputWrite index entry) :=
  of_inbound rfl rfl (fun _ _ h => nomatch h) of_decide_eq_true

theorem setupRead (payload : List Byte) : Statement (.setupRead payload) :=
  of_inbound rfl rfl (fun _ _ h => nomatch h) of_decide_eq_true

theorem statusQuery : Statement .statusQuery :=
  of_inbound rfl rfl (fun _ _ h => nomatch h) fun _ => by decide

theorem measureQuery : Statement .measureQuery :=
  of_inbound rfl rfl (fun _ _ h => nomatch h) fun _ => by decide

theorem winchQuery : Statement .winchQuery :=
  of_inbound rfl rfl (fun _ _ h => nomatch h) fun _ => by decide

theorem budgetQuery : Statement .budgetQuery :=
  of_inbound rfl rfl (fun _ _ h => nomatch h) fun _ => by decide

theorem steerQuery : Statement .steerQuery :=
  of_inbound rfl rfl (fun _ _ h => nomatch h) fun _ => by decide

theorem enterSetup : Statement .enterSetup :=
  of_inbound rfl rfl (fun _ _ h => nomatch h) fun _ => by decide

theorem leaveSetup : Statement .leaveSetup :=
  of_inbound rfl rfl (fun _ _ h => nomatch h) fun _ => by decide

theorem store : Statement .store :=
  of_inbound rfl rfl (fun _ _ h => nomatch h) fun _ => by decide

theorem restoreDefaults : Statement .restoreDefaults :=
  of_inbound rfl rfl (fun _ _ h => nomatch h) fun _ => by decide

theorem softReset : Statement .softReset :=
  of_inbound rfl rfl (fun _ _ h => nomatch h) fun _ => by decide

theorem clearProtect : Statement .clearProtect :=
  of_inbound rfl rfl (fun _ _ h => nomatch h) fun _ => by decide

theorem winchHome : Statement .winchHome :=
  of_inbound rfl rfl (fun _ _ h => nomatch h) fun _ => by decide

theorem winchClear : Statement .winchClear :=
  of_inbound rfl rfl (fun _ _ h => nomatch h) fun _ => by decide

theorem unknownKindFrame (kind : Byte) (payload : List Byte) : Statement (.unknownKindFrame kind payload) := by
  intro h k p e
  cases Option.some.inj e
  have h := (Bool.and_eq_true _ _).mp h
  have hk : inboundKind kind = false := by simpa using h.2
  exact ⟨of_decide_eq_true h.1, by simp [hk]⟩

theorem checkMismatchFrame (kind : Byte) (payload : List Byte) (check : Check) : Statement (.checkMismatchFrame kind payload check) := of_none rfl

theorem gapTimeout : Statement .gapTimeout := of_none rfl

theorem framingError : Statement .framingError := of_none rfl

theorem lenDiscard (len : Byte) : Statement (.lenDiscard len) := of_none rfl

theorem replyStart : Statement .replyStart := of_none rfl

theorem replyAbandon : Statement .replyAbandon := of_none rfl

theorem replyComplete : Statement .replyComplete := of_none rfl

theorem holdTimerExpiry : Statement .holdTimerExpiry := of_none rfl

theorem servoPeriodStart : Statement .servoPeriodStart := of_none rfl

theorem brakingTimerExpiry : Statement .brakingTimerExpiry := of_none rfl

theorem rampTick : Statement .rampTick := of_none rfl

theorem stallTimerExpiry : Statement .stallTimerExpiry := of_none rfl

theorem noMotionTimerExpiry : Statement .noMotionTimerExpiry := of_none rfl

theorem clutchTimerExpiry : Statement .clutchTimerExpiry := of_none rfl

theorem encoderCount (enca encb : Level) : Statement (.encoderCount enca encb) := of_none rfl

theorem cueTick : Statement .cueTick := of_none rfl

theorem conversionEnd (inputs : SenseInputs) : Statement (.conversionEnd inputs) := of_none rfl

theorem budgetTimerExpiry : Statement .budgetTimerExpiry := of_none rfl

theorem sampleTick (in0 in1 in2 in3 : Level) : Statement (.sampleTick in0 in1 in2 in3) := of_none rfl

theorem loadComplete (in0 in1 in2 in3 enca encb : Level) : Statement (.loadComplete in0 in1 in2 in3 enca encb) := of_none rfl

theorem eraseEnd : Statement .eraseEnd := of_none rfl

theorem storeEnd (verify : Verify) : Statement (.storeEnd verify) := of_none rfl

theorem powerOnReset : Statement .powerOnReset := of_none rfl

theorem brownOutReset : Statement .brownOutReset := of_none rfl

theorem byteReceived (byte : Byte) : Statement (.byteReceived byte) := of_none rfl

theorem leaveReset : Statement .leaveReset := of_none rfl

end Sys2Proof.Laws.FrameFits
end

