-- ==== Sys2Proof/Tests/Slice0.lean ====
section
/-! SUPPORT. Tests of the model against figures the manual works out by hand, the ill-formed term each check of
well-formedness refuses, and a state and operands that meet the hypotheses of each statement for the provers. -/

namespace Sys2Proof.Tests

open Sys2Proof.Machine

-- The kernel evaluates one test after another: side by side, each that waits would hold a thread of its own.
set_option Elab.async false

/-! ## Well-formedness: one ill-formed command for each check -/

/-- A payload of `n` zero bytes. -/
def zeros (n : Nat) : List Byte := List.replicate n 0

theorem test_wf_channels_len : WellFormed (.channels (zeros 48)) = true ∧ WellFormed (.channels (zeros 49)) = false := by
  decide
theorem test_wf_setupWrite_len : WellFormed (.setupWrite (1 :: zeros 48)) = false := by decide
theorem test_wf_setupWrite_own_row :
    WellFormed (.setupWrite [5, 0]) = true ∧ WellFormed (.setupWrite [4, 0]) = false
      ∧ WellFormed (.setupWrite [16, 0]) = false := by
  decide
theorem test_wf_entries_len : ∀ c ∈ [Instr.linkRecordWrite, .steerRecordWrite, .driveRecordWrite, .winchRecordWrite,
    .lampWrite, .sceneWrite, .cueWrite, .scanWrite, .protectWrite, .budgetWrite, .inputWrite],
    WellFormed (c 0 (zeros 46)) = true ∧ WellFormed (c 0 (zeros 47)) = false := by
  decide
theorem test_wf_setupRead_len : WellFormed (.setupRead (zeros 49)) = false := by decide
theorem test_wf_unknownKind_inbound :
    WellFormed (.unknownKindFrame 0x52 []) = true ∧ WellFormed (.unknownKindFrame 0x31 []) = false := by
  decide
theorem test_wf_unknownKind_len : WellFormed (.unknownKindFrame 0x52 (zeros 49)) = false := by decide
theorem test_wf_checkMismatch_equal : WellFormed (.checkMismatchFrame 0x44 [1] (frameCheck 0x44 [1])) = false := by
  decide +kernel
theorem test_wf_checkMismatch_len : WellFormed (.checkMismatchFrame 0x44 (zeros 49) 0) = false := by decide +kernel
theorem test_wf_lenDiscard : WellFormed (.lenDiscard 49) = true ∧ WellFormed (.lenDiscard 48) = false := by decide

/-! ## The link (R5, R191) -/

/-- The check value R5 gives for the nine bytes 0x31 to 0x39. -/
theorem test_crc_check_value : crc [0x31, 0x32, 0x33, 0x34, 0x35, 0x36, 0x37, 0x38, 0x39] = 0x29B1 := by decide +kernel

/-- Table 11-1: two channels in three bytes. -/
theorem test_channel_packing :
    [0, 1, 2, 3].map (rawChannel [0x99, 0x08, 0x00, 0x38, 0x4D, 0xAC]) = [2448, 2048, 900, 3500] := by
  decide

/-- No row of the table of commands gives bits. -/
theorem test_decode_none : decodeTableWord 8 0xA7 = none := by decide

/-! ## Worked figures of the chapters -/

/-- Table 2-4, after the deadband. -/
theorem test_throttle_normalization :
    [2048, 2070, 2099, 2100, 1800, 4000, 0].map (fun x => applyDeadband 30 (scaleRaw (funcDefault (some 1) 30 .preset) x))
      = [0, 0, 32, 34, -280, 1000, -1000] := by
  decide

/-- Table 2-9: first match among the default entries. -/
theorem test_band_decoding :
    [900, 1023, 1024, 2047, 2048, 3071, 3072].map (fun x => firstMatch .steerSel x defaultBand.toList)
      = [some 0, some 0, some 1, some 1, some 1, some 1, some 2] := by
  decide

/-- A record with a steer value and the rate of Table 3-8. -/
def steered (v : Int) (rate : Option Int) : FunctionRecord :=
  { recordAfterReset with steer := v, rate := rate.getD 0, rateUnsourced := rate.isNone }

/-- Table 3-7. -/
theorem test_targets_counter :
    scaledSteer (steered 600 none) = 600
      ∧ (List.finRange 4).map (cornerTarget defaultGeom .counter 600) = [492, 600, -394, -480] := by
  decide

/-- Table 3-8. -/
theorem test_targets_front :
    scaledSteer (steered (-700) (some 333)) = -513
      ∧ (List.finRange 4).map (cornerTarget defaultGeom .front (-513)) = [-513, -448, 0, 0] := by
  decide

/-- Table 3-9. -/
theorem test_corner_widths :
    [492, 600, -394, -480].map (cornerWidth defaultCorner[0]) = [1697, 1740, 1342, 1308]
      ∧ [-480, 200].map (cornerWidth { defaultCorner[0] with reverse := true, throwNeg := 350 }) = [1692, 1430]
      ∧ cornerWidth { defaultCorner[0] with throwNeg := 300 } (-5) = 1498
      ∧ cornerWidth { defaultCorner[0] with throwPos := 300 } 5 = 1502
      ∧ cornerWidth { defaultCorner[0] with highLimit := 1700 } 600 = 1700
      ∧ cornerWidth { defaultCorner[0] with centre := 2200, throwPos := 700, highLimit := 2500 } 1000 = 2500 := by
  decide

/-- Table 3-11: effective steps under a short grant. -/
theorem test_effective_steps :
    effectiveStep 50 2400 4800 = 25 ∧ effectiveStep 50 2400 3750 = 32 ∧ effectiveStep 50 2400 1650 = 50 := by
  decide

/-- Table 4-4: t1, the demand, t2, the S4 width and REVERSE. -/
def throttleRow : RunState × ProtState × Int × Nat → List Int
  | (rs, p, v, grant) =>
    let d := throttlePath defaultDrive rs p grant
      { driveAfterReset with record := { recordAfterReset with throttle := v } }
    [d.t1, d.filed, d.t2, d.s4Width, d.reverse.toNat]

theorem test_throttle_figures :
    [(.run, .normal, 800, 10000), (.run, .normal, 800, 30000), (.run, .limit, 800, 12499),
      (.run, .limit, -700, 10500), (.run, .normal, 3, 75), (.run, .normal, -1, 0), (.run, .cutoff, 800, 30000),
      (.wait, .normal, 40, 0)].map throttleRow
      = [[800, 20000, 400, 1700, 0], [800, 20000, 800, 1900, 0], [500, 12500, 499, 1750, 0],
         [-420, 10500, -420, 1290, 1], [3, 75, 3, 1502, 0], [0, 0, 0, 1500, 0], [800, 0, 0, 1500, 0],
         [40, 0, 0, 1500, 0]] := by
  decide

/-- The figures of the dimming example of chapter 6. -/
theorem test_dimming : dimmingFor 1800 200 = 111 ∧ 255 * dimmingFor 1800 200 / 1000 = 28 := by decide

/-- Table 8-5. -/
theorem test_budget_case_1 :
    let d := divideCap defaultBudget 100 15000 #v[4800, 20000, 0, 1800] (tab fun _ => none)
    d.grants = #v[4800, 10000, 0, 200] ∧ d.pointers = #v[none, none, some 1, some 0] := by
  decide +kernel

/-- Table 8-7. -/
theorem test_budget_case_2 :
    let d := divideCap defaultBudget 1000 14500 #v[4800, 8000, 6000, 700] #v[none, none, some 1, some 0]
    d.grants = #v[4800, 4500, 5000, 200] ∧ d.pointers = #v[none, none, some 1, some 0] := by
  decide +kernel

/-- Table 8-8 and the case before it. -/
theorem test_budget_floors :
    (divideCap defaultBudget 100 1000 #v[2700, 0, 0, 1000] (tab fun _ => none)).grants = #v[1000, 0, 0, 0]
      ∧ (divideCap #v[⟨3, 1500⟩, ⟨2, 3000⟩, ⟨2, 3000⟩, ⟨0, 200⟩] 100 5000 #v[600, 12500, 4800, 1000]
          #v[none, none, some 2, none]).grants = #v[600, 3000, 1400, 0] := by
  decide +kernel

/-- Table 9-4: the press at 0 to 6 ms. -/
theorem test_debounce :
    (([Level.low, .high, .low, .low, .low, .low, .low].foldl (fun x v => (sampleLine 4 v x.1)) (lineAfterReset, false)).1
      = { lineAfterReset with level := .low })
      ∧ ([Level.low, .high, .low, .low, .low, .low].foldl (fun x v => (sampleLine 4 v x.1)) (lineAfterReset, false)).1
      = { lineAfterReset with runCount := 4 } := by
  decide

/-- Table 7-10: five passes above I_trip. -/
theorem test_overcurrent_count :
    ([46000, 47000, 44000, 46000, 46000, 46000, 46000, 46500].foldl
      (fun c i => countersAfter defaultProtect (some 3700) i c) countersZero).overcurrent = 5
      ∧ capFor defaultProtect .cutoff = 1500 ∧ capFor defaultProtect .limit = 15000 := by
  decide

/-- R86: the gate lines in parts of 1000 of a PWM cycle, in each bridge mode of Table 5-2. -/
theorem test_bridge_cycle :
    [(WinchState.haulIn, Direction.haulIn), (.payOut, .payOut), (.rampDown, .payOut), (.idle, .none), (.freespool, .none),
        (.fault, .none)].map
      (fun x => bridgeCycle { winchAfterReset with state := x.1, direction := x.2, duty := 600 })
      = [⟨600, 0, 400⟩, ⟨0, 600, 400⟩, ⟨0, 600, 400⟩, ⟨0, 0, 1000⟩, ⟨0, 0, 0⟩, ⟨0, 0, 1000⟩] := by
  decide

/-- R139 and Table 7-2: a cell is its tap above the one below it, PACK_V the tap of the cell count. -/
theorem test_source_inputs :
    let x : SenseInputs :=
      { tap1 := 3700, tap2 := 7300, tap3 := 11000, tap4 := 14800, packShunt := 20000, winchShunt := 900, tsense := -5 }
    [Quantity.cell1, .cell2, .cell3, .cell4, .packI, .winchI, .temp].map (sourceInput 3 x)
        = [3700, 3600, 3700, 3800, 20000, 900, -5]
      ∧ [2, 3, 4].map (fun n => sourceInput n x .packV) = [7300, 11000, 14800] := by
  decide

/-! ## States for the witnesses -/

/-- A part with the default tables, loaded, in RUN, at rest. -/
def live : State :=
  { State.reset with
    heldInReset := false
    link := { linkAfterReset with run := .run, hold := ⟨true, 500, 1⟩ }
    drive := { driveAfterReset with period := ⟨true, 10, 1⟩, s4Active := true, s5Active := true, s4Width := 1500 }
    winch := { winchAfterReset with ticking := true, clutchWidth := 1100 }
    lights := { lightsAfterReset with ticking := true, pwm := true }
    scanner := { scannerAfterReset with pass := startPass defaultScan }
    protection := { protectionAfterReset with cap := 30000, primed := true }
    budget := { budgetAfterReset with timer := ⟨true, 20, 1⟩ }
    inputs := { State.reset.inputs with ticking := true }
    store := { storeAfterReset [] with loaded := true } }

/-- The same part in another run state. -/
def inRun (r : RunState) : State := { live with link := { live.link with run := r } }

/-- The same part with the reply record as given. -/
def replying (r : Reply) : State := { live with link := { live.link with reply := r } }

/-- The same part with a winch of another state. -/
def winching (st : WinchState) (d : Direction) (duty : Nat) : State :=
  { live with winch := { live.winch with state := st, direction := d, duty := duty } }

/-- In SETUP with a store in flight. -/
def storing (x : StoreState) : State := { inRun .setup with store := { live.store with state := x } }

/-- An ANSWER with the given notices. -/
def answering (ns : List Notice) : ReplyContent := { kind := 0x52, payload := [], answered := 0x44, notices := ns }

/-- The state a command leaves. -/
def after (c : Instr) (s : State) : State :=
  match exec c s with
  | .next t => t
  | .fault _ => s
  | .refused _ => s

/-- The sense inputs with each tap 3700 above the one below it, and the others as given. -/
def sensing (v : Int) : SenseInputs :=
  { tap1 := 3700, tap2 := 7400, tap3 := 11100, tap4 := 14800, packShunt := v, winchShunt := v, tsense := v }

/-- A frame of ten channels, all at rest but THROTTLE and WINCH, with a flags byte. -/
def frame (throttle winch : Nat) (flags : Byte) : List Byte :=
  [0x80, BitVec.ofNat 8 (throttle / 256), BitVec.ofNat 8 throttle,
   BitVec.ofNat 8 (winch / 16), BitVec.ofNat 8 (winch % 16 * 16 + 8), 0x00,
   0x80, 0x08, 0x00, 0x80, 0x08, 0x00, 0x80, 0x08, 0x00, flags]

/-- The function record that a frame makes of a record. -/
def mapped (p : List Byte) : FunctionRecord := normalize defaultTables (rawChannels p) recordAfterReset

/-- The frames of `frame` mean what they say; |throttle| is the neutral window at 2113 and 1 above at 2114. -/
theorem test_frames :
    (mapped (frame 2048 2048 0)).throttle = 0 ∧ (mapped (frame 2113 2048 0)).throttle = 50
      ∧ (mapped (frame 2114 2048 0)).throttle = 51 ∧ (mapped (frame 2048 4000 0)).winch = 1000
      ∧ (mapped (frame 2048 100 0)).winch = -1000 ∧ (mapped (frame 2048 2048 0)).steerSelBand = some 1 := by
  decide

/-- A write that nothing refuses, and that its owner takes, is accepted. -/
theorem accepted_of_unrefused {s : State} {p : List Byte} (hl : Listening s)
    (h : writeRefusal s p = none ∧ (ownerAccepts s p).isSome = true) : ∃ t, Accepted s p t :=
  let ⟨t, e⟩ := Option.isSome_iff_exists.mp h.2
  ⟨t, hl, h.1, e⟩

/-! ## Witnesses: the queue, reception, replies -/

theorem witness_StepRunsTheFrontCommand :
    (live.withPending [.cueTick]).pending = .cueTick :: [] ∧ State.reset.pending = [] := ⟨rfl, rfl⟩

theorem witness_ByteReceptionIsFrameReception :
    frameOf (.channels (frame 2048 2048 0)) = some (0x31, frame 2048 2048 0) ∧ (frame 2048 2048 0).length ≤ 48
      ∧ frameOf .statusQuery = some (0x44, [1]) ∧ (zeros 48).length ≤ 48
      ∧ frameOf (.unknownKindFrame 0x99 (zeros 48)) = some (0x99, zeros 48)
      ∧ Listening live ∧ live.link.receiver = receiverHunting := by
  decide +kernel

/-- A part whose receiver stands in a phase, the last byte of a CHECK of 0 awaited in CHECK_LO. -/
def receiving (ph : RxPhase) (length : Nat) (taken : List Byte) : State :=
  { live with link := { live.link with receiver := ⟨ph, 0, length, taken, 0, 0, true⟩ } }

/-- Every clause: the LEAD and another byte in HUNT, KIND, LEN of 0, 48 and 49, a payload byte that is not and
one that is the last, CHECK_HI, and a CHECK that agrees and one that differs. -/
theorem witness_ReceiverTakesBytes :
    Listening live ∧ live.link.receiver.phase = .hunt ∧ ((0xA6 : Byte) ≠ 0xA7)
      ∧ (∀ ph ∈ [RxPhase.kind, .len, .checkHi], Listening (receiving ph 0 []))
      ∧ (0 : Byte).toNat ≤ 48 ∧ (48 : Byte).toNat ≤ 48 ∧ 48 < (49 : Byte).toNat
      ∧ (∀ n ∈ [1, 2], Listening (receiving .payload n []) ∧ 0 < n)
      ∧ Listening (receiving .checkLo 0 [])
      ∧ (receiving .checkLo 0 []).link.receiver.checkHi ++ (0 : Byte) = (receiving .checkLo 0 []).link.receiver.crc
      ∧ (receiving .checkLo 0 []).link.receiver.checkHi ++ (1 : Byte) ≠ (receiving .checkLo 0 []).link.receiver.crc := by
  decide +kernel

theorem witness_DiscardsAreSilent :
    (receiving .payload 2 [7]).link.receiver.gapRunning = true ∧ Listening (receiving .payload 2 [7])
      ∧ 48 < (49 : Byte).toNat ∧ (0x1234 : Check) ≠ frameCheck 0x44 [1]
      ∧ Listening live ∧ live.link.receiver = receiverHunting ∧ (zeros 15).length ≠ 16 ∧ (zeros 17).length ≠ 16
      ∧ Listening (inRun .init) ∧ (inRun .init).link.receiver = receiverHunting ∧ (zeros 16).length = 16 := by
  decide +kernel

theorem witness_NothingTakenWhileSendingOrHeld :
    State.reset.heldInReset = true
      ∧ (∃ r, (replying (.sending (answering []))).link.reply = .sending r)
      ∧ frameOf .statusQuery ≠ none ∧ frameOf (.channels []) ≠ none :=
  ⟨rfl, ⟨_, rfl⟩, by decide, by decide⟩

/-- A listening part but for the frame that a soft reset discards. -/
def discarding : State := { live with link := { live.link with discarding := true } }

theorem witness_StartBitAbandonsPendingReply :
    (∀ ns ∈ [[], [Notice.statusReport]],
        (replying (.pending (answering ns))).link.reply = .pending (answering ns)
          ∧ Notice.softReset ∉ (answering ns).notices
          ∧ (replying (.pending (answering ns))).heldInReset = false)
      ∧ (replying (.pending (answering [.softReset]))).link.reply = .pending (answering [.softReset])
      ∧ Notice.softReset ∈ (answering [.softReset]).notices
      ∧ (replying .empty).link.discarding = false
      ∧ discarding.heldInReset = false ∧ discarding.link.reply = .empty ∧ discarding.link.discarding = true := by
  decide +kernel

/-- R187: the frame of the start bit that performs the soft reset is discarded, with no answer; the one after it is
answered. -/
theorem test_soft_reset_frame_discarded :
    (after .enterSetup (after .replyAbandon (replying (.pending (answering [.softReset]))))).link = linkAfterReset
      ∧ (after .enterSetup (after .enterSetup discarding)).link.reply
          = .pending { kind := 0x52, payload := [0x45, 0], answered := 0x45, notices := [] } := by
  decide +kernel

theorem witness_ReplyStartsAndCompletes :
    (replying (.pending (answering []))).link.reply = .pending (answering [])
      ∧ (replying (.sending (answering []))).link.reply = .sending (answering [])
      ∧ (answering []).notices = []
      ∧ (let s : State := { replying (.sending (answering [.statusReport])) with
                            inputs := { live.inputs with reported := some live.inputs.flags } }
         s.link.reply = .sending (answering [.statusReport])
           ∧ (answering [.statusReport]).notices = [.statusReport] ∧ (answering [.statusReport]).kind = 0x52
           ∧ s.inputs.reported = some live.inputs.flags) := by
  decide +kernel

theorem witness_SoftResetAction :
    (Listening (inRun .init) ∧ (inRun .init).link.run = .init)
      ∧ (Listening (storing (.erasing defaultTables)) ∧ (storing (.erasing defaultTables)).link.run ≠ .init
          ∧ storeInFlight (storing (.erasing defaultTables)).store = true)
      ∧ (Listening live ∧ live.link.run ≠ .init ∧ storeInFlight live.store = false)
      ∧ ((answering [.softReset]).notices = [.softReset]
          ∧ (replying (.pending (answering [.softReset]))).link.reply = .pending (answering [.softReset])
          ∧ (replying (.sending (answering [.softReset]))).link.reply = .sending (answering [.softReset])) := by
  decide +kernel

/-! ## Witnesses: CHANNELS and the run state -/

theorem witness_TelemetryCounterAndReply :
    Listening live ∧ (frame 2048 2048 2).length = 16 ∧ live.link.run ≠ .init
      ∧ (∃ r : ReplyContent, (replying (.sending r)).link.reply = .sending r ∧ r.kind = 0x53 ∧ r.notices = []) :=
  ⟨by decide, by decide, by decide, { answering [] with kind := 0x53 }, rfl, rfl, rfl⟩

/-- A throttle at the neutral window, one above it, and a flagged frame, each of which asks for COUNTER: in STEADY in
another mode and in COUNTER, and in ALIGN. -/
theorem witness_ChannelsInWait :
    Listening (inRun .wait) ∧ (inRun .wait).link.run = .wait
      ∧ (∀ x ∈ [2113, 2114], ∀ fl ∈ [(0 : Byte), 1], (frame x 2048 fl).length = 16)
      ∧ (receiverFailsafe (frame 2113 2048 0) = false
          ∧ (mapped (frame 2113 2048 0)).throttle.natAbs ≤ live.tables.link.neutralWindow)
      ∧ (receiverFailsafe (frame 2114 2048 0) = false
          ∧ live.tables.link.neutralWindow < (mapped (frame 2114 2048 0)).throttle.natAbs)
      ∧ receiverFailsafe (frame 2113 2048 1) = true
      ∧ mapped (frame 2113 2048 0) = normalize (inRun .wait).tables (rawChannels (frame 2113 2048 0)) (inRun .wait).record
      ∧ (mapped (frame 2113 2048 0)).steerSelBand = some 1 ∧ live.tables.steer.modeMap[1] = some .counter
      ∧ (∀ m ∈ [SteerMode.front, .counter], ∀ st ∈ [SteerStatus.steady, .align],
          let s := { inRun .wait with steering := { live.steering with mode := m, status := st } }
          Listening s ∧ s.link.run = .wait ∧ s.steering.status = st ∧ (SteerMode.counter = s.steering.mode ↔ m = .counter)) := by
  decide +kernel

/-- RUN and SETUP; in STEADY a request for another mode (the frame asks for COUNTER) and for the same one, and
ALIGN. -/
theorem witness_ChannelsInRunAndSetup :
    Listening live ∧ Listening (inRun .setup) ∧ (frame 2048 2048 0).length = 16
      ∧ live.link.run = .run ∧ receiverFailsafe (frame 2048 2048 0) = false ∧ (inRun .setup).link.run = .setup
      ∧ (mapped (frame 2048 2048 0)).steerSelBand = some 1 ∧ live.tables.steer.modeMap[1] = some .counter
      ∧ live.steering.status = .steady ∧ SteerMode.counter ≠ live.steering.mode ∧ live.steering.active = false
      ∧ (let s := { live with steering := { live.steering with mode := .counter } }
         Listening s ∧ s.link.run = .run ∧ s.steering.status = .steady)
      ∧ (let s := { live with steering := { live.steering with status := .align } }
         Listening s ∧ s.link.run = .run ∧ s.steering.status = .align) := by
  decide +kernel

/-- A throttle of 150, the brake delta, that falls to 0, and one of 149. -/
theorem witness_ThrottlePathInRun :
    (Listening live ∧ (frame 4000 2048 0).length = 16 ∧ live.link.run = .run
        ∧ receiverFailsafe (frame 4000 2048 0) = false)
      ∧ (let s := { live with drive := { live.drive with t2 := 150 } }
         let t := after (.channels (frame 2048 2048 0)) s
         Listening s ∧ s.link.run = .run ∧ t.drive.t2 = 0
           ∧ t.drive.t2.natAbs + s.tables.drive.brakeDelta ≤ s.drive.t2.natAbs)
      ∧ (let s := { live with drive := { live.drive with t2 := 149 } }
         let t := after (.channels (frame 2048 2048 0)) s
         Listening s ∧ s.link.run = .run
           ∧ ¬t.drive.t2.natAbs + s.tables.drive.brakeDelta ≤ s.drive.t2.natAbs) := by
  decide +kernel

theorem witness_FailsafeEntry :
    (live.link.run = .run ∧ live.link.hold.running = true)
      ∧ (frame 2048 2048 1).length = 16 ∧ receiverFailsafe (frame 2048 2048 1) = true ∧ Listening live
      ∧ hauling (winching .haulIn .haulIn 400).winch.state = true
      ∧ (winching .haulIn .haulIn 400).link.run = .run
      ∧ (winching .haulIn .haulIn 400).link.hold.running = true := by
  decide +kernel

/-- A recovery of 3 frames with 1, and with 2, already counted. -/
theorem witness_RecoveryFromFailsafe :
    (∀ n ∈ [1, 2], ∀ fl ∈ [(0 : Byte), 1],
        Listening { inRun .failsafe with link := { (inRun .failsafe).link with recovery := n } }
          ∧ (frame 2048 2048 fl).length = 16)
      ∧ (inRun .failsafe).link.run = .failsafe ∧ receiverFailsafe (frame 2048 2048 1) = true
      ∧ receiverFailsafe (frame 2048 2048 0) = false
      ∧ 1 + 1 < live.tables.link.recovery ∧ live.tables.link.recovery ≤ 2 + 1
      ∧ (inRun .failsafe).link.hold.running = true := by
  decide +kernel

/-! ## Witnesses: SETUP_WRITE, SETUP_READ, QUERY -/

/-- Each refusal of Table 1-5, and a write that passes: the last of the checks that could refuse is the one that
does. -/
theorem witness_SetupWriteChecksInOrder :
    frameOf (.setupWrite [1]) = some (0x42, [1])
      ∧ Listening (inRun .init) ∧ writeRefusal (inRun .init) [1] = some .state
      ∧ Listening (storing (.erasing defaultTables))
      ∧ writeRefusal (storing (.erasing defaultTables)) [1] = some .busy
      ∧ Listening live ∧ writeRefusal live [1] = some .length
      ∧ writeRefusal live [0, 0] = some .table ∧ writeRefusal live [17, 0] = some .table
      ∧ writeRefusal live [6, 4] = some .index ∧ writeRefusal live [6, 3] = some .length
      ∧ writeRefusal live (6 :: 3 :: zeros 13) = some .state
      ∧ writeRefusal (inRun .setup) (6 :: 3 :: zeros 13) = some .range
      ∧ writeRefusal (inRun .setup) (6 :: 3 :: entryBytes defaultTables .corner 3) = none
      ∧ tableIdOf (6 : Byte).toNat = some .corner ∧ (3 : Byte).toNat < entryCount .corner
      ∧ (zeros 13).length = entryLength .corner ∧ (entryBytes defaultTables .corner 3).length = entryLength .corner
      ∧ (ownerAccepts (inRun .setup) (6 :: 3 :: entryBytes defaultTables .corner 3)).isSome = true := by
  decide +kernel

/-- The CORNER entry of a centre of 1500, throws of 400, the limits given, a slew step of 50. -/
def limits (low high : Nat) : List Byte :=
  putU16 1500 ++ putU16 400 ++ putU16 400 ++ putU16 low ++ putU16 high ++ [0, 50, 0]

/-- Tables 3-6, 7-3 and 7-5: the low limit stays below the high one; a cell source of the SCAN list stays within the
cell count, and the cell count at or above the cells the SCAN list names. -/
theorem test_entry_checks :
    [(500, 2500), (499, 2500), (1999, 2000), (2000, 2000)].map (fun x => entryAllowed live 3 (limits x.1 x.2) .corner)
        = [true, false, true, false]
      ∧ [3, 4, 8, 9].map (fun x => entryAllowed live 7 [x, 1] .scan) = [true, false, true, false]
      ∧ [3, 2].map (fun x => entryAllowed live 0 (x :: (entryBytes defaultTables .protect 0).drop 1) .protect)
        = [true, false]
      ∧ entryAllowed live 1 (entryBytes defaultTables .func 0) .func = false := by
  decide +kernel

/-- In SETUP each table takes its own default entry back, at its last index. -/
theorem witness_OwnersTakeTheirRecords :
    (∀ p ∈ [1 :: 7 :: entryBytes defaultTables .func 7, 2 :: 35 :: entryBytes defaultTables .curve 35,
        3 :: 15 :: entryBytes defaultTables .band 15, 5 :: 15 :: entryBytes defaultTables .geom 15,
        6 :: 3 :: entryBytes defaultTables .corner 3, 16 :: 0 :: entryBytes defaultTables .link 0,
        14 :: 3 :: entryBytes defaultTables .budget 3, 4 :: 0 :: entryBytes defaultTables .steer 0,
        7 :: 0 :: entryBytes defaultTables .drive 0, 8 :: 0 :: entryBytes defaultTables .winch 0],
        p.length ≤ 48 ∧ ∃ t, Accepted (inRun .setup) p t)
      ∧ (inRun .setup).winch.state = .idle := by
  refine ⟨?_, rfl⟩
  have h : ∀ p ∈ [1 :: 7 :: entryBytes defaultTables .func 7, 2 :: 35 :: entryBytes defaultTables .curve 35,
      3 :: 15 :: entryBytes defaultTables .band 15, 5 :: 15 :: entryBytes defaultTables .geom 15,
      6 :: 3 :: entryBytes defaultTables .corner 3, 16 :: 0 :: entryBytes defaultTables .link 0,
      14 :: 3 :: entryBytes defaultTables .budget 3, 4 :: 0 :: entryBytes defaultTables .steer 0,
      7 :: 0 :: entryBytes defaultTables .drive 0, 8 :: 0 :: entryBytes defaultTables .winch 0],
      p.length ≤ 48 ∧ writeRefusal (inRun .setup) p = none ∧ (ownerAccepts (inRun .setup) p).isSome = true := by
    decide +kernel
  exact fun p hp => ⟨(h p hp).1, accepted_of_unrefused (by decide) (h p hp).2⟩

/-- The default entry of cue 1 (WHILE, BRAKING, priority 2) written back, with the source true, when its own instance
and 7, or and 8, of the cues 5 to 12 stand, of priorities 3 and 0; and of cue 0 (priority 1) over 8 of priority 2 and
above. -/
def cueing (n : Nat) : State :=
  { live with lights := { live.lights with kept := tab fun _ => true
                                           active := (1 :: ((List.finRange 16).drop 5).take n).map
                                             (newInstance defaultCue) } }

theorem witness_LightTableWrites :
    ((∃ t, Accepted (inRun .setup) (9 :: 11 :: entryBytes defaultTables .lamp 11) t)
        ∧ (∃ t, Accepted live (10 :: 7 :: entryBytes defaultTables .scene 7) t)
        ∧ (∃ t, Accepted live (11 :: 15 :: entryBytes defaultTables .cue 15) t)
        ∧ ∀ n ∈ [7, 8], ∃ t, Accepted (cueing n) (11 :: 1 :: entryBytes defaultTables .cue 1) t)
      ∧ (ownerAccepts live (11 :: 1 :: entryBytes defaultTables .cue 1)).map (·.cue) = some defaultCue
      ∧ (defaultCue[1].enabled = true ∧ defaultCue[1].mode = .whileTrue
          ∧ defaultCue[1].trigger = some (.level .braking) ∧ keptValue (cueing 7).lights.kept .braking = true
          ∧ defaultCue[15].mode ≠ .whileTrue ∧ keptValue live.lights.kept .braking = false)
      ∧ (∀ n ∈ [7, 8], ((cueing n).lights.active.filter fun x => x.cue != 1).length = n)
      ∧ (let left := (cueing 8).lights.active.filter fun x => x.cue != 1
         left = left.take 1 ++ newInstance defaultCue 6 :: left.drop 2 ∧ (left.map (·.cue)).Nodup
           ∧ (∀ x ∈ left.take 1, defaultCue[(6 : Fin 16)].priority < defaultCue[x.cue].priority)
           ∧ (∀ x ∈ left.drop 2, defaultCue[(6 : Fin 16)].priority ≤ defaultCue[x.cue].priority)
           ∧ defaultCue[(6 : Fin 16)].priority < defaultCue[(1 : Fin 16)].priority
           ∧ defaultCue[(6 : Fin 16)].priority ≤ defaultCue[(6 : Fin 16)].priority) := by
  refine ⟨⟨accepted_of_unrefused (by decide) (by decide +kernel), accepted_of_unrefused (by decide) (by decide +kernel),
    accepted_of_unrefused (by decide) (by decide +kernel), ?_⟩, by decide +kernel, by decide +kernel, by decide +kernel,
    by decide +kernel⟩
  have h : ∀ n ∈ [7, 8], Listening (cueing n)
      ∧ writeRefusal (cueing n) (11 :: 1 :: entryBytes defaultTables .cue 1) = none
      ∧ (ownerAccepts (cueing n) (11 :: 1 :: entryBytes defaultTables .cue 1)).isSome = true := by
    decide +kernel
  exact fun n hn => accepted_of_unrefused (h n hn).1 (h n hn).2

/-- IN0 and IN3 with the active level as it was and inverted; the lines are armed. -/
theorem witness_SenseTableWrites :
    ((∃ t, Accepted (inRun .setup) (12 :: 7 :: entryBytes defaultTables .scan 7) t)
        ∧ ∃ t, Accepted (inRun .setup) (13 :: 0 :: entryBytes defaultTables .protect 0) t)
      ∧ (∀ i ∈ [(0 : Byte), 3], ∀ v ∈ [(0 : Byte), 1], ∃ t, Accepted (inRun .setup) [15, i, v, 4] t)
      ∧ (ownerAccepts (inRun .setup) [15, 0, 0, 4]).map (·.input[0].active) = some .low
      ∧ (ownerAccepts (inRun .setup) [15, 0, 1, 4]).map (·.input[0].active) = some .high
      ∧ live.tables.input[0].active = .low ∧ live.inputs.lines[0].armed = true := by
  refine ⟨⟨accepted_of_unrefused (by decide) (by decide +kernel), accepted_of_unrefused (by decide) (by decide +kernel)⟩,
    ?_, by decide +kernel, by decide +kernel, by decide, by decide⟩
  intro i hi v hv
  refine accepted_of_unrefused (by decide) ?_
  have h : ∀ i ∈ [(0 : Byte), 3], ∀ v ∈ [(0 : Byte), 1], writeRefusal (inRun .setup) [15, i, v, 4] = none
      ∧ (ownerAccepts (inRun .setup) [15, i, v, 4]).isSome = true := by
    decide +kernel
  exact h i hi v hv

theorem witness_SetupReadReturnsTheEntry :
    tableIdOf (2 : Byte).toNat = some .curve ∧ (35 : Byte).toNat < entryCount .curve
      ∧ tableIdOf (16 : Byte).toNat = some .link ∧ (0 : Byte).toNat < entryCount .link
      ∧ Listening live ∧ live.link.run ≠ .init ∧ tablesValid live.tables = true
      ∧ Listening (inRun .init) ∧ (inRun .init).link.run = .init
      ∧ (zeros 1).length ≠ 2 ∧ (zeros 48).length ≤ 48
      ∧ u8At [0, 0] 0 = 0 ∧ 16 < u8At [17, 0] 0
      ∧ entriesByTable.getD (u8At [16, 1] 0 - 1) 0 ≤ u8At [16, 1] 1
      ∧ entriesByTable.getD (u8At [1, 8] 0 - 1) 0 ≤ u8At [1, 8] 1 := by
  decide +kernel

theorem witness_QueriesAndUnknownKinds :
    Listening live ∧ live.link.run ≠ .init ∧ Listening (inRun .init) ∧ (inRun .init).link.run = .init
      ∧ (zeros 48).length ≤ 48 ∧ (0x52 : Byte) ∉ [(0x31 : Byte), 0x42, 0x43, 0x44, 0x45] := by
  decide +kernel

/-- The figures of the records at the ends of their ranges. -/
theorem witness_RecordLayouts :
    let s : State := { live with
      scanner := { live.scanner with values := #v[65535, 0, 0, 0, 65535, 16777215, 65535, 32767] }
      protection := { live.protection with cap := 16777215, minCell := 65535 }
      winch := { live.winch with line := 65535, duty := 65535, target := 65535 }
      budget := { live.budget with demand := tab fun _ => 16777215, grant := tab fun _ => 16777215 }
      steering := { live.steering with corners := tab fun _ => ⟨1000, -1000, 0⟩ } }
    s.scanner.values[0] < 65536 ∧ s.scanner.values[4] < 65536 ∧ s.scanner.values[5] < 16777216
      ∧ s.scanner.values[6] < 65536 ∧ s.scanner.values[7] < 32768 ∧ s.protection.minCell < 65536
      ∧ s.protection.cap < 16777216 ∧ s.winch.line.natAbs ≤ 65535 ∧ s.winch.duty < 65536 ∧ s.winch.target < 65536
      ∧ (∀ c : Fin 4, s.tables.budget[c].floor < 65536) ∧ s.budget.capUsed < 16777216
      ∧ (∀ c : Fin 4, s.budget.demand[c] < 16777216 ∧ s.budget.grant[c] < 16777216)
      ∧ (∀ k : Fin 4, s.steering.corners[k].target.natAbs ≤ 1000 ∧ s.steering.corners[k].position.natAbs ≤ 1000)
      ∧ (let l : State := { live with scanner := { live.scanner with values := #v[0, 0, 0, 0, 0, 0, 0, -32768] }
                                      winch := { live.winch with line := -65535 }
                                      steering := { live.steering with corners := tab fun _ => ⟨-1000, 1000, 65535⟩ } }
         (∀ n : Fin 7, 0 ≤ l.scanner.values[n.val]) ∧ -32768 ≤ l.scanner.values[7] ∧ l.winch.line.natAbs ≤ 65535
           ∧ ∀ k : Fin 4, 0 ≤ l.steering.corners[k].width ∧ l.steering.corners[k].width < 65536
               ∧ l.steering.corners[k].target.natAbs ≤ 1000) := by
  decide +kernel

theorem witness_ImageRoundTrip : tablesValid defaultTables = true := by decide +kernel

/-! ## Witnesses: actions -/

/-- A throttle at the neutral window and one above it, with a winch in IDLE; a winch that hauls, and one in
FREESPOOL. -/
theorem witness_EnterSetupAction :
    (∀ r ∈ [RunState.init, .failsafe, .setup], Listening (inRun r))
      ∧ (Listening live ∧ live.link.run = .run ∧ live.winch.state = .idle
          ∧ (50 : Int).natAbs ≤ live.tables.link.neutralWindow ∧ ¬(51 : Int).natAbs ≤ live.tables.link.neutralWindow)
      ∧ (let s := winching .haulIn .haulIn 0
         Listening s ∧ s.link.run = .run ∧ s.winch.state ≠ .idle ∧ s.winch.state ≠ .fault
           ∧ s.winch.state ≠ .freespool ∧ s.winch.state ≠ .clutchOut)
      ∧ (let s := winching .freespool .none 0
         Listening s ∧ s.link.run = .run ∧ s.winch.state = .freespool) := by
  decide +kernel

/-- A complete SCAN list, and one without PACK_I. -/
theorem witness_LeaveSetupAction :
    (Listening live ∧ live.link.run ≠ .setup)
      ∧ (Listening (storing (.programming defaultTables)) ∧ (storing (.programming defaultTables)).link.run = .setup
          ∧ storeInFlight (storing (.programming defaultTables)).store = true)
      ∧ (Listening (inRun .setup) ∧ storeInFlight (inRun .setup).store = false
          ∧ (∀ n : Fin 4, n.val < defaultProtect.cellCount → ∃ k : Fin 8, defaultScan[k].source = some (cellQuantity n))
          ∧ ∃ k : Fin 8, defaultScan[k].source = some .packI)
      ∧ ¬∃ k : Fin 8, (defaultScan.set 3 ⟨none, 1⟩)[k].source = some .packI := by
  decide +kernel

theorem witness_StoreLifecycle :
    (Listening live ∧ live.link.run ≠ .setup)
      ∧ (Listening (storing (.erasing defaultTables)) ∧ storeInFlight (storing (.erasing defaultTables)).store = true)
      ∧ (Listening (inRun .setup) ∧ (inRun .setup).link.run = .setup ∧ storeInFlight (inRun .setup).store = false)
      ∧ (storing (.erasing defaultTables)).store.state = .erasing defaultTables
      ∧ (storing (.programming defaultTables)).store.state = .programming defaultTables
      ∧ (∀ n ∈ [0, 130], Verify.entryUnequal n ≠ .good
          ∧ Verify.entryUnequal n ≠ .checkRead (crc (encodeTables defaultTables))) := by
  decide +kernel

/-- In SETUP with every line active HIGH, at one level, a throttle that DRV holds, and a winch of a state. -/
def resettable (st : WinchState) (level : Level) (throttle : Int) : State :=
  { inRun .setup with
    tables := { defaultTables with input := tab fun _ => ⟨.high, 4⟩ }
    winch := { live.winch with state := st }
    drive := { live.drive with record := { recordAfterReset with throttle := throttle } }
    inputs := { live.inputs with lines := tab fun _ => ⟨level, 0, true⟩ } }

theorem witness_RestoreDefaultsAction :
    (Listening live ∧ live.link.run ≠ .setup)
      ∧ (Listening (storing (.erasing defaultTables)) ∧ (storing (.erasing defaultTables)).link.run = .setup
          ∧ storeInFlight (storing (.erasing defaultTables)).store = true)
      ∧ (Listening (inRun .setup) ∧ (inRun .setup).link.run = .setup ∧ storeInFlight (inRun .setup).store = false
          ∧ released (inRun .setup).winch.state = false)
      ∧ (∀ st ∈ [WinchState.idle, .clutchIn, .fault], ∀ lv ∈ [Level.low, .high], ∀ th ∈ [(-700 : Int), 0, 1000],
          let s := resettable st lv th
          Listening s ∧ s.link.run = .setup ∧ storeInFlight s.store = false ∧ s.winch.state = st
            ∧ s.tables.input[1].active = .high ∧ s.inputs.lines[1].level = lv ∧ s.drive.record.throttle = th
            ∧ s.drive.t2.natAbs < 150)
      ∧ ClaimsFiled (inRun .setup) := by
  exact ⟨by decide +kernel, by decide +kernel, by decide +kernel, by decide +kernel, by constructor <;> decide⟩

/-- R186 and R179: the default active level of IN1 inverts it, which ends CLUTCH_IN when it becomes active. -/
theorem test_restore_defaults :
    (let t := after .restoreDefaults (resettable .clutchIn .low 0)
     t.winch.state = .idle ∧ t.inputs.flags[12] = true ∧ t.tables = defaultTables ∧ t.protection.cap = 30000)
      ∧ (after .restoreDefaults (resettable .clutchIn .high 0)).winch.state = .clutchIn := by
  decide +kernel

/-- In CUTOFF by undervoltage with the cell at 3500, the least that clears it, and at 3499. -/
def cutOff (cell : Int) : State :=
  { live with protection := { live.protection with state := .cutoff, cause := .undervolt, minCell := cell } }

theorem witness_ClearProtectAction :
    (Listening live ∧ live.protection.state ≠ .cutoff)
      ∧ (∀ cell ∈ [(3499 : Int), 3500], Listening (cutOff cell) ∧ (cutOff cell).link.run ≠ .init
          ∧ (cutOff cell).protection.state = .cutoff ∧ (cutOff cell).protection.primed = true
          ∧ (cutOff cell).record.throttle.natAbs ≤ (cutOff cell).tables.link.neutralWindow
          ∧ (cutOff cell).winch.state = .idle)
      ∧ live.tables.protect.vLimit + live.tables.protect.hysteresis = 3500 := by
  decide +kernel

theorem witness_WinchHomeAction :
    (Listening live ∧ live.link.run ≠ .init ∧ live.winch.state = .idle)
      ∧ (Listening (winching .fault .none 0) ∧ (winching .fault .none 0).link.run ≠ .init
          ∧ (winching .fault .none 0).winch.state ≠ .idle)
      ∧ (let s := { live with winch := { live.winch with homed := true } }
         exec .powerOnReset s = .next (after .powerOnReset s) ∧ s.winch.homed = true
           ∧ (after .powerOnReset s).winch.homed = false)
      ∧ exec .winchHome live = .next (after .winchHome live) ∧ live.winch.homed = false
      ∧ (after .winchHome live).winch.homed = true :=
  ⟨by decide +kernel, by decide +kernel, ⟨rfl, rfl, by decide +kernel⟩, rfl, rfl, by decide +kernel⟩

/-- A winch in FAULT by HOT at a temperature below the warn of 90 and at it, and with the clutch switch active. -/
def faulted (temp : Int) (in1 : Level) : State :=
  { live with winch := { live.winch with state := .fault, cause := .hot, temp := temp }
              inputs := { live.inputs with lines := live.inputs.lines.set 1 { lineAfterReset with level := in1 } } }

theorem witness_WinchClearAction :
    (∀ t ∈ [(89 : Int), 90], ∀ l ∈ [Level.low, .high], Listening (faulted t l) ∧ (faulted t l).link.run ≠ .init
        ∧ (faulted t l).winch.state = .fault ∧ (faulted t l).winch.command = 0
        ∧ (faulted t l).winch.cause = .hot ∧ (faulted t l).winch.temp = t)
      ∧ live.tables.winch.tempWarn = 90
      ∧ inputActive (faulted 89 .low) 1 = true ∧ inputActive (faulted 89 .high) 1 = false
      ∧ (faulted 89 .low).winch.request = false
      ∧ (let s := { faulted 89 .low with winch := { (faulted 89 .low).winch with request := true } }
         s.link.run = .run ∧ s.protection.state ≠ .cutoff ∧ s.winch.releaseBlock = false ∧ inputActive s 1 = true) := by
  decide +kernel

/-! ## Witnesses: function mapping, steering, drive -/

theorem witness_NormalizationStages :
    ((0 ≤ 4095 ∧ defaultFunc[0].centre ≤ 4095 ∧ 200 ≤ defaultFunc[0].span)
        ∧ (30 ≤ 200 ∧ (30 : Int).natAbs ≤ 30 ∧ 30 < (31 : Int).natAbs ∧ (-1000 : Int).natAbs = 1000))
      ∧ (∀ i ≤ 7, defaultCurve[0 * 9 + i]?.isSome = true ∧ defaultCurve[3 * 9 + i + 1]?.isSome = true)
      ∧ (-1000 + 250 * (3 : Int) ≤ -1 ∧ (-1 : Int) < -750 + 250 * 3)
      ∧ -1000 + 250 * (7 : Int) ≤ 1000 := by
  decide +kernel

/-- The default tables with THROTTLE on curve 2. -/
def curved : Tables := { defaultTables with func := defaultFunc.set 1 { defaultFunc[1] with curve := some 2 } }

/-- FUNC entries with a source and no curve, with a curve, and with no source; the bytes of the last channel pair. -/
theorem witness_NormalizationStages_slots :
    (curved.func[0].source = some 0 ∧ curved.func[0].curve = none ∧ curved.func[1].source = some 1 ∧ curved.func[1].curve = some 2
        ∧ curved.func[7].source = none)
      ∧ (∃ value : Fin 8 → Int, ∀ n : Fin 8, (curved.func[n].source = none → value n = 0)
          ∧ ∀ (c : Fin 10) (v : Int), curved.func[n].source = some c →
              v = applyDeadband curved.func[n].deadband (scaleRaw curved.func[n] (rawChannels (frame 4000 100 0))[c]) →
              (curved.func[n].curve = none → value n = v)
                ∧ ∀ k : Fin 4, curved.func[n].curve = some k → value n = applyCurve curved.curve k v)
      ∧ (frame 4000 100 0)[3 * (4 : Fin 5).val + 2]? = some 0 := by
  refine ⟨by decide +kernel, ⟨fun n => slotValue curved (rawChannels (frame 4000 100 0)) curved.func[n], fun n => ⟨fun h => ?_, ?_⟩⟩, by decide⟩
  · simp only [slotValue, h]
  · rintro c v h rfl
    exact ⟨fun hc => by simp only [slotValue, h, hc], fun k hk => by simp only [slotValue, h, hk]⟩

/-- R38: each value is that of its own FUNC entry's channel; THROTTLE and WINCH by the figures of `frame`. -/
theorem test_normalize_slots :
    (mapped (frame 4000 100 0)).throttle = 1000 ∧ (mapped (frame 4000 100 0)).winch = -1000
      ∧ (mapped (frame 4000 100 0)).steer = 0 ∧ (mapped (frame 4000 100 0)).aux2 = 0
      ∧ (mapped (frame 4000 100 0)).rate = 0 ∧ (mapped (frame 4000 100 0)).rateUnsourced = true := by
  decide

/-- The default entries, raw values 900 (band 0 by entry 0) and 2048 (entry 3 alone), and a slot none names. -/
theorem witness_BandsByFirstMatch :
    (tablesValid defaultTables = true ∧ ∀ c : Fin 10, (tab fun _ => 4095 : Vector Nat 10)[c] < 4096)
      ∧ ((defaultBand[0].slot = some .steerSel
            ∧ ∀ j : Fin 6, j.val < defaultBand[0].width →
                (900 : Nat).testBit (11 - j.val) = defaultBand[0].pattern.testBit (5 - j.val))
          ∧ ¬∀ j : Fin 6, j.val < defaultBand[0].width →
                (2048 : Nat).testBit (11 - j.val) = defaultBand[0].pattern.testBit (5 - j.val))
      ∧ ∀ n : Fin 16, defaultBand[n].slot ≠ some .aux1 := by
  decide +kernel

theorem recordInRange_reset : RecordInRange recordAfterReset := by constructor <;> decide

theorem witness_RecordsAndMeasuresStayInRange :
    RecordsSound (live.withPending [.channels (frame 4095 0 0)])
      ∧ ScannerSound (live.withPending [.conversionEnd (sensing 5000)]) := by
  refine ⟨⟨by decide +kernel, recordInRange_reset, recordInRange_reset, recordInRange_reset, recordInRange_reset⟩,
    by decide +kernel, ?_, ?_, by intro q; cases q <;> decide⟩
  · intro p h k
    obtain rfl : p = ⟨defaultScan, 0, 0, 0⟩ := by
      have : live.scanner.pass = some ⟨defaultScan, 0, 0, 0⟩ := by decide +kernel
      exact Option.some.inj (h.symm.trans this)
    revert k
    decide
  · intro p h
    obtain rfl : p = ⟨defaultScan, 0, 0, 0⟩ := by
      have : live.scanner.pass = some ⟨defaultScan, 0, 0, 0⟩ := by decide +kernel
      exact Option.some.inj (h.symm.trans this)
    exact ⟨.cell1, by decide, by decide, by decide, by decide⟩

/-- A turn to the right at full rate with an outer and an inner corner, and a width whose quotient ends in a
half. -/
theorem witness_CornerTargetsAndWidths :
    (RecordInRange (steered 600 none) ∧ RecordInRange (steered (-1000) (some (-1000))))
      ∧ geomInRange (geomEntry defaultGeom .counter 0) = true ∧ -1000 ≤ scaledSteer (steered 600 none)
      ∧ cornerInRange { defaultCorner[0] with throwPos := 300 } = true
      ∧ 2 * (1000 * ((1502 : Int) - 1500) - 5 * 300).natAbs = 1000
      ∧ ((5 : Int) * 300).natAbs < (1000 * ((1502 : Int) - 1500)).natAbs :=
  ⟨⟨by constructor <;> decide, by constructor <;> decide⟩, by decide, by decide, by decide, by decide, by decide⟩

/-- Corner pulses OFF; ACTIVE and STEADY; in ALIGN with every corner at 0 (the winch hauling and not), and with
one that is not; a DRIVE grant that equals the grant used and one that differs, whose throttle of 0 is a fall from a t2
of 150, the brake delta, and none from 149. -/
theorem witness_ServoPeriodStart :
    live.drive.period.running = true ∧ live.steering.active = false
      ∧ (∀ st ∈ [SteerStatus.steady, .align], ∀ w ∈ [WinchState.idle, .haulIn], ∀ a ∈ [(0 : Int), 300],
          let s := { winching w .none 0 with
                     steering := { live.steering with active := true, status := st,
                                                      corners := tab fun _ => ⟨0, a, 1500⟩ } }
          s.drive.period.running = true ∧ s.steering.active = true
            ∧ ((after .servoPeriodStart s).steering.corners[0].position = 0 ↔ a = 0))
      ∧ (∀ g ∈ [0, 5000], ∀ x ∈ [(149 : Int), 150],
          let s := { live with drive := { live.drive with t2 := x }
                               budget := { live.budget with grant := #v[0, g, 0, 0] } }
          s.drive.period.running = true ∧ (s.budget.grant[1] = s.drive.grantUsed ↔ g = 0)
            ∧ (after .servoPeriodStart s).drive.t2 = (if g = 0 then x else 0)
            ∧ (0 + s.tables.drive.brakeDelta ≤ s.drive.t2.natAbs ↔ x = 150)) := by
  decide +kernel

theorem witness_PositionsMoveOnlyAtPeriodStarts :
    ((20 : Int) - 0).natAbs ≤ 20 ∧ 20 < ((21 : Int) - 0).natAbs
      ∧ exec .cueTick live = .next (after .cueTick live) ∧ 1 ≤ live.tables.corner[0].slewStep :=
  ⟨by decide, by decide, rfl, by decide⟩

/-- A part in ALIGN whose corners stand at 0, with COUNTER requested. -/
def aligned : State :=
  { live with steering := { live.steering with active := true, status := .align, requested := .counter, filed := 600 } }

theorem witness_SteerModeChangesOnlyCentred :
    (exec .servoPeriodStart aligned = .next (after .servoPeriodStart aligned)
        ∧ (after .servoPeriodStart aligned).steering.mode ≠ aligned.steering.mode)
      ∧ StartUp ({ aligned with drive := { live.drive with s6Active := true } }.withPending [.servoPeriodStart])
      ∧ SteeringSound ({ aligned with drive := { live.drive with s6Active := true } }.withPending [.servoPeriodStart]) :=
  ⟨⟨rfl, by decide +kernel⟩, by constructor <;> decide +kernel, by constructor <;> decide +kernel⟩

theorem witness_TimerExpiriesStop :
    (let s := { live with drive := { live.drive with braking := true, brakingTimer := ⟨true, 500, 1⟩ } }
     s.drive.brakingTimer.running = true ∧ s.drive.braking = true)
      ∧ (∀ st ∈ [WinchState.haulIn, .fault, .clutchIn, .clutchOut],
          let s := { live with winch := { live.winch with state := st, stallTimer := ⟨true, 300, 1⟩
                                                          noMotionTimer := ⟨true, 400, 1⟩
                                                          clutchTimer := ⟨true, 800, 1⟩ } }
          s.winch.stallTimer.running = true ∧ s.winch.noMotionTimer.running = true
            ∧ s.winch.clutchTimer.running = true) := by
  decide +kernel

/-! ## Witnesses: winch, lights -/

/-- A haul, and a ramp-down of one step that ends, with the freespool request absent and present. -/
theorem witness_RampTick :
    (winching .haulIn .haulIn 400).winch.ticking = true
      ∧ (∀ rq ∈ [false, true],
          let s := { winching .rampDown .haulIn 5 with winch := { (winching .rampDown .haulIn 5).winch with request := rq } }
          s.winch.ticking = true ∧ s.winch.state = .rampDown ∧ (after .rampTick s).winch.duty = 0) := by
  decide +kernel

/-- A homed pay-out that steps to the max line count, a homed haul that steps past the home allowance, and a step
beyond the ends. -/
def paying (st : WinchState) (line : Int) : State :=
  { winching st .payOut 100 with winch := { (winching st .payOut 100).winch with homed := true, line := line } }

theorem witness_EncoderAndLineCount :
    (∀ x ∈ [(WinchState.payOut, (11999 : Int)), (.haulIn, -50), (.payOut, 65535)], (paying x.1 x.2).winch.ticking = true)
      ∧ (Level.high, Level.low) = payOutNext (live.winch.enca, live.winch.encb)
      ∧ (live.winch.enca, live.winch.encb) = payOutNext (Level.low, Level.high)
      ∧ (11999 : Int) + 1 = live.tables.winch.maxLine ∧ (-50 : Int) - 1 < -(live.tables.winch.homeAllowance : Int)
      ∧ (65534 + 1 : Int).natAbs ≤ 65535 ∧ ¬(65535 + 1 : Int).natAbs ≤ 65535
      ∧ exec (.encoderCount .high .low) live = .next (after (.encoderCount .high .low) live)
      ∧ (after (.encoderCount .high .low) live).winch.line ≠ live.winch.line :=
  ⟨by decide +kernel, by decide, by decide, by decide, by decide, by decide, by decide, rfl, by decide +kernel⟩

/-- Commands of +1000, 0 and −1000 in IDLE, HAUL_IN, PAY_OUT and RAMP_DOWN, with IN0 inactive and the line count
at the max line count. -/
theorem witness_WinchCommandInRun :
    (∀ x ∈ [100, 2048, 4000], (frame 2048 x 0).length = 16 ∧ receiverFailsafe (frame 2048 x 0) = false
        ∧ freespoolRequest live.tables.winch (normalize live.tables (rawChannels (frame 2048 x 0)) live.record) = false)
      ∧ (∀ y ∈ [(WinchState.idle, Direction.none), (.haulIn, .haulIn), (.payOut, .payOut), (.rampDown, .haulIn),
            (.rampDown, .payOut)],
          Listening (winching y.1 y.2 0) ∧ (winching y.1 y.2 0).link.run = .run
            ∧ (winching y.1 y.2 0).protection.state ≠ .cutoff ∧ inputActive (winching y.1 y.2 0) 0 = false
            ∧ (winching y.1 y.2 0).winch.homed = false)
      ∧ (paying .idle 12000).winch.homed = true
      ∧ (live.tables.winch.maxLine : Int) ≤ (paying .idle 12000).winch.line := by
  decide +kernel

/-- Cue 7 at the end of its last cycle, chained to cue 8, with cues 9 and 10 triggered by its CUE_DONE. -/
def chained : State :=
  { live with
    tables := { defaultTables with
      cue := tab fun k =>
        if k = 7 then { cueUnused with enabled := true, chain := some 8 }
        else if k = 8 then { cueUnused with enabled := true }
        else if k = 9 ∨ k = 10 then { cueUnused with enabled := true, trigger := some (.edge (.cueDone 7)) }
        else cueUnused }
    lights := { live.lights with active := [⟨7, false, 1, 1⟩] } }

/-- Cue 7 at the end of its last cycle, a LATCH instance of cue 11 that CUE_DONE(7) cancels, and five more. -/
def crowded : State :=
  { chained with
    tables := { chained.tables with
      cue := chained.tables.cue.set 11 { cueUnused with enabled := true, mode := .latch, trigger := some (.edge .lineEnd)
                                                        cancel := some (.edge (.cueDone 7)) } }
    lights := { live.lights with
      active := ⟨7, false, 1, 1⟩ :: [11, 0, 1, 2, 3, 4].map fun k => ⟨k, true, 2, 1⟩ } }

/-- The terms of a cue tick: what ends, what an instance becomes, what a completion leaves and what it starts. -/
def cueEnds (s : State) (i : CueInstance) : Bool :=
  decide (i.timeLeft ≤ 1 ∧ i.phaseOn = false ∧ s.tables.cue[i.cue].mode = .oneShot ∧ i.cyclesLeft ≤ 1)
def cueNext (s : State) (i : CueInstance) : CueInstance :=
  if 1 < i.timeLeft then { i with timeLeft := i.timeLeft - 1 }
  else if i.phaseOn = true then { i with phaseOn := false, timeLeft := s.tables.cue[i.cue].offTime }
  else if s.tables.cue[i.cue].mode ≠ .oneShot then { i with phaseOn := true, timeLeft := s.tables.cue[i.cue].onTime }
  else if 1 < i.cyclesLeft then
    { i with phaseOn := true, timeLeft := s.tables.cue[i.cue].onTime, cyclesLeft := i.cyclesLeft - 1 }
  else i
def cueLeft (s : State) (i : CueInstance) (l : List CueInstance) : List CueInstance :=
  l.filter fun j => decide (j.cue ≠ i.cue
    ∧ ¬(s.tables.cue[j.cue].mode = .latch ∧ s.tables.cue[j.cue].cancel = some (.edge (.cueDone i.cue))))
def cueChained (s : State) (i : CueInstance) : List (Fin 16) :=
  match s.tables.cue[i.cue].chain with
  | some j =>
    if s.tables.cue[j].enabled = true
        ∧ (s.tables.cue[j].mode = .whileTrue → triggerTrue s.lights.kept s.tables.cue[j] = true) then [j] else []
  | none => []
def cueTriggered (s : State) (i : CueInstance) (l : List CueInstance) : List (Fin 16) :=
  (List.finRange 16).filter fun j =>
    decide (s.tables.cue[j].enabled = true ∧ s.tables.cue[j].trigger = some (.edge (.cueDone i.cue))
      ∧ ¬(s.tables.cue[j].mode = .latch ∧ s.tables.cue[j].cancel = s.tables.cue[j].trigger ∧ ∃ x ∈ l, x.cue = j))

/-- The terms stand for every state; a list none of whose instances completes (1 and 2 ticks left, ON and OFF, a ONE_SHOT
with 2 cycles left), and one of which one completes, with room for exactly what it starts. -/
theorem witness_CueTick :
    (∀ s : State, (∀ i, cueEnds s i = true ↔ i.timeLeft ≤ 1 ∧ i.phaseOn = false ∧ s.tables.cue[i.cue].mode = .oneShot
          ∧ i.cyclesLeft ≤ 1)
        ∧ (∀ i, (1 < i.timeLeft → cueNext s i = { i with timeLeft := i.timeLeft - 1 })
          ∧ (i.timeLeft ≤ 1 → i.phaseOn = true →
              cueNext s i = { i with phaseOn := false, timeLeft := s.tables.cue[i.cue].offTime })
          ∧ (i.timeLeft ≤ 1 → i.phaseOn = false → s.tables.cue[i.cue].mode ≠ .oneShot →
              cueNext s i = { i with phaseOn := true, timeLeft := s.tables.cue[i.cue].onTime })
          ∧ (i.timeLeft ≤ 1 → i.phaseOn = false → s.tables.cue[i.cue].mode = .oneShot → 1 < i.cyclesLeft →
              cueNext s i = { i with phaseOn := true, timeLeft := s.tables.cue[i.cue].onTime
                                     cyclesLeft := i.cyclesLeft - 1 })
          ∧ (cueEnds s i = true → cueNext s i = i))
        ∧ ∀ i, (cueChained s i).length ≤ 1
          ∧ ∀ j, j ∈ cueChained s i ↔ s.tables.cue[i.cue].chain = some j ∧ s.tables.cue[j].enabled = true
              ∧ (s.tables.cue[j].mode = .whileTrue →
                  ∃ l, s.tables.cue[j].trigger = some (.level l) ∧ keptValue s.lights.kept l = true))
      ∧ (let s := { crowded with lights := { live.lights with active :=
           [⟨0, true, 2, 1⟩, ⟨1, true, 1, 1⟩, ⟨11, false, 1, 1⟩, ⟨7, false, 1, 2⟩] } }
         s.lights.ticking = true ∧ (s.lights.active.map (·.cue)).Nodup ∧ s.lights.active.all (fun i => !cueEnds s i) = true)
      ∧ (let i : CueInstance := ⟨7, false, 1, 1⟩
         let l := crowded.lights.active.map (cueNext crowded)
         crowded.lights.ticking = true ∧ (crowded.lights.active.map (·.cue)).Nodup
           ∧ crowded.lights.active.filter (cueEnds crowded) = [i] ∧ i ∈ l
           ∧ cueChained crowded i = [8] ∧ cueTriggered crowded i l = [9, 10]
           ∧ (∀ j ∈ [(8 : Fin 16), 9, 10], ∀ x ∈ cueLeft crowded i l, x.cue ≠ j)
           ∧ (cueLeft crowded i l).length + 3 = 8) := by
  refine ⟨fun s => ⟨fun i => by simp [cueEnds], fun i => ?_, fun i => ?_⟩, by decide +kernel, by decide +kernel⟩
  · refine ⟨fun h => by simp [cueNext, h], fun h p => ?_, fun h p m => ?_, fun h p m c => ?_, fun e => ?_⟩
    · rw [cueNext, if_neg (Nat.not_lt.mpr h), if_pos p]
    · rw [cueNext, if_neg (Nat.not_lt.mpr h), if_neg (by simp [p]), if_pos m]
    · rw [cueNext, if_neg (Nat.not_lt.mpr h), if_neg (by simp [p]), if_neg (not_not_intro m), if_pos c]
    · obtain ⟨h, p, m, c⟩ := of_decide_eq_true e
      rw [cueNext, if_neg (Nat.not_lt.mpr h), if_neg (by simp [p]), if_neg (not_not_intro m), if_neg (Nat.not_lt.mpr c)]
  · unfold cueChained
    cases hc : s.tables.cue[i.cue].chain with
    | none => simp
    | some k =>
      simp only [← triggerTrue_iff]
      split
      · next h => exact ⟨by simp, fun j => ⟨fun hj => by obtain rfl := List.mem_singleton.mp hj; exact ⟨rfl, h⟩,
          fun hj => by simpa using (Option.some.inj hj.1).symm⟩⟩
      · next h => exact ⟨by simp, fun j => ⟨fun hj => absurd hj List.not_mem_nil,
          fun hj => absurd (by obtain rfl := Option.some.inj hj.1; exact hj.2) h⟩⟩

/-- R129 and R130: the completion of cue 7 removes the LATCH that its CUE_DONE cancels, and starts what it chains to and
triggers behind the five that run on. -/
theorem test_cue_cancel : (after .cueTick crowded).lights.active.map (·.cue) = [0, 1, 2, 3, 4, 8, 9, 10] := by
  decide +kernel

/-- R129: at its completion cue 7 starts the cue it chains to and then, in ascending order, those its CUE_DONE
triggers. -/
theorem test_cue_completion : (after .cueTick chained).lights.active.map (·.cue) = [8, 9, 10] := by decide +kernel

/-- Seven and eight instances; of the default cues 0 to 7, cue 6 is the oldest of priority 0. -/
theorem witness_ActiveCueListCapacity :
    CueListSound (live.withPending [.cueTick])
      ∧ (∀ n ∈ [7, 8],
          let l : List CueInstance := ((List.finRange 16).take n).map (newInstance defaultCue)
          l.length = n ∧ (l.map (·.cue)).Nodup)
      ∧ (let l : List CueInstance := ((List.finRange 16).take 8).map (newInstance defaultCue)
         l = l.take 6 ++ newInstance defaultCue 6 :: l.drop 7
           ∧ (∀ i ∈ l.take 6, defaultCue[(6 : Fin 16)].priority < defaultCue[i.cue].priority)
           ∧ (∀ i ∈ l.drop 7, defaultCue[(6 : Fin 16)].priority ≤ defaultCue[i.cue].priority)) :=
  ⟨⟨by decide, by decide⟩, by decide +kernel, by decide +kernel⟩

/-- Cue 0 as by default (WHILE, REVERSE), cue 7 a LATCH that IN_EDGE(2) starts and cancels, cue 8 a LATCH that BRAKING
cancels; the source that rises, falls or fires at an event. -/
def latching (active : List (Fin 16)) (kept : List LevelSource) : State :=
  { live with
    tables := { defaultTables with
      cue := (defaultCue.set 7 { cueUnused with enabled := true, mode := .latch, trigger := some (.edge (.inEdge 2))
                                                cancel := some (.edge (.inEdge 2)) }).set 8
        { cueUnused with enabled := true, mode := .latch, trigger := some (.edge .lineEnd)
                         cancel := some (.level .braking) } }
    lights := { live.lights with
      kept := keptAfter (kept.map fun l => (l, true)) live.lights.kept
      active := active.map (newInstance defaultCue) } }

/-- The cues of the list after an event. -/
def cuesAfter (m : LightMsg) (s : State) : List (Fin 16) := (lightEvent m s).lights.active.map (·.cue)

/-- R124, R125 and R130. A rise starts, a fall removes, a cancel removes and the rise that cancels starts; a LATCH whose
cancel is its trigger toggles; a running cue is left as it stands. -/
theorem test_light_events :
    cuesAfter { sets := [(.reverse, true)], fired := none } (latching [2] []) = [2, 0]
      ∧ cuesAfter { sets := [(.reverse, false)], fired := none } (latching [2, 0] [.reverse]) = [2]
      ∧ cuesAfter { sets := [(.braking, true)], fired := none } (latching [8, 2] []) = [2, 1]
      ∧ cuesAfter { sets := [], fired := some (.inEdge 2) } (latching [2] []) = [2, 7]
      ∧ cuesAfter { sets := [], fired := some (.inEdge 2) } (latching [7, 2] []) = [2]
      ∧ cuesAfter { sets := [(.reverse, true)], fired := none } (latching [0, 2] []) = [0, 2] := by
  decide +kernel

/-- The invariant of WHILE instances, and the terms of an event: for every event there are an `occurs`, a `gone` and an
`asks` as the statement asks for; one that starts within 8 instances. The states of the commands that are one event. -/
theorem witness_ActiveCueListCapacity_events :
    (StartUp (live.withPending [.cueTick]) ∧ tablesValid live.tables = true ∧ CuesFollowSources (live.withPending [.cueTick]))
      ∧ (let s := latching [8, 2] []
         let y := lightsEvent s.tables 0 false { sets := [(.braking, true)], fired := none } s.lights
         (∀ src, happens s.lights.kept y.kept none src = true ↔
            (∃ l, src = some (.level l) ∧ keptValue s.lights.kept l = false ∧ keptValue y.kept l = true)
              ∨ ∃ e, src = some (.edge e) ∧ (none : Option EdgeSource) = some e)
           ∧ (∀ i, removedAt s.tables.cue s.lights.kept y.kept none i = true ↔
              (s.tables.cue[i.cue].mode = .whileTrue ∧ ∃ l, s.tables.cue[i.cue].trigger = some (.level l)
                  ∧ keptValue s.lights.kept l = true ∧ keptValue y.kept l = false)
                ∨ (s.tables.cue[i.cue].mode = .latch
                  ∧ happens s.lights.kept y.kept none s.tables.cue[i.cue].cancel = true))
           ∧ [(LevelSource.braking, true)].map Prod.fst = [.braking] ∧ 1 + 1 ≤ 8)
      ∧ (let s : State := { inRun .setup with steering := { live.steering with status := .align } }
         Listening s ∧ s.link.run = .setup ∧ s.drive.t2 = 0 ∧ s.drive.reverse = false
           ∧ 1 ≤ s.tables.drive.brakeDelta ∧ s.winch.state = .idle)
      ∧ (∀ n ∈ [(2 : Fin 4), 3], ∀ v ∈ [Level.low, .high],
          let o : Level := if v = .low then .high else .low
          let s := { live with inputs := { live.inputs with lines := tab fun j => ⟨if j = n then o else .high, 4, true⟩ } }
          s.inputs.ticking = true ∧ v ≠ s.inputs.lines[n].level
            ∧ s.tables.input[n].debounce ≤ s.inputs.lines[n].runCount
            ∧ ∀ j : Fin 4, j ≠ n → Level.high = s.inputs.lines[j].level)
      ∧ (let s := { live with drive := { live.drive with braking := true, brakingTimer := ⟨true, 500, 1⟩ } }
         s.drive.brakingTimer.running = true ∧ s.drive.braking = true)
      ∧ ((paying .idle 11999).winch.ticking = true ∧ (paying .idle 11999).winch.homed = true
          ∧ (paying .idle 11999).winch.line + 1 = (live.tables.winch.maxLine : Int)
          ∧ live.tables.winch.maxLine ≤ 65535 ∧ (paying .idle 11999).winch.state ≠ .payOut) :=
  ⟨⟨by constructor <;> decide +kernel, by decide +kernel, fun _ => rfl, fun _ h => absurd h (List.not_mem_nil)⟩,
    ⟨happens_iff _ _ _, removedAt_iff _ _ _ _, rfl, by decide⟩, by decide +kernel, by decide +kernel, by decide +kernel,
    by decide +kernel⟩

theorem levelsSound_live : LevelsSound live := by constructor <;> decide +kernel

/-- Two instances of cues 0 and 1 on output 10 and 9, and an output that no mask names. -/
theorem witness_LevelsStayComposed :
    ((LevelsSound (live.withPending [.cueTick]) ∧ CueListSound (live.withPending [.cueTick]))
        ∧ StartUp (live.withPending [.cueTick]) ∧ SourcesFollowOwners (live.withPending [.cueTick]))
      ∧ (let l := [newInstance defaultCue 0, newInstance defaultCue 4, newInstance defaultCue 5]
         l = l.take 1 ++ newInstance defaultCue 4 :: l.drop 2 ∧ defaultTables.lamp[(10 : Fin 12)].enabled = true
           ∧ defaultCue[(4 : Fin 16)].mask.getLsbD 10 = true
           ∧ (∀ i ∈ l.take 1, defaultCue[i.cue].priority ≤ defaultCue[(4 : Fin 16)].priority)
           ∧ (∀ i ∈ l.drop 2, defaultCue[i.cue].mask.getLsbD 10 = true →
               defaultCue[i.cue].priority < defaultCue[(4 : Fin 16)].priority)
           ∧ ∀ i ∈ l.take 1, defaultCue[i.cue].mask.getLsbD 0 = false) :=
  ⟨⟨⟨⟨levelsSound_live.composed, levelsSound_live.demand, levelsSound_live.dimming, levelsSound_live.outputs⟩,
    by decide, by decide⟩, by constructor <;> decide +kernel, by constructor <;> decide +kernel⟩, by decide +kernel⟩

/-- R133 and R134: twelve lamps of 2 mA at level 254 ask for 1 mA each; under a grant of 11 each output is 232. -/
theorem test_lights_demand :
    lightsDemand (tab fun _ => ⟨2, true⟩) (tab fun _ => 254) = 12 ∧ dimmingFor 12 11 = 916
      ∧ 254 * dimmingFor 12 11 / 1000 = 232 := by
  decide

/-! ## Witnesses: battery, budget -/

/-- A part at the last conversion of a slot of a source, in a list of one such slot alone or with another after it. -/
def converting (q : Quantity) (more : Bool) (w : Winch) : State :=
  { live with
    winch := w
    scanner := { live.scanner with
      pass := some { list := (tab fun k => ⟨if k = 0 ∨ (more = true ∧ k = 1) then some q else none, 1⟩),
                     slot := 0, done := 0, sum := 0 } } }

/-- Each source as the last conversion of the last slot and of another; WINCH_I at the stall current of 20000 and
below it, with a duty and without; TEMP at the trip of 110 and below it, in FAULT by HOT and by another cause and
outside FAULT; PACK_V with each cell count. -/
theorem witness_ConversionEnd_values :
    (∀ q ∈ [Quantity.cell1, .packV, .packI, .winchI, .temp], ∀ m ∈ [false, true],
        let s := converting q m live.winch
        let p := s.scanner.pass.getD ⟨defaultScan, 0, 0, 0⟩
        s.scanner.pass = some p ∧ p.list[p.slot].source = some q ∧ p.list[p.slot].count ≤ p.done + 1
          ∧ (m = true ↔ ¬∀ k : Fin 8, p.slot < k → p.list[k].source = none))
      ∧ live.tables.winch.stallCurrent = 20000 ∧ live.tables.winch.tempTrip = 110
      ∧ (∀ n ∈ [2, 3, 4], sourceInput n (sensing 0) .packV = 3700 * n)
      ∧ (let t := after (.conversionEnd (sensing 20000)) (converting .winchI true { live.winch with duty := 5 })
         t.winch.winchI = 20000 ∧ t.winch.stallTimer.running = true)
      ∧ (let t := after (.conversionEnd (sensing 19999))
          (converting .winchI true { live.winch with duty := 5, stallTimer := ⟨true, 9, 1⟩ })
         t.winch.winchI = 19999 ∧ t.winch.stallTimer.running = false)
      ∧ (after (.conversionEnd (sensing 110)) (converting .temp false live.winch)).winch.cause = .hot
      ∧ (after (.conversionEnd (sensing 109)) (converting .temp false live.winch)).winch.state = .idle
      ∧ (after (.conversionEnd (sensing 110)) (converting .temp true (faulted 100 .low).winch)).winch.further = false
      ∧ (after (.conversionEnd (sensing 110))
          (converting .temp true { live.winch with state := .fault, cause := .stall })).winch.further = true := by
  decide +kernel

/-- The first, the fourth and last conversion of slot 0, and the one conversion of slot 6, after which the pass
ends. -/
theorem witness_ConversionEnd :
    ∀ x ∈ [((0 : Fin 8), 0, Quantity.cell1), (0, 3, .cell1), (6, 0, .packV)],
      let p : Pass := ⟨defaultScan, x.1, x.2.1, 0⟩
      let s : State := { live with scanner := { live.scanner with pass := some p } }
      s.scanner.pass = some p ∧ p.list[p.slot].source = some x.2.2
        ∧ (x = (6, 0, .packV) → ∀ k : Fin 8, p.slot < k → p.list[k].source = none) := by
  decide +kernel

/-- Counters at their bounds: a trip, an undervoltage and a fall; and a state of each kind. -/
theorem witness_PassEvaluation :
    (∀ st ∈ [ProtState.normal, .caution, .limit, .cutoff],
        ({ live with protection := { live.protection with state := st } } : State).protection.primed = true)
      ∧ (countersAfter defaultProtect (some 3700) 45001 { countersZero with overcurrent := 4 }).overcurrent
          = defaultProtect.pOc
      ∧ (countersAfter defaultProtect (some 3199) 0 { countersZero with cutoff := 1999 }).cutoff = defaultProtect.pCut
      ∧ (countersAfter defaultProtect (some 3399) 0 { countersZero with limit := 49 }).limit = defaultProtect.pFall
      ∧ (countersAfter defaultProtect (some 3399) 0 { countersZero with limit := 49 }).overcurrent ≠ defaultProtect.pOc
      ∧ (countersAfter defaultProtect (some 3399) 0 { countersZero with limit := 49 }).cutoff ≠ defaultProtect.pCut := by
  decide +kernel

/-- A pass over the default list, whose cells 1 to 3 read 3399 at the lowest, with every counter one short; unprimed;
and the last conversion of its last slot. -/
def evaluating (st : ProtState) : State :=
  { live with
    protection := { live.protection with state := st, counters := ⟨49, 49, 1999, 199, 199, 4⟩ }
    scanner := { values := #v[3700, 3399, 3700, 0, 11100, 0, 0, 20], pass := some ⟨defaultScan, 6, 0, 0⟩ } }

theorem witness_PassEvaluation_counters :
    (let c : Counters := ⟨50, 50, 0, 0, 0, 0⟩
     CountsPass True 50 49 c.caution ∧ CountsPass True 50 49 c.limit ∧ CountsPass False 2000 1999 c.cutoff
       ∧ CountsPass False 200 199 c.toCaution ∧ CountsPass False 200 199 c.toNormal ∧ CountsPass False 5 4 c.overcurrent)
      ∧ (∃ n : Fin 4, n.val < 3 ∧ (evaluating .normal).scanner.values[n.val] < 3400)
      ∧ (∀ n : Fin 4, (n.val < 3 ↔ n.val < defaultProtect.cellCount
          ∧ ∃ k : Fin 8, defaultScan[k].source = some (#v[Quantity.cell1, .cell2, .cell3, .cell4])[n]))
      ∧ (∀ n : Fin 4, n.val < 3 → ¬(evaluating .normal).scanner.values[n.val] < 3200)
      ∧ (evaluating .normal).scanner.pass = some ⟨defaultScan, 6, 0, 0⟩ ∧ defaultScan[6].source = some .packV
      ∧ defaultScan[6].count ≤ 0 + 1 ∧ (∀ k : Fin 8, 6 < k → defaultScan[k].source = none)
      ∧ (evaluatePass defaultScan (evaluating .normal)).protection.state = .limit
      ∧ (evaluatePass defaultScan (evaluating .cutoff)).protection.state = .cutoff
      ∧ (evaluatePass defaultScan { evaluating .normal with
            protection := { live.protection with primed := false } }).protection.minCell = 3399 := by
  refine ⟨?_, by decide +kernel⟩
  simp [CountsPass]

/-- Under CUTOFF by an undervoltage with the cell at 3500 the state leaves CUTOFF, at 3499 it stays. -/
theorem witness_LeavingCutoff :
    (exec .clearProtect (cutOff 3500) = .next (after .clearProtect (cutOff 3500))
        ∧ (cutOff 3500).protection.state = .cutoff
        ∧ (after .clearProtect (cutOff 3500)).protection.state = .limit
        ∧ (after .clearProtect (cutOff 3499)).protection.state = .cutoff)
      ∧ EndsFrame .clearProtect (cutOff 3500) 0x45 [6]
      ∧ ProtectionSound (live.withPending [.clearProtect]) :=
  ⟨⟨rfl, rfl, by decide +kernel, by decide +kernel⟩, Or.inl rfl, by decide, by decide, fun _ => rfl⟩

/-- A cap of 1700, which just covers the floors of STEER and LIGHTS. -/
def claiming : State :=
  { live with budget := { live.budget with demand := #v[4800, 20000, 0, 1800] }
              protection := { live.protection with cap := 1700 } }

theorem witness_BudgetComputation :
    claiming.budget.timer.running = true ∧ 1 ≤ claiming.tables.protect.quantum
      ∧ ((List.finRange 4).map fun c => min claiming.tables.budget[c].floor claiming.budget.demand[c]).sum
          ≤ claiming.protection.cap := by
  decide +kernel

/-- R161 and Table 8-7: with the pointer at DRIVE the level-2 rotation is WINCH, DRIVE. -/
theorem test_rotation :
    [none, some 3, some 1].map (fun p => [(0 : Fin 4), 1, 2, 3].map (rotationPlace p))
        = [[0, 1, 2, 3], [0, 1, 2, 3], [2, 3, 0, 1]]
      ∧ rotation defaultBudget 2 (some 1) = [2, 1] := by
  decide

theorem witness_HigherLevelsAreServedFirst :
    claiming.budget.timer.running = true ∧ 1 ≤ claiming.tables.protect.quantum
      ∧ exec .budgetTimerExpiry claiming = .next (after .budgetTimerExpiry claiming)
      ∧ claiming.tables.budget[1].priority < claiming.tables.budget[0].priority
      ∧ (after .budgetTimerExpiry claiming).budget.grant[0] < claiming.budget.demand[0] :=
  ⟨by decide +kernel, by decide +kernel, rfl, by decide, by decide +kernel⟩

theorem witness_ClaimsAndGrantsBetweenComputations :
    ClaimsFiled (live.withPending [.rampTick]) ∧ exec .budgetTimerExpiry claiming = .next (after .budgetTimerExpiry claiming) :=
  ⟨by constructor <;> decide, rfl⟩

/-! ## Witnesses: inputs, resets, invariants -/

/-- A winch of a state at a duty of 500 and a line of 40, with the home switch about to be accepted. -/
def homing (st : WinchState) (rq block : Bool) : State :=
  { live with
    winch := { live.winch with state := st, direction := .haulIn, duty := 500, line := 40, stallTimer := ⟨true, 500, 1⟩
                               request := rq, releaseBlock := block }
    inputs := { live.inputs with lines := live.inputs.lines.set 0 ⟨.high, 4, true⟩ } }

/-- A line at the accepted level, one below and one at the debounce, armed and not, and sampled active and
inactive. -/
theorem witness_SampleTick :
    live.inputs.ticking = true
      ∧ (∀ l ∈ [Level.low, .high], ∀ n ∈ [3, 4], ∀ a ∈ [false, true],
          let s := { live with inputs := { live.inputs with lines := tab fun _ => ⟨l, n, a⟩ } }
          s.inputs.ticking = true ∧ s.inputs.lines[0].level = l ∧ s.inputs.lines[0].armed = a)
      ∧ 3 + 1 < live.tables.input[0].debounce + 1 ∧ live.tables.input[0].debounce + 1 ≤ 4 + 1
      ∧ Level.low = live.tables.input[0].active ∧ Level.high ≠ live.tables.input[0].active := by
  decide +kernel

/-- The home switch accepted alone, in HAUL_IN and not, with the request standing and blocked and not. -/
theorem witness_SampleTick_home :
    (∀ st ∈ [WinchState.rampDown, .haulIn], ∀ rq ∈ [false, true], ∀ bl ∈ [false, true],
          let s := homing st rq bl
          s.inputs.ticking = true ∧ Level.low = s.tables.input[0].active ∧ Level.low ≠ s.inputs.lines[0].level
            ∧ s.tables.input[0].debounce ≤ s.inputs.lines[0].runCount
            ∧ (∀ n : Fin 4, n ≠ 0 → Level.high = s.inputs.lines[n].level)
            ∧ (s.winch.request = true ∧ s.link.run = .run ∧ s.protection.state ≠ .cutoff ∧ s.winch.releaseBlock = false
                ↔ rq = true ∧ bl = false)) := by
  decide +kernel

/-- R99: the home switch stops a drum that hauls in at once; the freespool request then releases the clutch. -/
theorem test_home_stop :
    [false, true].map (fun rq =>
        let w := (after (.sampleTick .low .high .high .high) (homing .haulIn rq false)).winch
        (w.state, w.duty, w.line, w.stallTimer.running))
      = [(.idle, 0, 0, false), (.clutchOut, 0, 0, false)] := by
  decide +kernel

/-- A STATUS answer that reports RESET_POWER and completes. -/
def reporting : State :=
  { replying (.sending (answering [.statusReport])) with
    inputs := { live.inputs with reported := some live.inputs.flags } }

theorem witness_FlagsAreClearedOnlyByReadOrReset :
    exec .replyComplete reporting = .next (after .replyComplete reporting)
      ∧ reporting.inputs.flags[0] = true ∧ (after .replyComplete reporting).inputs.flags[0] = false :=
  ⟨rfl, by decide, by decide +kernel⟩

/-- An erased image, with the line of the clutch switch active and not; from rest no default cue has a source that is
true. -/
theorem witness_LoadComplete :
    let s : State := { State.reset with heldInReset := false }
    (s.heldInReset = false ∧ s.store.loaded = false ∧ loadImage s.store.image = none)
      ∧ (Level.low = defaultTables.input[1].active ∧ Level.high ≠ defaultTables.input[1].active)
      ∧ (s.drive = driveAfterReset ∧ s.lights = lightsAfterReset ∧ 1 ≤ defaultTables.drive.brakeDelta)
      ∧ (∀ k, k ∈ ([] : List (Fin 16)) ↔ defaultTables.cue[k].enabled = true
          ∧ ∃ l, defaultTables.cue[k].trigger = some (.level l)
              ∧ keptValue (after (.loadComplete .low .high .high .high .low .low) s).lights.kept l = true) := by
  simp only [← triggerTrue_iff]
  decide +kernel

/-- R136: IN0 active and the winch in CLUTCH_IN start the cues of those sources, in ascending order. -/
theorem test_start_up :
    (lightsStartUp { winching .clutchIn .none 0 with
        tables := { defaultTables with
          cue := (defaultCue.set 9 { cueUnused with enabled := true, trigger := some (.level (.inLevel 0)) }).set 6
            { cueUnused with enabled := true, mode := .latch, trigger := some (.level .winchFree) } }
        inputs := { live.inputs with lines := live.inputs.lines.set 0 ⟨.low, 0, true⟩ } }).lights.active.map (·.cue)
      = [6, 9] := by
  decide +kernel

theorem startUp_live : StartUp live := by constructor <;> decide +kernel

theorem witness_StartUpIsKept : StartUp (live.withPending [.brownOutReset]) := by constructor <;> decide +kernel

theorem witness_LinkAndStoreAreKept :
    (LinkSound (live.withPending [.holdTimerExpiry]) ∧ ReceiverSound (live.withPending [.holdTimerExpiry]).link.receiver)
      ∧ NoticesSound (live.withPending [.statusQuery])
      ∧ (let s := (storing (.erasing defaultTables)).withPending [.eraseEnd]
         let u := { s with link := { s.link with hold := ⟨false, 500, 1⟩ } }
         LinkSound u ∧ StoreSound u)
      ∧ LinkSound discarding := by
  refine ⟨⟨by constructor <;> decide, by constructor <;> decide +kernel⟩, ⟨?_, ?_, ?_⟩,
    ⟨by constructor <;> decide +kernel, by constructor <;> decide +kernel⟩, by constructor <;> decide +kernel⟩
  · exact ⟨fun h => (nomatch h), fun ⟨_, h, _⟩ => (nomatch h)⟩
  · exact ⟨fun h => absurd rfl h, fun ⟨_, h, _⟩ => (nomatch h)⟩
  · intro r h
    cases h

theorem witness_ThrottleIsKept : ThrottleSound (live.withPending [.channels (frame 4000 2048 0)]) := by
  constructor <;> decide +kernel

theorem witness_WinchIsKept :
    StartUp (live.withPending [.channels (frame 2048 4000 0)])
      ∧ WinchSound (live.withPending [.channels (frame 2048 4000 0)])
      ∧ (∀ x ∈ [(WinchState.haulIn, Direction.haulIn), (.payOut, .payOut), (.rampDown, .payOut)],
          WinchSound (winching x.1 x.2 1000))
      ∧ WinchSound { winching .freespool .none 0 with
          winch := { (winching .freespool .none 0).winch with clutchWidth := 1900 } } := by
  refine ⟨by constructor <;> decide +kernel, by constructor <;> decide +kernel, ?_, by constructor <;> decide +kernel⟩
  intro x hx
  simp only [List.mem_cons, List.not_mem_nil, or_false] at hx
  rcases hx with rfl | rfl | rfl <;> constructor <;> decide +kernel

/-- A part whose AUX1 band asks for a release or not, with IN1 at a level and its run count at the debounce. -/
def clutching (st : WinchState) (rq : Bool) (level : Level) : State :=
  { live with
    record := { recordAfterReset with aux1Band := if rq then some 2 else none }
    winch := { live.winch with state := st, request := rq }
    inputs := { live.inputs with lines := live.inputs.lines.set 1 ⟨level, 4, true⟩ } }

/-- The request present and withdrawn, in every state of the handshake, the release block and CUTOFF standing and not;
IN1 accepted at each level; the hold timer's expiry. -/
theorem witness_ClutchHandshake :
    ((frame 2048 2048 0).length = 16 ∧ receiverFailsafe (frame 2048 2048 0) = false)
      ∧ (∀ st ∈ [WinchState.idle, .clutchOut, .freespool, .clutchIn], ∀ rq ∈ [false, true], ∀ l ∈ [Level.low, .high],
          let s := clutching st rq l
          let r := normalize s.tables (rawChannels (frame 2048 2048 0)) s.record
          Listening s ∧ s.link.run = .run ∧ s.link.hold.running = true ∧ s.winch.state = st
            ∧ r.winch = 0 ∧ s.tables.winch.freespoolSource = some .aux1
            ∧ (r.aux1Band = some s.tables.winch.freespoolBand ↔ rq = true)
            ∧ s.protection.state ≠ .cutoff ∧ s.winch.releaseBlock = false ∧ s.inputs.ticking = true
            ∧ (inputActive s 1 = true ↔ l = .low)
            ∧ s.inputs.lines[1].level = l ∧ s.tables.input[1].debounce ≤ s.inputs.lines[1].runCount)
      ∧ (let s := clutching .idle true .low
         let c : State := { s with protection := { s.protection with state := .cutoff } }
         let b : State := { s with winch := { s.winch with releaseBlock := true } }
         Listening c ∧ c.link.run = .run ∧ c.winch.state = .idle ∧ Listening b ∧ b.winch.releaseBlock = true) := by
  decide +kernel

/-- R101 to R104, one after another: the request takes IDLE to CLUTCH_OUT, and the switch CLUTCH_OUT to FREESPOOL. -/
theorem test_clutch_release :
    (after (.channels (frame 2048 2048 0)) (clutching .idle true .low)).winch.state = .clutchOut
      ∧ (after (.sampleTick .high .high .high .high) (clutching .clutchOut true .low)).winch.state = .freespool := by
  decide +kernel

end Sys2Proof.Tests
end

/-! The channel link (chapter 1): reception byte by byte. -/

namespace Sys2Proof.Machine

/-! ## The line with nothing in the way: a listening part (R2, R7, R9) -/

/-- What a listening part does with the line is what its receiver does. -/
theorem onLine_listening {s : State} (f : State → State) (h : Listening s) : onLine f s = f s :=
  onLine_empty f h.1 h.2.1 h.2.2

/-- A listening part dispatches a good frame taken whole, the receiver in HUNT. -/
theorem receiveFrame_listening {s : State} {p : List Byte} (k : Byte) (h : Listening s) (hp : p.length ≤ 48) :
    receiveFrame k p s = dispatch k p (putReceiver receiverHunting s) := by
  have hn : ¬ Config.maxLen < p.length := Nat.not_lt.mpr hp
  rw [receiveFrame, onLine_listening _ h, takeFrame, if_neg hn]

/-- An answer composed after a whole frame: the answered state (R6). -/
theorem answerWith_hunting (k : Byte) (r : Result) (e : List Byte) (ns : List Notice) (s : State) :
    answerWith k r e ns (putReceiver receiverHunting s) = s.answered k r e ns := rfl

theorem answer_hunting (k : Byte) (r : Result) (s : State) :
    answer k r (putReceiver receiverHunting s) = s.answered k r [] [] := rfl

/-! ## No frame moves the receiver -/

theorem channelsHandled_link (p : List Byte) (s : State) :
    (channelsHandled p s).link =
      { s.link with
        run := (channelsHandled p s).link.run, hold := (channelsHandled p s).link.hold
        recovery := (channelsHandled p s).link.recovery } := by
  unfold channelsHandled
  split
  · rfl
  · unfold neutralCheck
    split <;> [skip; split] <;> simp
  · split <;> simp [enterFailsafe_link]
  · unfold countRecovery
    split <;> [skip; split] <;> simp
  · simp

@[simp] theorem channelsHandled_receiver (p : List Byte) (s : State) :
    (channelsHandled p s).link.receiver = s.link.receiver := by rw [channelsHandled_link]

@[simp] theorem advanceTelemetry_receiver (s : State) : (advanceTelemetry s).link.receiver = s.link.receiver := by
  simp only [advanceTelemetry]
  split <;> [skip; split] <;> rfl

@[simp] theorem decideTelemetry_receiver (p : List Byte) (s : State) :
    (decideTelemetry p s).link.receiver = s.link.receiver := by
  unfold decideTelemetry
  split <;> rfl

@[simp] theorem channelsFrame_receiver (p : List Byte) (s : State) :
    (channelsFrame p s).link.receiver = s.link.receiver := by
  unfold channelsFrame
  split <;> [rfl; split] <;> simp

@[simp] theorem setupWriteFrame_receiver (p : List Byte) (s : State) :
    (setupWriteFrame p s).link.receiver = s.link.receiver := by
  unfold setupWriteFrame
  split <;> simp [entryWritten]

@[simp] theorem setupReadFrame_receiver (p : List Byte) (s : State) :
    (setupReadFrame p s).link.receiver = s.link.receiver := by
  unfold setupReadFrame
  repeat' split
  all_goals simp

@[simp] theorem queryFrame_receiver (p : List Byte) (s : State) :
    (queryFrame p s).link.receiver = s.link.receiver := by
  unfold queryFrame answerQuery
  repeat' split
  all_goals simp

@[simp] theorem defaultsRestored_link (s : State) : (defaultsRestored s).link = s.link := by
  simp [defaultsRestored, List.finRange_succ]

@[simp] theorem evaluateEnterSetup_receiver (s : State) :
    (evaluateEnterSetup s).link.receiver = s.link.receiver := by
  unfold evaluateEnterSetup
  split <;> simp

@[simp] theorem performAction_receiver (a : Action) (s : State) :
    (performAction a s).link.receiver = s.link.receiver := by
  cases a with
  | enterSetup => simp only [performAction, performEnterSetup]; split <;> simp
  | leaveSetup =>
    simp only [performAction, performLeaveSetup]
    repeat' split
    all_goals simp
  | store =>
    simp only [performAction, performStore]
    repeat' split
    all_goals simp
  | restoreDefaults =>
    simp only [performAction, performRestoreDefaults]
    repeat' split
    all_goals simp
  | softReset => simp only [performAction, performSoftReset]; split <;> simp
  | clearProtect =>
    simp only [performAction, performClearProtect]
    repeat' split
    all_goals simp
  | winchHome => simp only [performAction, performWinchHome]; split <;> simp
  | winchClear => simp only [performAction, performWinchClear]; split <;> simp

@[simp] theorem actionFrame_receiver (p : List Byte) (s : State) :
    (actionFrame p s).link.receiver = s.link.receiver := by
  unfold actionFrame
  repeat' split
  all_goals simp

/-- A frame dispatched leaves the receiver as reception left it (R5, R7). -/
@[simp] theorem dispatch_receiver (k : Byte) (p : List Byte) (s : State) :
    (dispatch k p s).link.receiver = s.link.receiver := by
  unfold dispatch
  repeat' split
  all_goals simp

/-! ## A byte taken (Table 1-2) -/

theorem exec_byteReceived {s : State} (b : Byte) (h : Listening s) :
    exec (.byteReceived b) s = .next (takeByte b s) :=
  congrArg Host.Outcome.next (onLine_listening (takeByte b) h)

/-- Whatever else a byte does, the receiver goes where Table 1-2 sends it. -/
@[simp] theorem takeByte_receiver (b : Byte) (s : State) :
    (takeByte b s).link.receiver = advanceReceiver s.link.receiver b := by
  simp only [takeByte]
  split <;> simp

/-- A byte that ends no good frame moves the receiver alone. -/
theorem takeByte_within {s : State} {b : Byte}
    (h : ¬ (s.link.receiver.phase = .checkLo ∧ frameGood s.link.receiver b = true)) :
    takeByte b s = putReceiver (takeByte b s).link.receiver s := by
  rw [takeByte_receiver]
  exact if_neg h

/-- The byte that agrees with the CHECK dispatches the frame the receiver has taken. -/
theorem takeByte_endsFrame {s : State} {b : Byte} (hp : s.link.receiver.phase = .checkLo)
    (hc : s.link.receiver.checkHi ++ b = s.link.receiver.crc) :
    takeByte b s =
      dispatch s.link.receiver.kind s.link.receiver.taken
        (putReceiver (takeByte b s).link.receiver s) := by
  rw [takeByte_receiver]
  exact if_pos ⟨hp, decide_eq_true hc⟩

/-- Settles O4: outside CHECK_LO a byte is one row of `advanceReceiver`, and at CHECK_LO the comparison decides
between the dispatch and nothing; no dispatch moves the receiver. -/
theorem receiverTakesBytes : Obligations.ReceiverTakesBytes := by
  intro b s hs
  refine ⟨takeByte b s, exec_byteReceived b hs, fun h => takeByte_within fun hc => h hc.1, ?_⟩
  refine ⟨?hunt, ?noLead, ?kind, ?len, ?lenAbove, ?payload, ?checkHi, ?checkLo⟩
  case hunt => rintro h rfl; simp [advanceReceiver, h, Config.lead, Config.crcStart]
  case noLead =>
    intro h hb
    have hlead : b ≠ Config.lead := hb
    simp only [takeByte_receiver, advanceReceiver, h, if_neg hlead, receiverHunting]
  case kind => intro h; simp [advanceReceiver, h]
  case len =>
    intro h hb
    have hzero : b.toNat = 0 ↔ b = 0 := by simp [BitVec.toNat_eq]
    simp [advanceReceiver, h, Config.maxLen, Nat.not_lt.mpr hb, hzero]
  case lenAbove => intro h hb; simp [advanceReceiver, h, Config.maxLen, hb, receiverHunting]
  case payload =>
    intro h
    simp only [takeByte_receiver, advanceReceiver, h, ← Nat.not_lt, ite_not, and_self]
  case checkHi => intro h; simp [advanceReceiver, h]
  case checkLo =>
    intro h
    refine ⟨by simp [advanceReceiver, h, receiverHunting], fun hc => takeByte_endsFrame h hc, fun hc => ?_⟩
    exact takeByte_within fun hg => hc (of_decide_eq_true hg.2)

end Sys2Proof.Machine


/-! CHANNELS frames (chapter 1): the telemetry counter, the reply decision, the recovery count. -/

namespace Sys2Proof.Machine

/-! ## A processed CHANNELS frame (R8, R12, R13) -/

theorem exec_channels {s : State} {p : List Byte} (h : Listening s) (hp : p.length = 16) :
    exec (.channels p) s = .next (channelsFrame p (putReceiver receiverHunting s)) :=
  congrArg Host.Outcome.next (receiveFrame_listening Config.kindChannels h (by omega))

/-- A frame of 16 bytes past INIT is processed: run state and update, then the counter, then the reply. -/
theorem channelsFrame_processed {s : State} {p : List Byte} (hp : p.length = 16) (hr : s.link.run ≠ .init) :
    channelsFrame p s = decideTelemetry p (advanceTelemetry (channelsHandled p s)) := by
  rw [channelsFrame, if_neg (not_not.mpr hp), if_neg hr]

/-- One frame's advance of the counter and due, whole (R12). -/
theorem advanceTelemetry_link (s : State) :
    (advanceTelemetry s).link =
      { s.link with
        telemetryCount :=
          if s.tables.link.telemetryInterval = 0 then 0
          else if s.tables.link.telemetryInterval ≤ s.link.telemetryCount + 1 then 0
          else s.link.telemetryCount + 1
        telemetryDue :=
          s.link.telemetryDue
            || decide (s.tables.link.telemetryInterval ≠ 0
                ∧ s.tables.link.telemetryInterval ≤ s.link.telemetryCount + 1) } := by
  simp only [advanceTelemetry]
  split
  · next hz => simp [hz]
  · next hz =>
    split
    · next hc => simp [hz, hc]
    · next hc => simp [hz, hc]

/-- The reply decision composes a TELEMETRY frame or leaves the reply as it is (R13). -/
theorem decideTelemetry_link (p : List Byte) (s : State) :
    (decideTelemetry p s).link =
      { s.link with
        reply :=
          if replyPermitted p = true ∧ s.link.telemetryDue = true ∧ s.tables.link.telemetryInterval ≠ 0 then
            .pending { kind := 0x53, payload := telemetryPayload s, answered := 0x31, notices := [] }
          else s.link.reply } := by
  have hc : (replyPermitted p && s.link.telemetryDue && s.tables.link.telemetryInterval != 0) = true ↔
      replyPermitted p = true ∧ s.link.telemetryDue = true ∧ s.tables.link.telemetryInterval ≠ 0 := by
    simp [and_assoc]
  unfold decideTelemetry
  split
  · next h => rw [if_pos (hc.mp h)]; rfl
  · next h => rw [if_neg fun x => h (hc.mpr x)]

theorem advanceTelemetry_eq (s : State) : ∃ l : Link, advanceTelemetry s = { s with link := l } := by
  simp only [advanceTelemetry]
  split <;> [skip; split] <;> exact ⟨_, rfl⟩

theorem decideTelemetry_eq (p : List Byte) (s : State) : ∃ l : Link, decideTelemetry p s = { s with link := l } := by
  unfold decideTelemetry
  split
  · exact ⟨_, rfl⟩
  · exact ⟨s.link, rfl⟩

/-- A TELEMETRY frame reports nothing that its own composition changes. -/
theorem telemetryPayload_decideTelemetry (p : List Byte) (s : State) :
    telemetryPayload (decideTelemetry p s) = telemetryPayload s := by
  unfold decideTelemetry
  split <;> rfl

section
variable {s : State} {p : List Byte} (hp : p.length = 16) (hr : s.link.run ≠ .init)
include hp hr

/-- The link after a processed frame, before the reply decision. -/
theorem channelsFrame_link :
    (channelsFrame p s).link =
      { (channelsHandled p s).link with
        telemetryCount := (advanceTelemetry s).link.telemetryCount
        telemetryDue := (advanceTelemetry s).link.telemetryDue
        reply := (channelsFrame p s).link.reply } := by
  have hk := channelsHandled_link p s
  rw [channelsFrame_processed hp hr, decideTelemetry_link, advanceTelemetry_link, advanceTelemetry_link,
    channelsHandled_tables, hk]

theorem channelsFrame_reply :
    (channelsFrame p s).link.reply =
      if replyPermitted p = true ∧ (channelsFrame p s).link.telemetryDue = true
          ∧ s.tables.link.telemetryInterval ≠ 0 then
        .pending { kind := 0x53, payload := telemetryPayload (channelsFrame p s), answered := 0x31, notices := [] }
      else s.link.reply := by
  rw [channelsFrame_processed hp hr, telemetryPayload_decideTelemetry, decideTelemetry_link,
    advanceTelemetry_link, channelsHandled_link]
  simp

/-- Telemetry and the reply touch the link alone. -/
theorem channelsFrame_eq :
    channelsFrame p s = { channelsHandled p s with link := (channelsFrame p s).link } := by
  obtain ⟨l, hl⟩ := advanceTelemetry_eq (channelsHandled p s)
  obtain ⟨l', hl'⟩ := decideTelemetry_eq p (advanceTelemetry (channelsHandled p s))
  rw [channelsFrame_processed hp hr, hl', hl]

@[simp] theorem channelsFrame_run : (channelsFrame p s).link.run = (channelsHandled p s).link.run := by
  rw [channelsFrame_link hp hr]

@[simp] theorem channelsFrame_hold : (channelsFrame p s).link.hold = (channelsHandled p s).link.hold := by
  rw [channelsFrame_link hp hr]

@[simp] theorem channelsFrame_recovery :
    (channelsFrame p s).link.recovery = (channelsHandled p s).link.recovery := by
  rw [channelsFrame_link hp hr]

@[simp] theorem channelsFrame_record : (channelsFrame p s).record = (channelsHandled p s).record := by
  rw [channelsFrame_eq hp hr]

end

/-- The completion of a TELEMETRY frame clears due (R12). -/
theorem replyComplete_clears_due {s : State} {r : ReplyContent} (hs : s.link.reply = .sending r)
    (hk : r.kind = 0x53) (hn : r.notices = []) : (completeReply s).link.telemetryDue = false := by
  have hkind : r.kind = Config.kindTelemetry := hk
  simp [completeReply, hs, hn, telemetrySent, hkind]

/-- Settles O10: the counter and due come from `advanceTelemetry` alone, the reply from `decideTelemetry`. -/
theorem telemetryCounterAndReply : Obligations.TelemetryCounterAndReply := by
  refine ⟨⟨fun p s hs hp hr => ⟨_, exec_channels hs hp, ?_, ?_⟩, fun s r hs hk hn =>
    ⟨_, rfl, replyComplete_clears_due hs hk hn⟩⟩, fun p s hs hp hr => ⟨_, exec_channels hs hp, ?_, ?_, ?_, ?_⟩⟩
  · rw [channelsFrame_link (s := putReceiver receiverHunting s) hp hr, advanceTelemetry_link]
    rfl
  · rw [channelsFrame_link (s := putReceiver receiverHunting s) hp hr, advanceTelemetry_link,
      Bool.or_eq_true, decide_eq_true_eq]
    rfl
  · have hreply := channelsFrame_reply (s := putReceiver receiverHunting s) hp hr
    rwa [putReceiver_link, hs.2.1] at hreply
  · exact channelsFrame_tables p _
  · exact channelsFrame_scanner p _
  · exact channelsFrame_store p _

/-! ## The recovery count (R18) -/

/-- A CHANNELS frame in FAILSAFE hands nothing to the mapper: the record stands. -/
theorem channelsHandled_failsafe {s : State} (p : List Byte) (hr : s.link.run = .failsafe) :
    channelsHandled p s =
      if receiverFailsafe p then putRecovery 0 (restartHold s) else countRecovery (restartHold s) := by
  simp only [channelsHandled, hr]

/-- Another clear frame short of the recovery record is counted; the one that reaches it returns the part to RUN. -/
theorem countRecovery_link (s : State) :
    (countRecovery s).link =
      if s.tables.link.recovery ≤ s.link.recovery + 1 then { s.link with run := .run, recovery := 0 }
      else { s.link with recovery := s.link.recovery + 1 } := by
  unfold countRecovery
  split <;> simp

/-- The hold timer's expiry in FAILSAFE: the count at 0, the timer afresh. -/
theorem holdExpired_failsafe {s : State} (hr : s.link.run = .failsafe) :
    holdExpired s = restartHold (putRecovery 0 s) := by
  simp only [holdExpired, hr]

/-- Settles O15: the three cases of a frame in FAILSAFE, and the hold timer's expiry there. -/
theorem recoveryFromFailsafe : Obligations.RecoveryFromFailsafe := by
  refine ⟨fun p s hs hp hr => ?_, fun s hr hh => ?_⟩
  · have hf : (putReceiver receiverHunting s).link.run = .failsafe := hr
    have hi : (putReceiver receiverHunting s).link.run ≠ .init := by rw [hf]; decide
    refine ⟨_, exec_channels hs hp, ?_⟩
    rw [channelsFrame_record hp hi, channelsFrame_hold hp hi, channelsFrame_run hp hi,
      channelsFrame_recovery hp hi, channelsHandled_failsafe p hf]
    cases hflag : receiverFailsafe p with
    | true => simp [hr]
    | false =>
      have hlink := countRecovery_link (restartHold (putReceiver receiverHunting s))
      by_cases hc : s.tables.link.recovery ≤ s.link.recovery + 1
      · have hge : ¬ s.link.recovery + 1 < s.tables.link.recovery := by omega
        simp [hlink, hc, hge]
      · simp [hlink, hc, hr]
  · change Host.Outcome.next (if s.link.hold.running then holdExpired s else s) = _
    rw [if_pos hh, holdExpired_failsafe hr]
    rfl

end Sys2Proof.Machine


/-! What a run-state change and a function update do at each block (R39, R49, R60 to R63, R75 to R83, R90, R119,
R122). -/

namespace Sys2Proof.Machine

/-! ## The winch: what the operations of an update or a run-state change leave alone -/

/-- From `x` to `y` the winch takes no other record and no other command, and reports no flag. -/
structure WinchQuiet (x y : WinchStep) : Prop where
  record : y.winch.record = x.winch.record
  command : y.winch.command = x.winch.command
  flags : y.flags = x.flags

theorem WinchQuiet.refl (x : WinchStep) : WinchQuiet x x := ⟨rfl, rfl, rfl⟩

theorem WinchQuiet.after {x y z : WinchStep} (k : WinchQuiet y z) (h : WinchQuiet x y) : WinchQuiet x z :=
  ⟨k.record.trans h.record, k.command.trans h.command, k.flags.trans h.flags⟩

theorem enterWinch_quiet (c : WinchContext) (st : WinchState) (d : Direction) (x : WinchStep) :
    WinchQuiet x (enterWinch c st d x) := ⟨rfl, rfl, rfl⟩

theorem toRampDown_quiet (c : WinchContext) (x : WinchStep) : WinchQuiet x (toRampDown c x) := ⟨rfl, rfl, rfl⟩

theorem toHauling_quiet (c : WinchContext) (st : WinchState) (d : Direction) (x : WinchStep) :
    WinchQuiet x (toHauling c st d x) := ⟨rfl, rfl, rfl⟩

theorem refile_quiet (c : WinchContext) (x : WinchStep) : WinchQuiet x (refile c x) := ⟨rfl, rfl, rfl⟩

theorem retarget_quiet (c : WinchContext) (x : WinchStep) : WinchQuiet x (retarget c x) := ⟨rfl, rfl, rfl⟩

theorem ite_quiet {p : Prop} [Decidable p] {x y z : WinchStep} (h : WinchQuiet x y) (k : WinchQuiet x z) :
    WinchQuiet x (if p then y else z) := by
  split
  · exact h
  · exact k

theorem tryRelease_quiet (c : WinchContext) (x : WinchStep) : WinchQuiet x (tryRelease c x) :=
  ite_quiet ⟨rfl, rfl, rfl⟩ (.refl x)

theorem toIdle_quiet (c : WinchContext) (x : WinchStep) : WinchQuiet x (toIdle c x) :=
  (tryRelease_quiet c _).after ⟨rfl, rfl, rfl⟩

theorem toClutchIn_quiet (c : WinchContext) (x : WinchStep) : WinchQuiet x (toClutchIn c x) :=
  ite_quiet ((toIdle_quiet c _).after ⟨rfl, rfl, rfl⟩) ⟨rfl, rfl, rfl⟩

theorem actOnRequest_quiet (c : WinchContext) (x : WinchStep) : WinchQuiet x (actOnRequest c x) :=
  ite_quiet (ite_quiet (.refl x) (toClutchIn_quiet c x)) (tryRelease_quiet c x)

theorem actOnCommand_quiet (c : WinchContext) (x : WinchStep) : WinchQuiet x (actOnCommand c x) := by
  have hresume : ∀ {p q : Prop} [Decidable p] [Decidable q], WinchQuiet x
      (if p then toHauling c .haulIn .haulIn x else if q then toHauling c .payOut .payOut x else x) :=
    fun {_ _} _ _ => ite_quiet (toHauling_quiet c _ _ x) (ite_quiet (toHauling_quiet c _ _ x) (.refl x))
  have hstop : ∀ {p : Prop} [Decidable p], WinchQuiet x (if p then retarget c x else toRampDown c x) :=
    fun {_} _ => ite_quiet (retarget_quiet c x) (toRampDown_quiet c x)
  unfold actOnCommand
  dsimp only
  split
  case h_1 | h_4 => exact hresume
  case h_2 | h_3 => exact hstop
  all_goals exact .refl x

/-- A function update at WCH: the record, the command in RUN, 0 elsewhere; no flag (R90). -/
theorem winchUpdate_quiet (c : WinchContext) (r : FunctionRecord) (w : Winch) :
    (winchUpdate c r w).winch.record = r
      ∧ (winchUpdate c r w).winch.command = (if c.run = .run then r.winch else 0)
      ∧ (winchUpdate c r w).flags = [] := by
  have h : WinchQuiet _ (winchUpdate c r w) :=
    (refile_quiet c _).after ((actOnCommand_quiet c _).after (actOnRequest_quiet c _))
  exact ⟨h.record, h.command, h.flags⟩

theorem winchHalt_quiet (c : WinchContext) (returns : Bool) (w : Winch) :
    WinchQuiet (winchBegin { w with command := 0 }) (winchHalt c returns w) :=
  ite_quiet (toRampDown_quiet c _) (ite_quiet (toClutchIn_quiet c _) (.refl _))

/-- A run-state change at WCH: into RUN it changes nothing, otherwise the command is 0; no flag (R90). -/
theorem winchRunChange_run {c : WinchContext} (h : c.run = .run) (w : Winch) :
    winchRunChange c w = winchBegin w := if_pos h

theorem winchRunChange_halts {c : WinchContext} (h : c.run ≠ .run) (w : Winch) :
    winchRunChange c w = winchHalt c (c.run == .failsafe) w := if_neg h

theorem winchRunChange_flags (c : WinchContext) (w : Winch) : (winchRunChange c w).flags = [] := by
  by_cases h : c.run = .run
  · rw [winchRunChange_run h]
    rfl
  · rw [winchRunChange_halts h]
    exact (winchHalt_quiet c _ w).flags

/-- An event of which WCH reports no flag leaves the input lines and the flags alone. -/
theorem onWinchEvent_inputs {f : WinchContext → Winch → WinchStep} {s : State}
    (h : (f (winchContext s) s.winch).flags = []) : (onWinchEvent f s).inputs = s.inputs := by
  simp [onWinchEvent, putWinch, h, setFlags]

/-! ## A run-state change (R43, R66, R75, R90, R121) -/

@[simp] theorem deliverRun_inputs (n : RunState) (s : State) : (deliverRun n s).inputs = s.inputs := by
  simp [deliverRun, onWinchEvent_inputs (winchRunChange_flags _ _)]

/-- A run-state change runs the throttle path once, in the new run state. -/
theorem deliverRun_drive (n : RunState) (s : State) :
    (deliverRun n s).drive =
      throttlePath s.tables.drive n s.protection.state (grantOf s 1) s.drive := by
  simp [deliverRun, driveCompute, grantOf]

theorem deliverRun_winch (n : RunState) (s : State) :
    ∃ c : WinchContext, c.run = n ∧ (deliverRun n s).winch = (winchRunChange c s.winch).winch :=
  ⟨winchContext (driveCompute (putRun n s)), by simp [winchContext], by simp [deliverRun]⟩

/-- Outside RUN the throttle stands at 0 (R78). -/
theorem deliverRun_throttle {n : RunState} (h : n ≠ .run) (s : State) : (deliverRun n s).drive.t2 = 0 := by
  have hz : driveZeroed n s.protection.state = true := by simp [driveZeroed, h]
  rw [deliverRun_drive]
  simp [throttlePath, throttleT2, hz]

/-- Outside RUN the winch command is 0 (R90). -/
theorem deliverRun_command {n : RunState} (h : n ≠ .run) (s : State) : (deliverRun n s).winch.command = 0 := by
  obtain ⟨c, rfl, hw⟩ := deliverRun_winch n s
  rw [hw, winchRunChange_halts h]
  exact (winchHalt_quiet c _ s.winch).command

/-- The change into RUN leaves the winch as it is. -/
theorem deliverRun_run_winch (s : State) : (deliverRun .run s).winch = s.winch := by
  obtain ⟨c, hc, hw⟩ := deliverRun_winch .run s
  rw [hw, winchRunChange_run hc]
  rfl

/-- Two states that agree on the blocks no update reaches agree but for those an update reaches. -/
theorem State.eq_of_untouched {s t : State} (hpending : t.pending = s.pending)
    (hheld : t.heldInReset = s.heldInReset) (hscanner : t.scanner = s.scanner)
    (hprotection : t.protection = s.protection) (hstore : t.store = s.store) (htables : t.tables = s.tables) :
    t = { s with link := t.link, record := t.record, steering := t.steering, drive := t.drive, winch := t.winch
                 lights := t.lights, budget := t.budget, inputs := t.inputs } := by
  rw [← hpending, ← hheld, ← hscanner, ← hprotection, ← hstore, ← htables]

/-- A run-state change reaches the link, DRV, WCH, LTC and CBU, and no other block. -/
theorem deliverRun_eq (n : RunState) (s : State) :
    deliverRun n s =
      { s with link := (deliverRun n s).link, drive := (deliverRun n s).drive, winch := (deliverRun n s).winch
               lights := (deliverRun n s).lights, budget := (deliverRun n s).budget } := by
  have h := State.eq_of_untouched (deliverRun_pending n s) (deliverRun_heldInReset n s) (deliverRun_scanner n s)
    (deliverRun_protection n s) (deliverRun_store n s) (deliverRun_tables n s)
  rwa [deliverRun_record, deliverRun_steering, deliverRun_inputs] at h

/-! ## LEAVE_SETUP (R20) -/

theorem listed_iff (l : Vector ScanEntry 8) (q : Quantity) :
    listed l q = true ↔ ∃ k : Fin 8, l[k].source = some q := by
  simp [listed, Vector.any_eq_true, Fin.exists_iff]

/-- The SCAN list is complete (R20). -/
theorem scanComplete_iff (t : Tables) :
    scanComplete t = true ↔
      (∀ n : Fin 4, n.val < t.protect.cellCount → ∃ k : Fin 8, t.scan[k].source = some (cellQuantity n))
        ∧ ∃ k : Fin 8, t.scan[k].source = some .packI := by
  simp [scanComplete, listed_iff, imp_iff_not_or]

/-- A listening part judges LEAVE_SETUP in every run state: in INIT, too, it answers STATE. -/
theorem exec_leaveSetup {s : State} (h : Listening s) :
    exec .leaveSetup s = .next (performLeaveSetup (putReceiver receiverHunting s)) := by
  refine congrArg Host.Outcome.next ((receiveFrame_listening Config.kindAction h (by decide)).trans ?_)
  change actionFrame [2] (putReceiver receiverHunting s) = _
  unfold actionFrame
  split
  · next hi => rw [performLeaveSetup, if_pos (by rw [hi]; decide)]
  · rfl

section
variable {s : State}

theorem performLeaveSetup_outside (hr : s.link.run ≠ .setup) : performLeaveSetup s = answerAction .state s :=
  if_pos hr

theorem performLeaveSetup_storing (hr : s.link.run = .setup) (hb : storeInFlight s.store = true) :
    performLeaveSetup s = answerAction .busy s := by
  rw [performLeaveSetup, if_neg (not_not.mpr hr), if_pos hb]

theorem performLeaveSetup_incomplete (hr : s.link.run = .setup) (hb : storeInFlight s.store = false)
    (hc : scanComplete s.tables = false) : performLeaveSetup s = answerAction .refused s := by
  rw [performLeaveSetup, if_neg (not_not.mpr hr), if_neg (ne_true_of_eq_false hb), if_pos hc]

theorem performLeaveSetup_accepted (hr : s.link.run = .setup) (hb : storeInFlight s.store = false)
    (hc : scanComplete s.tables = true) : performLeaveSetup s = answerAction .done (deliverRun .wait s) := by
  rw [performLeaveSetup, if_neg (not_not.mpr hr), if_neg (ne_true_of_eq_false hb), if_neg (ne_false_of_eq_true hc)]

end

/-- Settles O25: the refusals in order, then the run-state change to WAIT and what it delivers. -/
theorem leaveSetupAction : Obligations.LeaveSetupAction := by
  intro s complete hs hcomplete
  have hscan : complete ↔ scanComplete s.tables = true := hcomplete.trans (scanComplete_iff s.tables).symm
  rw [exec_leaveSetup hs, hscan]
  refine ⟨fun hr => congrArg _ (performLeaveSetup_outside hr),
    fun hr hb => congrArg _ (performLeaveSetup_storing hr hb),
    fun hr hb hc => congrArg _ (performLeaveSetup_incomplete hr hb (eq_false_of_ne_true hc)),
    fun hr hb hc => ⟨_, congrArg _ (performLeaveSetup_accepted hr hb hc), ?_, ?_, ?_, ?_⟩⟩
  · exact congrArg (answerAction .done) (deliverRun_eq .wait (putReceiver receiverHunting s))
  · rw [answerAction_link, deliverRun_link]
    rfl
  · exact deliverRun_throttle (by decide) _
  · exact deliverRun_command (by decide) _

end Sys2Proof.Machine


/-! What a function update does at each block, and CHANNELS in WAIT (R15, R39, R49, R60 to R63, R75, R83, R119,
R122). -/

namespace Sys2Proof.Machine

/-! ## Steering at a function update (R49, R60 to R63) -/

/-- Pulse activation gives a width to corners that had none, and changes nothing else (R60). -/
theorem activateCorners_eq (t : Tables) (x : Steering) :
    activateCorners t x = { x with active := true, corners := (activateCorners t x).corners } := by
  unfold activateCorners
  split
  · next h => rw [← h]
  · rfl

theorem activateCorners_corner (t : Tables) (x : Steering) (k : Fin 4) :
    (activateCorners t x).corners[k] =
      { x.corners[k] with
        width := if x.active = true then x.corners[k].width else cornerWidth t.corner[k] 0 } := by
  unfold activateCorners
  split
  · rfl
  · simp only [tab_get]

@[simp] theorem activateCorners_requested (t : Tables) (x : Steering) :
    (activateCorners t x).requested = x.requested := by rw [activateCorners_eq]

@[simp] theorem activateCorners_mode (t : Tables) (x : Steering) : (activateCorners t x).mode = x.mode := by
  rw [activateCorners_eq]

@[simp] theorem activateCorners_status (t : Tables) (x : Steering) :
    (activateCorners t x).status = x.status := by rw [activateCorners_eq]

@[simp] theorem activateCorners_active (t : Tables) (x : Steering) : (activateCorners t x).active = true := by
  rw [activateCorners_eq]

/-- STC with the record taken, the pulses ACTIVE and the mode requested: a function update before its targets. -/
def steeringTaken (t : Tables) (r : FunctionRecord) (x : Steering) : Steering :=
  { activateCorners t { x with record := r } with
    requested := requestedFor t.steer.modeMap r.steerSelBand x.requested }

section
variable (t : Tables) (r : FunctionRecord) (x : Steering)

@[simp] theorem steeringTaken_record : (steeringTaken t r x).record = r := by
  rw [steeringTaken, activateCorners_eq]

@[simp] theorem steeringTaken_active : (steeringTaken t r x).active = true := activateCorners_active t _

@[simp] theorem steeringTaken_requested :
    (steeringTaken t r x).requested = requestedFor t.steer.modeMap r.steerSelBand x.requested := rfl

@[simp] theorem steeringTaken_mode : (steeringTaken t r x).mode = x.mode := activateCorners_mode t _

@[simp] theorem steeringTaken_status : (steeringTaken t r x).status = x.status := activateCorners_status t _

@[simp] theorem steeringTaken_modeHeld : (steeringTaken t r x).modeHeld = x.modeHeld := by
  rw [steeringTaken, activateCorners_eq]

theorem steeringTaken_corner (k : Fin 4) :
    (steeringTaken t r x).corners[k] =
      { x.corners[k] with
        width := if x.active = true then x.corners[k].width else cornerWidth t.corner[k] 0 } :=
  activateCorners_corner t { x with record := r } k

theorem withTargets_corner (f : Fin 4 → Int) (k : Fin 4) :
    (withTargets f x).corners[k] = { x.corners[k] with target := f k } := tab_get _ k

end

section
variable {t : Tables} {r : FunctionRecord} {x : Steering}

/-- In ALIGN a function update gives no new target (R62). -/
theorem steeringUpdate_align (h : x.status = .align) :
    steeringUpdate t r x = steerFile t.steer (steeringTaken t r x) := by
  simp only [steeringUpdate, activateCorners_status, activateCorners_requested, h, steeringTaken]

/-- In STEADY it computes the targets where the mode requested is the mode in force (R53, R61). -/
theorem steeringUpdate_same (h : x.status = .steady)
    (hm : requestedFor t.steer.modeMap r.steerSelBand x.requested = x.mode) :
    steeringUpdate t r x = steerFile t.steer (steerCompute t (steeringTaken t r x)) := by
  simp only [steeringUpdate, activateCorners_status, activateCorners_requested, activateCorners_mode, h, hm,
    if_true, steeringTaken]

/-- In STEADY it enters ALIGN with every target 0 where another mode is requested (R61). -/
theorem steeringUpdate_other (h : x.status = .steady)
    (hm : requestedFor t.steer.modeMap r.steerSelBand x.requested ≠ x.mode) :
    steeringUpdate t r x =
      steerFile t.steer
        (withTargets (fun _ => 0) { steeringTaken t r x with status := .align, modeHeld := false }) := by
  simp only [steeringUpdate, activateCorners_status, activateCorners_requested, activateCorners_mode, h,
    if_neg hm, steeringTaken]

end

/-- What every function update does at STC: the record, the pulses, the request; it moves no position, and gives a
width only where the pulses were OFF. -/
structure SteeringTakes (t : Tables) (r : FunctionRecord) (x y : Steering) : Prop where
  record : y.record = r
  active : y.active = true
  requested : y.requested = requestedFor t.steer.modeMap r.steerSelBand x.requested
  mode : y.mode = x.mode
  corner : ∀ k : Fin 4, y.corners[k].position = x.corners[k].position
    ∧ y.corners[k].width = if x.active = true then x.corners[k].width else cornerWidth t.corner[k] 0

theorem steeringTaken_takes (t : Tables) (r : FunctionRecord) (x : Steering) :
    SteeringTakes t r x (steeringTaken t r x) :=
  ⟨steeringTaken_record t r x, steeringTaken_active t r x, rfl, steeringTaken_mode t r x, fun k => by
    rw [steeringTaken_corner]
    exact ⟨rfl, rfl⟩⟩

/-- New targets, and a new status, are no part of it. -/
theorem SteeringTakes.withTargets {t : Tables} {r : FunctionRecord} {x y : Steering} (h : SteeringTakes t r x y)
    (f : Fin 4 → Int) (st : SteerStatus) (held : Bool) :
    SteeringTakes t r x (withTargets f { y with status := st, modeHeld := held }) :=
  ⟨h.record, h.active, h.requested, h.mode, fun k => by
    rw [withTargets_corner]
    exact h.corner k⟩

theorem SteeringTakes.steerFile {t : Tables} {r : FunctionRecord} {x y : Steering} (h : SteeringTakes t r x y)
    (q : SteerRecord) : SteeringTakes t r x (steerFile q y) :=
  ⟨h.record, h.active, h.requested, h.mode, h.corner⟩

theorem steeringUpdate_takes (t : Tables) (r : FunctionRecord) (x : Steering) :
    SteeringTakes t r x (steeringUpdate t r x) := by
  have htaken := steeringTaken_takes t r x
  cases hst : x.status with
  | align =>
    rw [steeringUpdate_align hst]
    exact htaken.steerFile _
  | steady =>
    by_cases hm : requestedFor t.steer.modeMap r.steerSelBand x.requested = x.mode
    · rw [steeringUpdate_same hst hm]
      exact (htaken.withTargets _ (steeringTaken t r x).status (steeringTaken t r x).modeHeld).steerFile _
    · rw [steeringUpdate_other hst hm]
      exact (htaken.withTargets _ .align false).steerFile _

theorem steerCompute_target (t : Tables) (x : Steering) (k : Fin 4) :
    (steerCompute t x).corners[k].target = cornerTarget t.geom x.mode (scaledSteer x.record) k :=
  congrArg Corner.target (withTargets_corner x _ k)

/-- The three ends of a function update at STC: the status, the mode held, the targets. -/
theorem steeringUpdate_align_targets {t : Tables} {r : FunctionRecord} {x : Steering} (h : x.status = .align) :
    (steeringUpdate t r x).status = .align ∧ (steeringUpdate t r x).modeHeld = x.modeHeld
      ∧ ∀ k : Fin 4, (steeringUpdate t r x).corners[k].target = x.corners[k].target := by
  rw [steeringUpdate_align h]
  refine ⟨(steeringTaken_status t r x).trans h, steeringTaken_modeHeld t r x, fun k => ?_⟩
  have hk := congrArg Corner.target (steeringTaken_corner t r x k)
  exact hk

theorem steeringUpdate_same_targets {t : Tables} {r : FunctionRecord} {x : Steering} (h : x.status = .steady)
    (hm : requestedFor t.steer.modeMap r.steerSelBand x.requested = x.mode) :
    (steeringUpdate t r x).status = .steady ∧ (steeringUpdate t r x).modeHeld = x.modeHeld
      ∧ ∀ k : Fin 4, (steeringUpdate t r x).corners[k].target = cornerTarget t.geom x.mode (scaledSteer r) k := by
  rw [steeringUpdate_same h hm]
  refine ⟨(steeringTaken_status t r x).trans h, steeringTaken_modeHeld t r x, fun k => ?_⟩
  exact (steerCompute_target t _ k).trans (by rw [steeringTaken_mode, steeringTaken_record])

theorem steeringUpdate_other_targets {t : Tables} {r : FunctionRecord} {x : Steering} (h : x.status = .steady)
    (hm : requestedFor t.steer.modeMap r.steerSelBand x.requested ≠ x.mode) :
    (steeringUpdate t r x).status = .align ∧ (steeringUpdate t r x).modeHeld = false
      ∧ ∀ k : Fin 4, (steeringUpdate t r x).corners[k].target = 0 := by
  rw [steeringUpdate_other h hm]
  exact ⟨rfl, rfl, fun k => congrArg Corner.target (withTargets_corner _ (fun _ => 0) k)⟩

/-! ## Level sources at the light controller (R121, R122) -/

/-- Deliveries that name each source once: each named source has the value delivered. -/
theorem keptAfter_mem {ms : List (LevelSource × Bool)} (h : (ms.map Prod.fst).Nodup) {l : LevelSource} {v : Bool}
    (hm : (l, v) ∈ ms) (k : Vector Bool 33) : keptValue (keptAfter ms k) l = v := by
  induction ms generalizing k with
  | nil => cases hm
  | cons m ms ih =>
    rw [List.map_cons, List.nodup_cons] at h
    rcases List.mem_cons.mp hm with rfl | hm
    · rw [keptAfter, keptAfter_other ms _ l fun x hx e => h.1 (List.mem_map.mpr ⟨x, hx, e⟩), keptValue_set, if_pos rfl]
    · rw [keptAfter]
      exact ih h.2 hm _

theorem updateSources_nodup (n : Nat) (r : FunctionRecord) : ((updateSources n r).map Prod.fst).Nodup := by
  have h : (updateSources n r).map Prod.fst =
      [.turnLeft, .turnRight] ++ (List.finRange 8).map LevelSource.aux1Band
        ++ (List.finRange 8).map LevelSource.aux2Band := by
    simp [updateSources, Function.comp_def]
  rw [h]
  decide

/-- Events leave a level source that none of them delivers as it was. -/
theorem lightEvents_kept_other {ms : List LightMsg} {l : LevelSource} (h : ∀ m ∈ ms, ∀ x ∈ m.sets, x.1 ≠ l)
    (s : State) : keptValue (lightEvents ms s).lights.kept l = keptValue s.lights.kept l := by
  induction ms generalizing s with
  | nil => rfl
  | cons m ms ih =>
    rw [lightEvents_cons, ih (fun n hn => h n (List.mem_cons_of_mem m hn)), lightEvent_lights, lightsEvent_kept]
    exact keptAfter_other m.sets _ l (h m List.mem_cons_self)

@[simp] theorem lightEvents_scene (ms : List LightMsg) (s : State) :
    (lightEvents ms s).lights.scene = s.lights.scene := by
  induction ms generalizing s with
  | nil => rfl
  | cons m ms ih =>
    rw [lightEvents_cons, ih, lightEvent_lights]
    exact (lightsEvent_frame _ _ _ m s.lights).1

/-- DRV delivers REVERSE and BRAKING and no other source. -/
theorem driveMsgs_sources {old new : Drive} {l : LevelSource} (hr : l ≠ .reverse) (hb : l ≠ .braking) :
    ∀ m ∈ driveMsgs old new, ∀ x ∈ m.sets, x.1 ≠ l := by
  simp only [driveMsgs, List.mem_append, List.mem_ite_nil_left, List.mem_singleton]
  rintro m (⟨-, rfl⟩ | ⟨-, rfl⟩) x hx <;> rw [List.mem_singleton.mp hx]
  · exact hr.symm
  · exact hb.symm

theorem putDrive_kept {l : LevelSource} (hr : l ≠ .reverse) (hb : l ≠ .braking) (x : Drive) (s : State) :
    keptValue (putDrive x s).lights.kept l = keptValue s.lights.kept l :=
  lightEvents_kept_other (driveMsgs_sources hr hb) _

@[simp] theorem putDrive_scene (x : Drive) (s : State) : (putDrive x s).lights.scene = s.lights.scene :=
  lightEvents_scene _ _

/-! ## The change into RUN (R15, R121) -/

/-- WCH delivers nothing at the change into RUN. -/
theorem winchRunChange_run_lights {s : State} (h : s.link.run = .run) :
    (onWinchEvent winchRunChange s).lights = s.lights := by
  rw [onWinchEvent, winchRunChange_run h]
  rfl

/-- The change into RUN delivers REVERSE, BRAKING, FAILSAFE and SETUP and no other source. -/
theorem deliverRun_run_kept {l : LevelSource} (h : l ∉ [LevelSource.reverse, .braking, .failsafe, .setup])
    (s : State) : keptValue (deliverRun .run s).lights.kept l = keptValue s.lights.kept l := by
  simp only [List.mem_cons, List.not_mem_nil, or_false, not_or] at h
  obtain ⟨hreverse, hbraking, hfailsafe, hsetup⟩ := h
  have hsets : ∀ m ∈ (runSources .run).sets, m.1 ≠ l := by
    simp [runSources, Ne.symm hfailsafe, Ne.symm hsetup]
  calc keptValue (deliverRun .run s).lights.kept l
      = keptValue (onWinchEvent winchRunChange (driveCompute (putRun .run s))).lights.kept l := by
        rw [deliverRun, lightEvent_lights, lightsEvent_kept, keptAfter_other _ _ l hsets]
    _ = keptValue (driveCompute (putRun .run s)).lights.kept l := by
        rw [winchRunChange_run_lights (by simp)]
    _ = keptValue s.lights.kept l := putDrive_kept hreverse hbraking _ _

theorem deliverRun_run_scene (s : State) : (deliverRun .run s).lights.scene = s.lights.scene := by
  rw [deliverRun, lightEvent_lights, (lightsEvent_frame _ _ _ _ _).1, winchRunChange_run_lights (by simp)]
  exact putDrive_scene _ _

/-! ## Grants stand while blocks file claims (R157, R164) -/

@[simp] theorem fileClaim_grant (c : Fin 4) (filed evaluated : Nat) (b : Budget) :
    (fileClaim c filed evaluated b).grant = b.grant := by rw [fileClaim_eq]

@[simp] theorem lightEvents_grant (ms : List LightMsg) (s : State) :
    (lightEvents ms s).budget.grant = s.budget.grant := by
  induction ms generalizing s with
  | nil => rfl
  | cons m ms ih => rw [lightEvents_cons, ih, lightEvent, putLights_budget, fileClaim_grant]

@[simp] theorem putSteering_grant (x : Steering) (s : State) :
    (putSteering x s).budget.grant = s.budget.grant := by simp [putSteering]

/-! ## The function update, block by block (R39) -/

section
variable (r : FunctionRecord) (s : State)

theorem functionUpdate_drive :
    (functionUpdate r s).drive =
      { throttlePath s.tables.drive s.link.run s.protection.state (grantOf s 1) { s.drive with record := r } with
        s6Active := true, s6Width := auxWidth r.aux2 } := by
  simp [functionUpdate, driveUpdate, grantOf, steeringTakesUpdate]

theorem functionUpdate_winch :
    ∃ c : WinchContext, c.run = s.link.run ∧ (functionUpdate r s).winch = (winchUpdate c r s.winch).winch :=
  ⟨winchContext (driveUpdate r (steeringTakesUpdate r { s with record := r })), by simp [winchContext],
    by simp [functionUpdate, winchTakesUpdate]⟩

@[simp] theorem functionUpdate_inputs : (functionUpdate r s).inputs = s.inputs := by
  have hwinch : ∀ u : State, (winchTakesUpdate r u).inputs = u.inputs := fun u =>
    onWinchEvent_inputs (winchUpdate_quiet (winchContext u) r u.winch).2.2
  simp [functionUpdate, hwinch]

theorem functionUpdate_scene : (functionUpdate r s).lights.scene = sceneOf r.lightSelBand := by
  rw [functionUpdate, lightsUpdate, putLights_lights]
  exact (lightsEvent_frame _ _ _ _ _).1

/-- LTC has each source of the record at its value in the record (R122). -/
theorem functionUpdate_kept {l : LevelSource} {v : Bool}
    (h : (l, v) ∈ updateSources s.tables.steer.indicatorThreshold r) :
    keptValue (functionUpdate r s).lights.kept l = v := by
  rw [functionUpdate, lightsUpdate, putLights_lights, lightsEvent_kept]
  simp only [winchTakesUpdate_tables, driveUpdate_tables, steeringTakesUpdate_tables]
  exact keptAfter_mem (updateSources_nodup _ r) h _

end

/-! ## The neutral check after the update (R15) -/

theorem neutralCheck_flagged {p : List Byte} (h : receiverFailsafe p = true) (s : State) : neutralCheck p s = s :=
  if_pos h

theorem neutralCheck_neutral {p : List Byte} {s : State} (h : receiverFailsafe p = false)
    (hn : s.record.throttle.natAbs ≤ s.tables.link.neutralWindow) :
    neutralCheck p s = deliverRun .run (restartHold s) := by
  have ht : throttleNeutral s = true := decide_eq_true hn
  rw [neutralCheck, if_neg (ne_true_of_eq_false h), if_pos ht]

theorem neutralCheck_notNeutral {p : List Byte} {s : State} (h : receiverFailsafe p = false)
    (hn : s.tables.link.neutralWindow < s.record.throttle.natAbs) :
    neutralCheck p s = setFlag .throttleNotNeutral s := by
  have hf : ¬ throttleNeutral s = true := fun ht => Nat.not_le.mpr hn (of_decide_eq_true ht)
  rw [neutralCheck, if_neg (ne_true_of_eq_false h), if_neg hf]

/-- What a function update has given DRV, WCH and LTC still stands. -/
structure UpdateStands (s t : State) : Prop where
  driveRecord : t.drive.record = s.drive.record
  s6Active : t.drive.s6Active = s.drive.s6Active
  s6Width : t.drive.s6Width = s.drive.s6Width
  winch : t.winch = s.winch
  scene : t.lights.scene = s.lights.scene
  kept : ∀ l ∉ [LevelSource.reverse, .braking, .failsafe, .setup],
    keptValue t.lights.kept l = keptValue s.lights.kept l

theorem deliverRun_run_stands (s : State) : UpdateStands s (deliverRun .run s) where
  driveRecord := by rw [deliverRun_drive]; rfl
  s6Active := by rw [deliverRun_drive]; rfl
  s6Width := by rw [deliverRun_drive]; rfl
  winch := deliverRun_run_winch s
  scene := deliverRun_run_scene s
  kept _ h := deliverRun_run_kept h s

/-- The neutral check undoes nothing of the update before it. -/
theorem neutralCheck_stands (p : List Byte) (s : State) : UpdateStands s (neutralCheck p s) := by
  unfold neutralCheck
  split <;> [skip; split]
  · exact ⟨rfl, rfl, rfl, rfl, rfl, fun _ _ => rfl⟩
  · obtain ⟨hrecord, hactive, hwidth, hwinch, hscene, hkept⟩ := deliverRun_run_stands (restartHold s)
    exact ⟨hrecord, hactive, hwidth, hwinch, hscene, hkept⟩
  · exact ⟨rfl, rfl, rfl, rfl, rfl, fun _ _ => rfl⟩

/-! ## CHANNELS in WAIT (R15) -/

/-- A frame in WAIT: the function update, the neutral check, and then telemetry, which touches the link alone. -/
theorem exec_channels_wait {s : State} {p : List Byte} (hs : Listening s) (hp : p.length = 16)
    (hr : s.link.run = .wait) {r : FunctionRecord} (hrec : r = normalize s.tables (rawChannels p) s.record) :
    ∃ l : Link,
      exec (.channels p) s =
        .next { neutralCheck p (functionUpdate r (putReceiver receiverHunting s)) with link := l }
      ∧ l.run = (neutralCheck p (functionUpdate r (putReceiver receiverHunting s))).link.run
      ∧ l.hold = (neutralCheck p (functionUpdate r (putReceiver receiverHunting s))).link.hold := by
  have hwait : (putReceiver receiverHunting s).link.run = .wait := hr
  have hi : (putReceiver receiverHunting s).link.run ≠ .init := by rw [hwait]; decide
  have hhandled : channelsHandled p (putReceiver receiverHunting s) =
      neutralCheck p (functionUpdate r (putReceiver receiverHunting s)) := by
    simp only [channelsHandled, hwait, hrec]
    rfl
  have heq := channelsFrame_eq hp hi
  rw [hhandled] at heq
  exact ⟨_, (exec_channels hs hp).trans (congrArg _ heq), by rw [channelsFrame_run hp hi, hhandled],
    by rw [channelsFrame_hold hp hi, hhandled]⟩

theorem aux1Band_mem_updateSources (n : Nat) (r : FunctionRecord) (b : Fin 8) :
    (LevelSource.aux1Band b, decide (r.aux1Band = some b)) ∈ updateSources n r := by
  have h : (r.aux1Band == some b) = decide (r.aux1Band = some b) := Bool.eq_iff_iff.mpr (by simp)
  simp [updateSources, h]

theorem aux2Band_mem_updateSources (n : Nat) (r : FunctionRecord) (b : Fin 8) :
    (LevelSource.aux2Band b, decide (r.aux2Band = some b)) ∈ updateSources n r := by
  have h : (r.aux2Band == some b) = decide (r.aux2Band = some b) := Bool.eq_iff_iff.mpr (by simp)
  simp [updateSources, h]

/-- The mode request, as the statements write it. -/
theorem requestedFor_eq (map : Vector (Option SteerMode) 8) (band : Option (Fin 8)) (present : SteerMode) :
    requestedFor map band present =
      (match band with
       | some b => map[b].getD present
       | none => present) := by
  cases band <;> rfl

/-- Settles O11: the update reaches every block as `functionUpdate` gives it, and the neutral check adds the run state,
the hold timer or the flag. -/
theorem channelsInWait : Obligations.ChannelsInWait := by
  intro p s r m hs hp hr hrec hm
  obtain ⟨l, hexec, hrun, hhold⟩ := exec_channels_wait hs hp hr hrec
  have hmode : requestedFor s.tables.steer.modeMap r.steerSelBand s.steering.requested = m :=
    (requestedFor_eq _ _ _).trans hm.symm
  have hstands := neutralCheck_stands p (functionUpdate r (putReceiver receiverHunting s))
  have hsteering : (neutralCheck p (functionUpdate r (putReceiver receiverHunting s))).steering =
      steeringUpdate s.tables r s.steering := by simp
  have htakes := steeringUpdate_takes s.tables r s.steering
  obtain ⟨c, hc, hwinch⟩ := functionUpdate_winch r (putReceiver receiverHunting s)
  obtain ⟨hwinchRecord, hwinchCommand, -⟩ := winchUpdate_quiet c r s.winch
  have hcontext : c.run ≠ .run := by rw [hc, putReceiver_link, hr]; decide
  have hkept : ∀ {x : LevelSource} {v : Bool}, x ∉ [LevelSource.reverse, .braking, .failsafe, .setup] →
      (x, v) ∈ updateSources s.tables.steer.indicatorThreshold r →
      keptValue (neutralCheck p (functionUpdate r (putReceiver receiverHunting s))).lights.kept x = v :=
    fun hx hv => (hstands.kept _ hx).trans (functionUpdate_kept r _ hv)
  refine ⟨_, hexec, ?frame, ?steerRecord, ?driveRecord, ?winchRecord, ?command, ?active, ?s6, ?s6Width, ?requested,
    ?mode, ?corner, ?other, ?same, ?align, ?scene, ?left, ?right, ?bands, ?neutral, ?notNeutral, ?flagged⟩
  case frame =>
    have h := State.eq_of_untouched (s := s)
      (t := { neutralCheck p (functionUpdate r (putReceiver receiverHunting s)) with link := l })
      (by simp) (by simp) (by simp) (by simp) (by simp) (by simp)
    simpa only [neutralCheck_record, functionUpdate_record] using h
  case steerRecord => rw [hsteering, htakes.record]
  case driveRecord => rw [hstands.driveRecord, functionUpdate_drive]; rfl
  case winchRecord => rw [hstands.winch, hwinch]; exact hwinchRecord
  case command => rw [hstands.winch, hwinch]; exact hwinchCommand.trans (if_neg hcontext)
  case active => rw [hsteering, htakes.active]
  case s6 => rw [hstands.s6Active, functionUpdate_drive]
  case s6Width => rw [hstands.s6Width, functionUpdate_drive]; rfl
  case requested => rw [hsteering, htakes.requested, hmode]
  case mode => rw [hsteering, htakes.mode]
  case corner => rw [hsteering]; exact htakes.corner
  case other =>
    intro hsteady hm'
    rw [hsteering]
    exact steeringUpdate_other_targets hsteady (hmode ▸ hm')
  case same =>
    intro hsteady hm'
    rw [hsteering, hm']
    exact steeringUpdate_same_targets hsteady (hmode.trans hm')
  case align => rw [hsteering]; exact steeringUpdate_align_targets
  case scene => exact hstands.scene.trans (functionUpdate_scene r _)
  case left => exact hkept (by decide) (by simp [updateSources])
  case right => exact hkept (by decide) (by simp [updateSources])
  case bands =>
    intro b
    exact ⟨hkept (by simp) (aux1Band_mem_updateSources _ r b), hkept (by simp) (aux2Band_mem_updateSources _ r b)⟩
  case neutral =>
    intro hf hn
    have hcheck := neutralCheck_neutral (s := functionUpdate r (putReceiver receiverHunting s)) hf (by simpa using hn)
    rw [hcheck] at hrun hhold
    exact ⟨by simpa using hrun, by simpa using hhold, by simp [hcheck]⟩
  case notNeutral =>
    intro hf hn
    have hcheck := neutralCheck_notNeutral (s := functionUpdate r (putReceiver receiverHunting s)) hf
      (by simpa using hn)
    rw [hcheck] at hrun hhold
    exact ⟨by simpa [hr] using hrun, by simpa using hhold, by simp [hcheck]⟩
  case flagged =>
    intro hf
    rw [neutralCheck_flagged hf] at hrun hhold
    exact ⟨by simpa [hr] using hrun, by simpa using hhold, by simp [neutralCheck_flagged hf]⟩

end Sys2Proof.Machine


/-! The entry formats of chapter 11 read back what they write, and SETUP_READ (R24). -/

namespace Sys2Proof.Machine

/-! ## Fields among other bytes (R190) -/

section
variable {a b : List Byte} {n o : Nat} (hn : a.length = n)
include hn

@[simp] theorem u8At_append_of_lt (h : o < n) : u8At (a ++ b) o = u8At a o := by
  subst hn
  exact u8At_append_left a b h

@[simp] theorem u8At_append_of_le (h : n ≤ o) : u8At (a ++ b) o = u8At b (o - n) := by
  subst hn
  obtain ⟨k, rfl⟩ := Nat.exists_eq_add_of_le h
  rw [u8At_append_right, Nat.add_sub_cancel_left]

@[simp] theorem u16At_append_of_lt (h : o + 1 < n) : u16At (a ++ b) o = u16At a o := by
  rw [u16At, u16At, u8At_append_of_lt hn h, u8At_append_of_lt hn (by omega)]

@[simp] theorem u16At_append_of_le (h : n ≤ o) : u16At (a ++ b) o = u16At b (o - n) := by
  rw [u16At, u16At, u8At_append_of_le hn h, u8At_append_of_le hn (by omega), Nat.sub_add_comm h]

@[simp] theorem u24At_append_of_lt (h : o + 2 < n) : u24At (a ++ b) o = u24At a o := by
  rw [u24At, u24At, u16At_append_of_lt hn h, u8At_append_of_lt hn (by omega)]

@[simp] theorem u24At_append_of_le (h : n ≤ o) : u24At (a ++ b) o = u24At b (o - n) := by
  rw [u24At, u24At, u8At_append_of_le hn h, u16At_append_of_le hn (by omega), Nat.sub_add_comm h]

@[simp] theorem s16At_append_of_lt (h : o + 1 < n) : s16At (a ++ b) o = s16At a o := by
  rw [s16At, s16At, u16At_append_of_lt hn h]

@[simp] theorem s16At_append_of_le (h : n ≤ o) : s16At (a ++ b) o = s16At b (o - n) := by
  rw [s16At, s16At, u16At_append_of_le hn h]

@[simp] theorem boolAt_append_of_lt (h : o < n) : boolAt (a ++ b) o = boolAt a o := by
  rw [boolAt, boolAt, u8At_append_of_lt hn h]

@[simp] theorem boolAt_append_of_le (h : n ≤ o) : boolAt (a ++ b) o = boolAt b (o - n) := by
  rw [boolAt, boolAt, u8At_append_of_le hn h]

end

/-! ## One field read back, modulo its width -/

@[simp] theorem u8At_putU8_mod (n : Nat) : u8At (putU8 n) 0 = n % 256 := BitVec.toNat_ofNat n 8

@[simp] theorem u16At_putU16_mod (n : Nat) : u16At (putU16 n) 0 = n % 65536 := by
  simp only [u16At, u8At, putU16, List.getD_cons_zero, List.getD_cons_succ, BitVec.toNat_ofNat]
  omega

@[simp] theorem u24At_putU24_mod (n : Nat) : u24At (putU24 n) 0 = n % 16777216 := by
  simp only [u24At, u16At, u8At, putU24, putU16, List.getD_cons_zero, List.getD_cons_succ, BitVec.toNat_ofNat]
  omega

@[simp] theorem boolAt_putBool_alone (v : Bool) : boolAt (putBool v) 0 = some v := by
  cases v <;> rfl

theorem s16At_putS16_alone {v : Int} (h₁ : -32768 ≤ v) (h₂ : v < 32768) : s16At (putS16 v) 0 = v := by
  have h := s16At_putS16 h₁ h₂ []
  rwa [List.append_nil] at h

@[simp] theorem finOf_val {n : Nat} (i : Fin n) (h : n ≤ 256) : finOf n (i.val % 256) = some i := by
  simp [finOf, Nat.mod_eq_of_lt (i.isLt.trans_le h)]

@[simp] theorem finOrNone_putFinOrNone {n : Nat} (v : Option (Fin n)) (h : n ≤ 255) :
    finOrNone n (u8At (putFinOrNone v) 0) = some v := by
  cases v with
  | none => rfl
  | some i =>
    have hi : i.val < 255 := i.isLt.trans_le h
    simp [putFinOrNone, finOrNone, finOf, Nat.mod_eq_of_lt (hi.trans (by decide : 255 < 256)), hi.ne]

/-! ## Enumerated fields read back (Tables 11-6 and 11-7) -/

@[simp] theorem steerModeOf_code (m : SteerMode) : steerModeOf (steerModeCode m % 256) = some m := by
  cases m <;> rfl

@[simp] theorem mapItemOf_code (m : Option SteerMode) : mapItemOf (mapItemCode m % 256) = some m := by
  rcases m with _ | m
  · rfl
  · cases m <;> rfl

@[simp] theorem failsafeModeOf_code (m : FailsafeMode) : failsafeModeOf (failsafeModeCode m % 256) = some m := by
  cases m <;> rfl

@[simp] theorem bandSlotOf_code (x : Option BandSlot) : bandSlotOf (bandSlotCode x % 256) = some x := by
  rcases x with _ | x
  · rfl
  · cases x <;> rfl

@[simp] theorem freespoolOf_code (x : Option AuxSlot) : freespoolOf (freespoolCode x % 256) = some x := by
  rcases x with _ | x
  · rfl
  · cases x <;> rfl

@[simp] theorem cueModeOf_code (m : CueMode) : cueModeOf (cueModeCode m % 256) = some m := by
  cases m <;> rfl

@[simp] theorem levelOf_code (l : Level) : levelOf (levelCode l % 256) = some l := by
  cases l <;> rfl

@[simp] theorem scanSourceOf_code (q : Option Quantity) : scanSourceOf (scanSourceCode q % 256) = some q := by
  rcases q with _ | q
  · rfl
  · cases q <;> rfl

/-- A trigger source is read back from its code and parameter: the sources of no parameter by evaluation, the others
by their parameter's range. -/
@[simp] theorem triggerOf_code (x : Option Trigger) :
    triggerOf ((triggerCode x).1 % 256) ((triggerCode x).2 % 256) = some x := by
  rcases x with _ | l | e
  · rfl
  · cases l with
    | aux1Band b => exact congrArg (Option.map _) (finOf_val b (by decide))
    | aux2Band b => exact congrArg (Option.map _) (finOf_val b (by decide))
    | inLevel n => exact congrArg (Option.map _) (finOf_val n (by decide))
    | _ => rfl
  · cases e with
    | inEdge n => exact congrArg (Option.map _) (finOf_val n (by decide))
    | cueDone k => exact congrArg (Option.map _) (finOf_val k (by decide))
    | _ => rfl

@[simp] theorem maskOf_toNat (m : BitVec 12) : maskOf (m.toNat % 65536) = some m := by
  have hm : m.toNat < 4096 := m.isLt
  rw [Nat.mod_eq_of_lt (by omega), maskOf, if_pos hm, BitVec.ofNat_toNat, BitVec.setWidth_eq]

/-! ## Fields of equal width in a row -/

@[simp] theorem flatMap_putU8_length {α : Type} {n : Nat} (v : Vector α n) (g : α → Nat) :
    (v.toList.flatMap fun x => putU8 (g x)).length = n := by
  simp [List.length_flatMap]

theorem u8At_flatMap_putU8 {α : Type} {n : Nat} (v : Vector α n) (g : α → Nat) (i : Fin n) :
    u8At (v.toList.flatMap fun x => putU8 (g x)) i.val = g v[i] % 256 := by
  have h : (v.toList.flatMap fun x => putU8 (g x)) = v.toList.map fun x => BitVec.ofNat 8 (g x) :=
    List.map_eq_flatMap.symm
  rw [h, u8At, List.getD_eq_getElem?_getD, List.getElem?_map, Vector.getElem?_toList]
  simp

/-- Elements that are all there make the vector. -/
theorem collect_eq_some {α : Type} {n : Nat} {f : Fin n → Option α} {v : Vector α n} (h : ∀ i, f i = some v[i]) :
    collect f = some v := by
  have hs : ∀ i, (f i).isSome = true := fun i => by rw [h i]; rfl
  rw [collect, dif_pos hs]
  refine congrArg some (Vector.ext fun i hi => ?_)
  rw [tab_getElem, Option.get_of_eq_some _ (h ⟨i, hi⟩)]
  rfl

/-! ## Entries read back what they write (Table 11-8) -/

/-! A numeric field is read back modulo its width (the first `simp`), and its range is below that width (the second). -/

theorem decodeFunc_encodeFunc {i : Nat} {e : FuncEntry} (h : funcInRange i e = true) :
    decodeFunc (encodeFunc e) = some e := by
  simp only [funcInRange, between, betweenI, Bool.and_eq_true, decide_eq_true_eq] at h
  simp [decodeFunc, encodeFunc]
  simp (disch := omega) only [Nat.mod_eq_of_lt, s16At_putS16_alone]

theorem decodeCurve_encodeCurve {e : Int} (h : curveInRange e = true) :
    decodeCurve (encodeCurve e) = some e := by
  simp only [curveInRange, betweenI, Bool.and_eq_true, decide_eq_true_eq] at h
  exact congrArg some (s16At_putS16_alone (by omega) (by omega))

theorem decodeBand_encodeBand {e : BandEntry} (h : bandInRange e = true) :
    decodeBand (encodeBand e) = some e := by
  simp only [bandInRange, between, Bool.and_eq_true, decide_eq_true_eq] at h
  simp [decodeBand, encodeBand]
  simp (disch := omega) only [Nat.mod_eq_of_lt]

theorem decodeSteer_encodeSteer {e : SteerRecord} (h : steerInRange e = true) :
    decodeSteer (encodeSteer e) = some e := by
  simp only [steerInRange, between, Bool.and_eq_true, decide_eq_true_eq] at h
  have hmap : (collect fun i : Fin 8 => mapItemOf (u8At (e.modeMap.toList.flatMap fun m => putU8 (mapItemCode m)) i)) =
      some e.modeMap :=
    collect_eq_some fun i => by rw [u8At_flatMap_putU8, mapItemOf_code]
  simp [decodeSteer, encodeSteer, hmap]
  simp (disch := omega) only [Nat.mod_eq_of_lt]

theorem decodeGeom_encodeGeom {e : GeomEntry} (h : geomInRange e = true) :
    decodeGeom (encodeGeom e) = some e := by
  simp only [geomInRange, between, betweenI, Bool.and_eq_true, decide_eq_true_eq] at h
  simp [decodeGeom, encodeGeom]
  simp (disch := omega) only [Nat.mod_eq_of_lt, s16At_putS16_alone]

theorem decodeCorner_encodeCorner {e : CornerEntry} (h : cornerInRange e = true) :
    decodeCorner (encodeCorner e) = some e := by
  simp only [cornerInRange, between, Bool.and_eq_true, decide_eq_true_eq] at h
  simp [decodeCorner, encodeCorner]
  simp (disch := omega) only [Nat.mod_eq_of_lt]

theorem decodeDrive_encodeDrive {e : DriveRecord} (h : driveInRange e = true) :
    decodeDrive (encodeDrive e) = some e := by
  simp only [driveInRange, between, Bool.and_eq_true, decide_eq_true_eq] at h
  simp [decodeDrive, encodeDrive]
  simp (disch := omega) only [Nat.mod_eq_of_lt]

theorem decodeWinch_encodeWinch {e : WinchRecord} (h : winchInRange e = true) :
    decodeWinch (encodeWinch e) = some e := by
  simp only [winchInRange, between, Bool.and_eq_true, decide_eq_true_eq] at h
  simp [decodeWinch, encodeWinch]
  simp (disch := omega) only [Nat.mod_eq_of_lt]

theorem decodeLamp_encodeLamp {e : LampEntry} (h : lampInRange e = true) :
    decodeLamp (encodeLamp e) = some e := by
  simp only [lampInRange, between, Bool.and_eq_true, decide_eq_true_eq] at h
  simp [decodeLamp, encodeLamp]
  simp (disch := omega) only [Nat.mod_eq_of_lt]

theorem decodeScene_encodeScene {e : Vector Nat 12} (h : sceneInRange e = true) :
    decodeScene (encodeScene e) = some e := by
  refine congrArg some (Vector.ext fun o ho => ?_)
  have hle : e[o] ≤ 255 := by
    simp only [sceneInRange, between, List.all_eq_true, Bool.and_eq_true, decide_eq_true_eq] at h
    exact (h e[o] (by simp)).2
  rw [tab_getElem]
  exact (u8At_flatMap_putU8 e id ⟨o, ho⟩).trans (Nat.mod_eq_of_lt (Nat.lt_succ_of_le hle))

theorem decodeCue_encodeCue {e : CueEntry} (h : cueInRange e = true) :
    decodeCue (encodeCue e) = some e := by
  simp only [cueInRange, between, Bool.and_eq_true, decide_eq_true_eq] at h
  simp [decodeCue, encodeCue]
  simp (disch := omega) only [Nat.mod_eq_of_lt]

theorem decodeScan_encodeScan {n : Nat} {e : ScanEntry} (h : scanInRange n e = true) :
    decodeScan (encodeScan e) = some e := by
  simp only [scanInRange, Bool.and_eq_true, Bool.or_eq_true, beq_iff_eq] at h
  simp [decodeScan, encodeScan]
  simp (disch := omega) only [Nat.mod_eq_of_lt]

theorem decodeProtect_encodeProtect {v : Vector ScanEntry 8} {e : ProtectRecord} (h : protectInRange v e = true) :
    decodeProtect (encodeProtect e) = some e := by
  simp only [protectInRange, between, Bool.and_eq_true, decide_eq_true_eq] at h
  simp [decodeProtect, encodeProtect]
  simp (disch := omega) only [Nat.mod_eq_of_lt]

theorem decodeBudget_encodeBudget {e : BudgetEntry} (h : budgetInRange e = true) :
    decodeBudget (encodeBudget e) = some e := by
  simp only [budgetInRange, between, Bool.and_eq_true, decide_eq_true_eq] at h
  simp [decodeBudget, encodeBudget]
  simp (disch := omega) only [Nat.mod_eq_of_lt]

theorem decodeInput_encodeInput {e : InputEntry} (h : inputInRange e = true) :
    decodeInput (encodeInput e) = some e := by
  simp only [inputInRange, between, Bool.and_eq_true, decide_eq_true_eq] at h
  simp [decodeInput, encodeInput]
  simp (disch := omega) only [Nat.mod_eq_of_lt]

theorem decodeLink_encodeLink {e : LinkRecord} (h : linkInRange e = true) :
    decodeLink (encodeLink e) = some e := by
  simp only [linkInRange, between, Bool.and_eq_true, decide_eq_true_eq] at h
  simp [decodeLink, encodeLink]
  simp (disch := omega) only [Nat.mod_eq_of_lt]

/-! ## The length of an entry (Table 11-8) -/

@[simp] theorem encodeFunc_length (e : FuncEntry) : (encodeFunc e).length = 11 := by simp [encodeFunc]
@[simp] theorem encodeCurve_length (e : Int) : (encodeCurve e).length = 2 := by simp [encodeCurve]
@[simp] theorem encodeBand_length (e : BandEntry) : (encodeBand e).length = 4 := by simp [encodeBand]
@[simp] theorem encodeSteer_length (e : SteerRecord) : (encodeSteer e).length = 15 := by
  simp [encodeSteer]
@[simp] theorem encodeGeom_length (e : GeomEntry) : (encodeGeom e).length = 4 := by simp [encodeGeom]
@[simp] theorem encodeCorner_length (e : CornerEntry) : (encodeCorner e).length = 13 := by simp [encodeCorner]
@[simp] theorem encodeDrive_length (e : DriveRecord) : (encodeDrive e).length = 22 := by simp [encodeDrive]
@[simp] theorem encodeWinch_length (e : WinchRecord) : (encodeWinch e).length = 31 := by simp [encodeWinch]
@[simp] theorem encodeLamp_length (e : LampEntry) : (encodeLamp e).length = 3 := by simp [encodeLamp]
@[simp] theorem encodeScene_length (e : Vector Nat 12) : (encodeScene e).length = 12 :=
  flatMap_putU8_length e id
@[simp] theorem encodeCue_length (e : CueEntry) : (encodeCue e).length = 15 := by simp [encodeCue]
@[simp] theorem encodeScan_length (e : ScanEntry) : (encodeScan e).length = 2 := by simp [encodeScan]
@[simp] theorem encodeProtect_length (e : ProtectRecord) : (encodeProtect e).length = 31 := by simp [encodeProtect]
@[simp] theorem encodeBudget_length (e : BudgetEntry) : (encodeBudget e).length = 3 := by simp [encodeBudget]
@[simp] theorem encodeInput_length (e : InputEntry) : (encodeInput e).length = 2 := by simp [encodeInput]
@[simp] theorem encodeLink_length (e : LinkRecord) : (encodeLink e).length = 6 := by simp [encodeLink]

/-! ## Valid tables, entry by entry (R180) -/

/-- Every entry of every table is in its owner's ranges. -/
structure ValidTables (t : Tables) : Prop where
  func : ∀ i : Fin 8, funcInRange i.val t.func[i] = true
  curve : ∀ i : Fin 36, curveInRange t.curve[i] = true
  band : ∀ i : Fin 16, bandInRange t.band[i] = true
  steer : steerInRange t.steer = true
  geom : ∀ i : Fin 16, geomInRange t.geom[i] = true
  corner : ∀ i : Fin 4, cornerInRange t.corner[i] = true
  drive : driveInRange t.drive = true
  winch : winchInRange t.winch = true
  lamp : ∀ i : Fin 12, lampInRange t.lamp[i] = true
  scene : ∀ i : Fin 8, sceneInRange t.scene[i] = true
  cue : ∀ i : Fin 16, cueInRange t.cue[i] = true
  scan : ∀ i : Fin 8, scanInRange t.protect.cellCount t.scan[i] = true
  protect : protectInRange t.scan t.protect = true
  budget : ∀ i : Fin 4, budgetInRange t.budget[i] = true
  input : ∀ i : Fin 4, inputInRange t.input[i] = true
  link : linkInRange t.link = true

theorem all_toList {α : Type} {n : Nat} {p : α → Bool} {v : Vector α n} (h : v.toList.all p = true) (i : Fin n) :
    p v[i] = true :=
  List.all_eq_true.mp h _ (by simp)

theorem validTables_of_tablesValid {t : Tables} (h : tablesValid t = true) : ValidTables t := by
  simp only [tablesValid, Bool.and_eq_true] at h
  obtain ⟨⟨⟨⟨⟨⟨⟨⟨⟨⟨⟨⟨⟨⟨⟨func, curve⟩, band⟩, steer⟩, geom⟩, corner⟩, drive⟩, winch⟩, lamp⟩, scene⟩, cue⟩, scan⟩,
    protect⟩, budget⟩, input⟩, link⟩ := h
  exact ⟨fun i => List.all_eq_true.mp func i (List.mem_finRange i), all_toList curve, all_toList band, steer,
    all_toList geom, all_toList corner, drive, winch, all_toList lamp, all_toList scene, all_toList cue,
    all_toList scan, protect, all_toList budget, all_toList input, link⟩

/-! ## An entry written back (R24) -/

theorem entryAt_eq {α : Type} {n i : Nat} (v : Vector α n) (enc : α → List Byte) (hi : i < n) :
    (v[i]?.map enc).getD [] = enc v[i] := by
  simp [hi]

/-- A record that reads back and is in range replaces itself. -/
theorem record_writtenBack {α : Type} {dec : List Byte → Option α} {enc : α → List Byte} {p : α → Bool} {r : α}
    (hdec : p r = true → dec (enc r) = some r) (hp : p r = true) (put : α → Tables) :
    ((dec (enc r)).filter p).map put = some (put r) := by
  simp [hdec hp, Option.filter_some, hp]

/-- An entry of a table that reads back and is in range leaves the table as it was. -/
theorem entry_writtenBack {α : Type} {n i : Nat} {v : Vector α n} {dec : List Byte → Option α} {enc : α → List Byte}
    {p : α → Bool} (hi : i < n) (hdec : p v[i] = true → dec (enc v[i]) = some v[i]) (hp : p v[i] = true)
    (put : Vector α n → Tables) :
    ((dec ((v[i]?.map enc).getD [])).filter p).map (fun x => put (v.setIfInBounds i x)) = some (put v) := by
  have hsame : v.setIfInBounds i v[i] = v := by
    ext k hk
    rw [Vector.getElem_setIfInBounds]
    split
    · next h => subst h; rfl
    · rfl
  rw [entryAt_eq v enc hi, record_writtenBack hdec hp, hsame]

theorem entryBytes_length (t : Tables) (id : TableId) {i : Nat} (hi : i < entryCount id) :
    (entryBytes t id i).length = entryLength id := by
  cases id <;> simp only [entryCount] at hi <;> simp [entryBytes, entryLength, hi]

/-- A write of the bytes a read returns puts the same tables in force. -/
theorem tablesWith_entryBytes {t : Tables} (h : ValidTables t) (id : TableId) {i : Nat} (hi : i < entryCount id) :
    tablesWith t id i (entryBytes t id i) = some t := by
  cases id with
  | func => exact entry_writtenBack hi decodeFunc_encodeFunc (h.func ⟨i, hi⟩) fun v => { t with func := v }
  | curve => exact entry_writtenBack hi decodeCurve_encodeCurve (h.curve ⟨i, hi⟩) fun v => { t with curve := v }
  | band => exact entry_writtenBack hi decodeBand_encodeBand (h.band ⟨i, hi⟩) fun v => { t with band := v }
  | steer => exact record_writtenBack decodeSteer_encodeSteer h.steer fun r => { t with steer := r }
  | geom => exact entry_writtenBack hi decodeGeom_encodeGeom (h.geom ⟨i, hi⟩) fun v => { t with geom := v }
  | corner => exact entry_writtenBack hi decodeCorner_encodeCorner (h.corner ⟨i, hi⟩) fun v => { t with corner := v }
  | drive => exact record_writtenBack decodeDrive_encodeDrive h.drive fun r => { t with drive := r }
  | winch => exact record_writtenBack decodeWinch_encodeWinch h.winch fun r => { t with winch := r }
  | lamp => exact entry_writtenBack hi decodeLamp_encodeLamp (h.lamp ⟨i, hi⟩) fun v => { t with lamp := v }
  | scene => exact entry_writtenBack hi decodeScene_encodeScene (h.scene ⟨i, hi⟩) fun v => { t with scene := v }
  | cue => exact entry_writtenBack hi decodeCue_encodeCue (h.cue ⟨i, hi⟩) fun v => { t with cue := v }
  | scan => exact entry_writtenBack hi decodeScan_encodeScan (h.scan ⟨i, hi⟩) fun v => { t with scan := v }
  | protect => exact record_writtenBack decodeProtect_encodeProtect h.protect fun r => { t with protect := r }
  | budget => exact entry_writtenBack hi decodeBudget_encodeBudget (h.budget ⟨i, hi⟩) fun v => { t with budget := v }
  | input => exact entry_writtenBack hi decodeInput_encodeInput (h.input ⟨i, hi⟩) fun v => { t with input := v }
  | link => exact record_writtenBack decodeLink_encodeLink h.link fun r => { t with link := r }

/-! ## SETUP_READ (R24, Table 1-5) -/

theorem exec_setupRead {s : State} {p : List Byte} (hs : Listening s) (hp : p.length ≤ 48) :
    exec (.setupRead p) s = .next (setupReadFrame p (putReceiver receiverHunting s)) :=
  congrArg Host.Outcome.next (receiveFrame_listening Config.kindSetupRead hs hp)

theorem tableIdOf_none {n : Nat} (h : n = 0 ∨ 16 < n) : tableIdOf n = none := by
  rcases h with rfl | h
  · rfl
  · obtain ⟨k, rfl⟩ := Nat.exists_eq_add_of_le' h
    rfl

/-- The ids 1 to 16 name the tables, with the entry counts of Table 1-9. -/
theorem tableIdOf_some {n : Nat} (h₁ : 1 ≤ n) (h₂ : n ≤ 16) :
    ∃ x, tableIdOf n = some x ∧ entryCount x = entriesByTable.getD (n - 1) 0 := by
  interval_cases n <;> exact ⟨_, rfl, rfl⟩

section
variable {s : State} {p : List Byte}

theorem setupReadFrame_init (hr : s.link.run = .init) : setupReadFrame p s = answer Config.kindSetupRead .state s :=
  if_pos hr

theorem setupReadFrame_length (hr : s.link.run ≠ .init) (hp : p.length ≠ 2) :
    setupReadFrame p s = answer Config.kindSetupRead .length s := by
  rw [setupReadFrame, if_neg hr, if_pos hp]

theorem setupReadFrame_table (hr : s.link.run ≠ .init) (hp : p.length = 2) (ht : tableIdOf (u8At p 0) = none) :
    setupReadFrame p s = answer Config.kindSetupRead .table s := by
  rw [setupReadFrame, if_neg hr, if_neg (not_not.mpr hp)]
  simp only [ht]

theorem setupReadFrame_index {x : TableId} (hr : s.link.run ≠ .init) (hp : p.length = 2)
    (ht : tableIdOf (u8At p 0) = some x) (hi : entryCount x ≤ u8At p 1) :
    setupReadFrame p s = answer Config.kindSetupRead .index s := by
  rw [setupReadFrame, if_neg hr, if_neg (not_not.mpr hp)]
  simp only [ht, if_pos hi]

theorem setupReadFrame_done {x : TableId} (hr : s.link.run ≠ .init) (hp : p.length = 2)
    (ht : tableIdOf (u8At p 0) = some x) (hi : u8At p 1 < entryCount x) :
    setupReadFrame p s =
      answerWith Config.kindSetupRead .done (p ++ entryBytes s.tables x (u8At p 1)) [] s := by
  rw [setupReadFrame, if_neg hr, if_neg (not_not.mpr hp)]
  simp only [ht, if_neg (Nat.not_le.mpr hi)]

end

/-- Settles O20: the checks of Table 1-5 one after another, and the entry formats read back. -/
theorem setupReadReturnsTheEntry : Obligations.SetupReadReturnsTheEntry := by
  refine ⟨fun s id i x hx hi => ⟨fun hs hr => ?_, fun hv => ?_⟩, fun s p hs hp => ⟨fun hr => ?_, fun hr hl => ?_,
    fun hr hl ht => ?_, fun hr hl h₁ h₂ hi => ?_⟩⟩
  · exact (exec_setupRead hs (by simp)).trans (congrArg _ (setupReadFrame_done hr rfl hx hi))
  · exact ⟨entryBytes_length s.tables x hi, tablesWith_entryBytes (validTables_of_tablesValid hv) x hi⟩
  · exact (exec_setupRead hs hp).trans (congrArg _ (setupReadFrame_init hr))
  · exact (exec_setupRead hs hp).trans (congrArg _ (setupReadFrame_length hr hl))
  · exact (exec_setupRead hs hp).trans (congrArg _ (setupReadFrame_table hr hl (tableIdOf_none ht)))
  · obtain ⟨x, hx, hcount⟩ := tableIdOf_some h₁ h₂
    exact (exec_setupRead hs hp).trans (congrArg _ (setupReadFrame_index hr hl hx (hcount ▸ hi)))

end Sys2Proof.Machine


/-! Function mapping (chapter 2): the stages of a normalization (R31 to R33), the slots it fills (R34, R38), and the
raw values of a CHANNELS payload (R191). -/

namespace Sys2Proof.Machine

/-! ## Scaling (R31) -/

/-- The scaled value before its clamp: at most 4095000, over a span of at least 200. -/
theorem scaled_bounds {x centre span : Nat} (hx : x ≤ 4095) (hc : centre ≤ 4095) (hs : 200 ≤ span) :
    -20475 ≤ (((x : Int) - centre) * 1000).tdiv span ∧ (((x : Int) - centre) * 1000).tdiv span ≤ 20475 := by
  have hdividend : (((x : Int) - centre) * 1000).natAbs ≤ 20475 * 200 := by omega
  have hquotient : ((((x : Int) - centre) * 1000).tdiv span).natAbs ≤ 20475 := by
    rw [Int.natAbs_tdiv, Int.natAbs_natCast]
    exact Nat.div_le_of_le_mul (by omega)
  omega

/-! ## The deadband (R32) -/

section
variable {d : Nat} {v : Int}

theorem applyDeadband_inside (h : v.natAbs ≤ d) : applyDeadband d v = 0 := if_pos h

/-- Outside the deadband the magnitude is stretched over the whole range and the sign kept. -/
theorem applyDeadband_outside (hd : d ≤ 200) (h : d < v.natAbs) :
    applyDeadband d v = v.sign * ((v.natAbs - d) * 1000 / (1000 - d) : Nat) := by
  have hcast : ((v.natAbs : Int) - d) * 1000 = ((v.natAbs - d) * 1000 : Nat) := by omega
  have hrange : (1000 : Int) - d = (1000 - d : Nat) := by omega
  rw [applyDeadband, if_neg (Nat.not_le.mpr h), hcast, hrange, Int.ofNat_tdiv]

theorem applyDeadband_natAbs (hd : d ≤ 200) (h : d < v.natAbs) :
    (applyDeadband d v).natAbs = (v.natAbs - d) * 1000 / (1000 - d) := by
  have hv : v ≠ 0 := by omega
  rw [applyDeadband_outside hd h, Int.natAbs_mul, Int.natAbs_sign_of_ne_zero hv, one_mul, Int.natAbs_natCast]

/-- The stretch enlarges, so what lies outside the deadband does not become 0. -/
theorem stretched_pos {m : Nat} (h : d < m) (hd : d ≤ 200) : 0 < (m - d) * 1000 / (1000 - d) :=
  Nat.div_pos (by omega) (by omega)

theorem applyDeadband_pos (hd : d ≤ 200) (h : d < v.natAbs) (hv : 0 < v) : 0 < applyDeadband d v := by
  rw [applyDeadband_outside hd h, Int.sign_eq_one_of_pos hv, one_mul]
  exact_mod_cast stretched_pos h hd

theorem applyDeadband_neg (hd : d ≤ 200) (h : d < v.natAbs) (hv : v < 0) : applyDeadband d v < 0 := by
  rw [applyDeadband_outside hd h, Int.sign_eq_neg_one_of_neg hv, neg_one_mul]
  exact neg_neg_of_pos (by exact_mod_cast stretched_pos h hd)

/-- A value whose magnitude the stretch leaves alone passes unchanged. -/
theorem applyDeadband_fixed (hd : d ≤ 200) (h : d < v.natAbs) (hm : (v.natAbs - d) * 1000 / (1000 - d) = v.natAbs) :
    applyDeadband d v = v := by
  rw [applyDeadband_outside hd h, hm, Int.sign_mul_natAbs]

theorem applyDeadband_full (hd : d ≤ 200) (hv : v.natAbs = 1000) : applyDeadband d v = v := by
  refine applyDeadband_fixed hd (by omega) ?_
  rw [hv]
  exact Nat.mul_div_cancel_left 1000 (by omega)

/-- Continuity at the edge: the first value outside the deadband becomes 1. -/
theorem applyDeadband_edge (hd : d ≤ 200) (hv : v.natAbs = d + 1) : (applyDeadband d v).natAbs = 1 := by
  rw [applyDeadband_natAbs hd (by omega), hv, Nat.add_sub_cancel_left, one_mul]
  exact Nat.div_eq_of_lt_le (by omega) (by omega)

theorem applyDeadband_zero (v : Int) : applyDeadband 0 v = v := by
  by_cases hv : v = 0
  · subst hv; rfl
  · exact applyDeadband_fixed (Nat.zero_le _) (by omega) (Nat.mul_div_cancel _ (by decide))

end

/-! ## The curve (R33) -/

theorem curvePoint_eq {t : Vector Int 36} {k : Fin 4} {i : Nat} {p : Int} (h : t[k.val * 9 + i]? = some p) :
    curvePoint t k i = p := by
  rw [curvePoint, h, Option.getD_some]

/-- The segment of a value: its left end at or below the value, its right end above it unless it is the last. -/
theorem curveSegment_eq {v : Int} {i : Nat} (hi : i ≤ 7) (hlo : -1000 + 250 * (i : Int) ≤ v)
    (hhi : v < -750 + 250 * (i : Int) ∨ i = 7) : min 7 ((v + 1000).tdiv 250).toNat = i := by
  rw [Int.tdiv_eq_ediv_of_nonneg (by omega)]
  omega

section
variable {t : Vector Int 36} {k : Fin 4} {v p q : Int} {i : Nat} (hi : i ≤ 7) (hlo : -1000 + 250 * (i : Int) ≤ v)
  (hhi : v < -750 + 250 * (i : Int) ∨ i = 7) (hp : t[k.val * 9 + i]? = some p) (hq : t[k.val * 9 + i + 1]? = some q)
include hi hlo hhi hp hq

/-- The curve joins the two points of the value's segment by a line. -/
theorem applyCurve_segment :
    applyCurve t k v = clampTo (-1000) 1000 (p + ((q - p) * (v - (-1000 + 250 * (i : Int)))).tdiv 250) := by
  simp only [applyCurve, curveSegment_eq hi hlo hhi, curvePoint_eq hp, curvePoint_eq (i := i + 1) hq]

theorem applyCurve_leftPoint (h₁ : -1000 ≤ p) (h₂ : p ≤ 1000) (hv : v = -1000 + 250 * (i : Int)) :
    applyCurve t k v = p := by
  rw [applyCurve_segment hi hlo hhi hp hq, sub_eq_zero.mpr hv, mul_zero, Int.zero_tdiv, add_zero,
    clampTo_of_between h₁ h₂]

/-- The last segment ends in the last point. -/
theorem applyCurve_lastPoint (h₁ : -1000 ≤ q) (h₂ : q ≤ 1000) (hv : v = 1000) : applyCurve t k v = q := by
  have hwidth : v - (-1000 + 250 * (i : Int)) = 250 := by omega
  rw [applyCurve_segment hi hlo hhi hp hq, hwidth, Int.mul_tdiv_cancel _ (by decide), add_sub_cancel,
    clampTo_of_between h₁ h₂]

end

/-! ## A slot's value (R34) and band (R37) -/

section
variable {t : Tables} {raw : Vector Nat 10} {e : FuncEntry} {c : Fin 10}

theorem slotValue_unsourced (hs : e.source = none) : slotValue t raw e = 0 := by
  simp only [slotValue, hs]

theorem slotValue_straight (hs : e.source = some c) (hc : e.curve = none) :
    slotValue t raw e = applyDeadband e.deadband (scaleRaw e raw[c]) := by
  simp only [slotValue, hs, hc]

theorem slotValue_curved {k : Fin 4} (hs : e.source = some c) (hc : e.curve = some k) :
    slotValue t raw e = applyCurve t.curve k (applyDeadband e.deadband (scaleRaw e raw[c])) := by
  simp only [slotValue, hs, hc]

/-- A value given by the stages, case by case, is the slot's. -/
theorem eq_slotValue_of_stages {x : Int} (hnone : e.source = none → x = 0)
    (hsome : ∀ (c : Fin 10) (v : Int), e.source = some c → v = applyDeadband e.deadband (scaleRaw e raw[c]) →
      (e.curve = none → x = v) ∧ ∀ k : Fin 4, e.curve = some k → x = applyCurve t.curve k v) :
    x = slotValue t raw e := by
  cases hs : e.source with
  | none => rw [hnone hs, slotValue_unsourced hs]
  | some c =>
    obtain ⟨hstraight, hcurved⟩ := hsome c _ hs rfl
    cases hc : e.curve with
    | none => rw [hstraight hc, slotValue_straight hs hc]
    | some k => rw [hcurved k hc, slotValue_curved hs hc]

theorem slotBand_unsourced (slot : BandSlot) (present : Option (Fin 8)) (hs : e.source = none) :
    slotBand t raw slot e present = present := by
  simp only [slotBand, hs]

end

/-! ## Raw channel values (R191) -/

theorem u8At_eq_toNat {p : List Byte} {o : Nat} {b : Byte} (h : p[o]? = some b) : u8At p o = b.toNat := by
  rw [u8At, List.getD_eq_getElem?_getD, h, Option.getD_some]

/-- The first channel of a pair: the first byte and the high half of the second. -/
theorem rawChannel_even (p : List Byte) (g : Nat) :
    rawChannel p (2 * g) = u8At p (3 * g) * 16 + u8At p (3 * g + 1) / 16 := by
  rw [rawChannel, if_pos (Nat.mul_mod_right 2 g), Nat.mul_div_cancel_left g (by decide)]

/-- The second channel of a pair: the low half of the second byte and the third. -/
theorem rawChannel_odd (p : List Byte) (g : Nat) :
    rawChannel p (2 * g + 1) = u8At p (3 * g + 1) % 16 * 256 + u8At p (3 * g + 2) := by
  have hpair : (2 * g + 1) / 2 = g := by omega
  rw [rawChannel, if_neg (by omega), hpair]

/-- Settles O31: each stage by its own lemmas, and the record of `normalize` slot by slot. -/
theorem normalizationStages : Obligations.NormalizationStages := by
  refine ⟨fun e x hx hc hs => ?scaling, fun d v hd _ => ?deadband, fun t k v _ _ i hi hlo hhi p q hp hq => ?curve,
    fun t raw old new value hnew hvalue => ?slots, fun p a b c g ha hb hc => ?raw⟩
  case scaling =>
    rintro q rfl
    obtain ⟨hlo, hhi⟩ := scaled_bounds hx hc hs
    exact ⟨hlo, hhi, rfl⟩
  case deadband =>
    exact ⟨applyDeadband_inside,
      fun h => ⟨applyDeadband_natAbs hd h, applyDeadband_pos hd h, applyDeadband_neg hd h⟩,
      applyDeadband_full hd, applyDeadband_edge hd, fun h => h ▸ applyDeadband_zero v⟩
  case curve =>
    exact ⟨applyCurve_segment hi hlo hhi hp hq, applyCurve_leftPoint hi hlo hhi hp hq,
      applyCurve_lastPoint hi hlo hhi hp hq⟩
  case slots =>
    subst hnew
    have hslot (n : Fin 8) : slotValue t raw t.func[n] = value n :=
      (eq_slotValue_of_stages (hvalue n).1 (hvalue n).2).symm
    exact ⟨hslot 0, hslot 1, hslot 2, hslot 6, hslot 7, rfl, rfl, rfl, Option.isNone_iff_eq_none, rfl, rfl, rfl, rfl,
      slotBand_unsourced _ _, slotBand_unsourced _ _, slotBand_unsourced _ _, slotBand_unsourced _ _⟩
  case raw =>
    rw [rawChannels, tab_getElem, tab_getElem, rawChannel_even, rawChannel_odd, u8At_eq_toNat ha, u8At_eq_toNat hb,
      u8At_eq_toNat hc]
    exact ⟨rfl, rfl⟩

end Sys2Proof.Machine

/-! All-wheel steering (chapter 3): the scaled steer (R50), a corner's share and reduction (R51, R52), and the width of
a position (R57, R58). -/

namespace Sys2Proof.Machine

/-! ## Arithmetic (R1) -/

/-- Scaling by a factor of at most 1, written over a denominator, does not enlarge. -/
theorem natAbs_mul_tdiv_le {x f : Int} {d : Nat} (h : f.natAbs ≤ d) : ((x * f).tdiv d).natAbs ≤ x.natAbs := by
  rw [Int.natAbs_tdiv, Int.natAbs_mul, Int.natAbs_natCast]
  exact Nat.div_le_of_le_mul (Nat.mul_comm d _ ▸ Nat.mul_le_mul_left _ h)

theorem tdiv_nonpos_of_nonpos {n d : Int} (hn : n ≤ 0) (hd : 0 ≤ d) : n.tdiv d ≤ 0 := by
  have hopposite : 0 ≤ (-n).tdiv d := Int.tdiv_nonneg (neg_nonneg.mpr hn) hd
  rwa [Int.neg_tdiv, neg_nonneg] at hopposite

/-- Over 1000, the rounded quotient is the nearest whole number, and the one farther from zero where two are equally
near. -/
theorem roundDiv_thousand_eq {n q : Int} (hnear : 2 * (1000 * q - n).natAbs ≤ 1000)
    (htie : 2 * (1000 * q - n).natAbs = 1000 → n.natAbs < (1000 * q).natAbs) : roundDiv n 1000 = q := by
  unfold roundDiv
  split <;>
  · rw [Int.tdiv_eq_ediv_of_nonneg (by omega)]
    omega

/-! ## The scaled steer (R50) -/

section
variable {r : FunctionRecord}

theorem rateFactor_unsourced (h : r.rateUnsourced = true) : rateFactor r = 1000 := if_pos h

theorem rateFactor_sourced (h : r.rateUnsourced = false) : rateFactor r = 600 + (r.rate * 400).tdiv 1000 :=
  if_neg (by simp [h])

/-- The rate factor runs from 200 to 1000. -/
theorem rateFactor_bounds (hlo : -1000 ≤ r.rate) (hhi : r.rate ≤ 1000) :
    200 ≤ rateFactor r ∧ rateFactor r ≤ 1000 := by
  cases h : r.rateUnsourced with
  | true => rw [rateFactor_unsourced h]; decide
  | false =>
    have hrate : ((400 * r.rate).tdiv (1000 : Nat)).natAbs ≤ 400 := natAbs_mul_tdiv_le (by omega)
    rw [rateFactor_sourced h, mul_comm]
    push_cast at hrate
    omega

theorem scaledSteer_of_rateFactor {f : Int} (h : rateFactor r = f) : scaledSteer r = (r.steer * f).tdiv 1000 := by
  rw [scaledSteer, h]

theorem scaledSteer_full (h : rateFactor r = 1000) : scaledSteer r = r.steer := by
  rw [scaledSteer_of_rateFactor h, Int.mul_tdiv_cancel _ (by decide)]

theorem scaledSteer_natAbs_le (hlo : -1000 ≤ r.rate) (hhi : r.rate ≤ 1000) :
    (scaledSteer r).natAbs ≤ r.steer.natAbs := by
  obtain ⟨hleast, hmost⟩ := rateFactor_bounds hlo hhi
  exact natAbs_mul_tdiv_le (d := 1000) (by omega)

end

/-! ## A corner's share and target (R51, R52) -/

theorem geomInRange_iff {e : GeomEntry} :
    geomInRange e = true ↔ (-1000 ≤ e.gain ∧ e.gain ≤ 1000) ∧ e.ackermann ≤ 500 := by
  simp [geomInRange, between, betweenI]

section
variable {e : GeomEntry} {s : Int}

theorem cornerShare_natAbs_le (hlo : -1000 ≤ e.gain) (hhi : e.gain ≤ 1000) :
    (cornerShare e s).natAbs ≤ s.natAbs :=
  natAbs_mul_tdiv_le (d := 1000) (by omega)

theorem cornerShare_of_gain_zero (h : e.gain = 0) : cornerShare e s = 0 := by
  rw [cornerShare, h, mul_zero, Int.zero_tdiv]

/-- A corner of negative gain turns against the stick. -/
theorem cornerShare_nonpos (hgain : e.gain < 0) (hs : 0 < s) : cornerShare e s ≤ 0 :=
  tdiv_nonpos_of_nonpos (mul_neg_of_pos_of_neg hs hgain).le (by decide)

end

theorem outerCorner_iff (s : Int) (c : Fin 4) :
    outerCorner s c = true ↔ (0 < s ∧ (c = 0 ∨ c = 2)) ∨ (s < 0 ∧ (c = 1 ∨ c = 3)) := by
  have hright : leftCorner c = false ↔ c = 1 ∨ c = 3 := by revert c; decide
  rcases lt_trichotomy s 0 with hs | rfl | hs
  · simp [outerCorner, hs, not_lt_of_gt hs, hright]
  · simp [outerCorner]
  · simp [outerCorner, hs, not_lt_of_gt hs, leftCorner]

/-- The reduction of an outer corner (R52). -/
def outerReduction (e : GeomEntry) (s share : Int) : Int :=
  (share * e.ackermann * (s.natAbs : Int)).tdiv 1000000

theorem cornerTarget_eq (g : Vector GeomEntry 16) (m : SteerMode) (s : Int) (c : Fin 4) :
    cornerTarget g m s c =
      if outerCorner s c then
        cornerShare (geomEntry g m c) s - outerReduction (geomEntry g m c) s (cornerShare (geomEntry g m c) s)
      else cornerShare (geomEntry g m c) s := rfl

section
variable {e : GeomEntry} {s share : Int}

/-- The reduction takes at most the whole share. -/
theorem outerReduction_natAbs_le (he : e.ackermann ≤ 500) (hs : s.natAbs ≤ 1000) :
    (outerReduction e s share).natAbs ≤ share.natAbs := by
  have hfactor : e.ackermann * s.natAbs ≤ 500 * 1000 := Nat.mul_le_mul he hs
  rw [outerReduction, mul_assoc]
  exact natAbs_mul_tdiv_le (d := 1000000) (by omega)

theorem outerReduction_nonneg (h : 0 ≤ share) : 0 ≤ outerReduction e s share :=
  Int.tdiv_nonneg (by positivity) (by decide)

theorem outerReduction_nonpos (h : share ≤ 0) : outerReduction e s share ≤ 0 := by
  rw [outerReduction, mul_assoc]
  exact tdiv_nonpos_of_nonpos (mul_nonpos_of_nonpos_of_nonneg h (by positivity)) (by decide)

theorem outerReduction_of_ackermann_zero (h : e.ackermann = 0) : outerReduction e s share = 0 := by
  simp [outerReduction, h]

end

section
variable {g : Vector GeomEntry 16} {m : SteerMode} {s : Int} {c : Fin 4}

/-- A target keeps its share's sign and is no larger. -/
theorem cornerTarget_bounds (he : (geomEntry g m c).ackermann ≤ 500) (hs : s.natAbs ≤ 1000) :
    (0 ≤ cornerShare (geomEntry g m c) s →
        0 ≤ cornerTarget g m s c ∧ cornerTarget g m s c ≤ cornerShare (geomEntry g m c) s)
      ∧ (cornerShare (geomEntry g m c) s ≤ 0 →
          cornerShare (geomEntry g m c) s ≤ cornerTarget g m s c ∧ cornerTarget g m s c ≤ 0) := by
  have hle := outerReduction_natAbs_le (share := cornerShare (geomEntry g m c) s) he hs
  rw [cornerTarget_eq]
  constructor
  · intro hpos
    have := outerReduction_nonneg (e := geomEntry g m c) (s := s) hpos
    split <;> omega
  · intro hneg
    have := outerReduction_nonpos (e := geomEntry g m c) (s := s) hneg
    split <;> omega

theorem cornerTarget_of_ackermann_zero (h : (geomEntry g m c).ackermann = 0) :
    cornerTarget g m s c = cornerShare (geomEntry g m c) s := by
  rw [cornerTarget_eq, outerReduction_of_ackermann_zero h, sub_zero, ite_self]

end

/-! ## A corner's width (R57, R58) -/

theorem cornerInRange_limits {e : CornerEntry} (h : cornerInRange e = true) : e.lowLimit < e.highLimit := by
  simp only [cornerInRange, Bool.and_eq_true, decide_eq_true_eq] at h
  exact h.2

theorem cornerWidth_eq (e : CornerEntry) (a : Int) :
    cornerWidth e a = clampTo e.lowLimit e.highLimit (e.centre + roundDiv
      ((if e.reverse = true then -a else a)
        * (if 0 ≤ (if e.reverse = true then -a else a) then (e.throwPos : Int) else (e.throwNeg : Int))) 1000) := by
  simp only [cornerWidth, mul_ite, apply_ite (roundDiv · 1000)]

theorem cornerWidth_bounds {e : CornerEntry} (h : cornerInRange e = true) (a : Int) :
    (e.lowLimit : Int) ≤ cornerWidth e a ∧ cornerWidth e a ≤ e.highLimit :=
  clampTo_bounds (by exact_mod_cast (cornerInRange_limits h).le) _

/-- Settles O34: the scaled steer from the bounds of the rate factor, the target from its share and reduction, and the
width from the nearest quotient. -/
theorem cornerTargetsAndWidths : Obligations.CornerTargetsAndWidths := by
  refine ⟨⟨fun r hr => ?steer, fun g m k s share bracket e he hgeom hlo hhi hshare hbracket => ?target⟩,
    fun e a used throwPart hcorner hused hthrow => ?width⟩
  case steer =>
    obtain ⟨hsteerLo, hsteerHi⟩ := hr.steer
    obtain ⟨hrateLo, hrateHi⟩ := hr.rate
    have hle := scaledSteer_natAbs_le hrateLo hrateHi
    refine ⟨fun h => scaledSteer_full (rateFactor_unsourced h),
      fun h => scaledSteer_of_rateFactor (rateFactor_sourced h),
      fun h hrate => scaledSteer_of_rateFactor ?_, fun h hrate => scaledSteer_of_rateFactor ?_,
      fun h hrate => scaledSteer_full ?_, by omega, by omega⟩ <;>
    · rw [rateFactor_sourced h, hrate]
      rfl
  case target =>
    subst he
    obtain rfl : share = cornerShare (geomEntry g m k) s := hshare
    obtain rfl : bracket = outerReduction (geomEntry g m k) s (cornerShare (geomEntry g m k) s) := hbracket
    obtain ⟨⟨hgainLo, hgainHi⟩, hackermann⟩ := geomInRange_iff.mp hgeom
    have hle := cornerShare_natAbs_le (s := s) hgainLo hgainHi
    obtain ⟨hpos, hneg⟩ := cornerTarget_bounds (m := m) hackermann (show s.natAbs ≤ 1000 by omega)
    exact ⟨by omega, by omega, cornerShare_of_gain_zero, cornerShare_nonpos,
      by simp only [cornerTarget_eq, outerCorner_iff], hpos, hneg, cornerTarget_of_ackermann_zero⟩
  case width =>
    obtain ⟨hleast, hmost⟩ := cornerWidth_bounds hcorner a
    refine ⟨hleast, hmost, fun w hnear htie => ?_⟩
    subst hused hthrow
    rw [cornerWidth_eq, roundDiv_thousand_eq hnear htie, add_sub_cancel, clampTo]

end Sys2Proof.Machine


/-! The line count and homed (R85, R97): the operations and events that leave them alone. -/

namespace Sys2Proof.Machine

/-! ## The line count and homed at WCH's operations -/

/-- From `v` to `w` the winch keeps its line count and homed. -/
structure CountKept (v w : Winch) : Prop where
  line : w.line = v.line
  homed : w.homed = v.homed

theorem CountKept.refl (w : Winch) : CountKept w w := ⟨rfl, rfl⟩

theorem CountKept.after {u v w : Winch} (k : CountKept v w) (h : CountKept u v) : CountKept u w :=
  ⟨k.line.trans h.line, k.homed.trans h.homed⟩

theorem CountKept.of_eq {v w : Winch} (h : w = v) : CountKept v w := h ▸ .refl v

theorem CountKept.ite {p : Prop} [Decidable p] {w : Winch} {x y : WinchStep} (h : CountKept w x.winch)
    (k : CountKept w y.winch) : CountKept w (if p then x else y).winch := by
  split
  · exact h
  · exact k

section
variable (c : WinchContext)

theorem refile_count (x : WinchStep) : CountKept x.winch (refile c x).winch := ⟨rfl, rfl⟩

theorem retarget_count (x : WinchStep) : CountKept x.winch (retarget c x).winch := ⟨rfl, rfl⟩

theorem rampMove_count (w : Winch) : CountKept w (rampMove c w) := ⟨rfl, rfl⟩

theorem rampTimers_count (x : WinchStep) : CountKept x.winch (onWinch (rampTimers c) x).winch := ⟨rfl, rfl⟩

theorem tryRelease_count (x : WinchStep) : CountKept x.winch (tryRelease c x).winch :=
  .ite ⟨rfl, rfl⟩ (.refl _)

theorem toIdle_count (x : WinchStep) : CountKept x.winch (toIdle c x).winch :=
  (tryRelease_count c _).after ⟨rfl, rfl⟩

theorem toClutchIn_count (x : WinchStep) : CountKept x.winch (toClutchIn c x).winch :=
  .ite ((toIdle_count c _).after ⟨rfl, rfl⟩) ⟨rfl, rfl⟩

theorem winchFaulted_count (cause : FaultCause) (x : WinchStep) :
    CountKept x.winch (winchFaulted c cause x).winch :=
  .ite ⟨rfl, rfl⟩ ⟨rfl, rfl⟩

theorem actOnRequest_count (x : WinchStep) : CountKept x.winch (actOnRequest c x).winch :=
  .ite (.ite (.refl _) (toClutchIn_count c x)) (tryRelease_count c x)

theorem actOnCommand_count (x : WinchStep) : CountKept x.winch (actOnCommand c x).winch := by
  unfold actOnCommand
  dsimp only
  split
  case h_1 | h_4 => exact .ite ⟨rfl, rfl⟩ (.ite ⟨rfl, rfl⟩ (.refl _))
  case h_2 | h_3 => exact .ite ⟨rfl, rfl⟩ ⟨rfl, rfl⟩
  all_goals exact .refl _

/-! ## The line count and homed at the events of WCH -/

theorem winchUpdate_count (r : FunctionRecord) (w : Winch) : CountKept w (winchUpdate c r w).winch :=
  (refile_count c _).after ((actOnCommand_count c _).after ((actOnRequest_count c _).after ⟨rfl, rfl⟩))

theorem winchHalt_count (returns : Bool) (w : Winch) : CountKept w (winchHalt c returns w).winch :=
  .ite ⟨rfl, rfl⟩ (.ite ((toClutchIn_count c _).after ⟨rfl, rfl⟩) ⟨rfl, rfl⟩)

theorem winchRunChange_count (w : Winch) : CountKept w (winchRunChange c w).winch :=
  .ite (.refl w) (winchHalt_count c _ w)

theorem winchProtChange_count (w : Winch) : CountKept w (winchProtChange c w).winch :=
  .ite (winchHalt_count c true w) (.refl w)

theorem winchEnterSetup_count (w : Winch) : CountKept w (winchEnterSetup c w).winch :=
  .ite ((toClutchIn_count c _).after ⟨rfl, rfl⟩) (.refl w)

theorem winchWritten_count (w : Winch) : CountKept w (winchWritten c w).winch :=
  (refile_count c _).after ((retarget_count c _).after ((actOnRequest_count c _).after ⟨rfl, rfl⟩))

theorem winchTick_count (w : Winch) : CountKept w (winchTick c w).winch :=
  have hmoved : CountKept w (winchBegin (rampMove c w)).winch := rampMove_count c w
  (refile_count c _).after ((rampTimers_count c _).after (.ite ((toIdle_count c _).after hmoved) hmoved))

theorem winchEngaged_count (w : Winch) : CountKept w (winchEngaged c w).winch :=
  .ite (toIdle_count c (winchBegin w)) (.refl w)

theorem winchDisengaged_count (w : Winch) : CountKept w (winchDisengaged c w).winch :=
  .ite ⟨rfl, rfl⟩ (.refl w)

theorem winchTemp_count (v : Int) (w : Winch) : CountKept w (winchTemp c v w).winch :=
  .ite ((winchFaulted_count c _ _).after ⟨rfl, rfl⟩) ⟨rfl, rfl⟩

theorem winchCleared_count (w : Winch) : CountKept w (winchCleared c w).winch :=
  .ite ((toIdle_count c _).after ⟨rfl, rfl⟩) ⟨rfl, rfl⟩

/-- A valid count moves the line and leaves homed (R97, R98, R110). -/
theorem winchCounted_count (d : Int) (w : Winch) :
    CountKept { w with line := w.line + d } (winchCounted c d w).winch := by
  refine .ite ((winchFaulted_count c _ _).after ?_) ?_ <;>
  exact .ite (.ite ⟨rfl, rfl⟩ ⟨rfl, rfl⟩) ⟨rfl, rfl⟩

theorem winchEncoder_homed (a b : Level) (w : Winch) : (winchEncoder c a b w).winch.homed = w.homed := by
  simp only [winchEncoder]
  split
  · rfl
  · exact (winchCounted_count c _ _).homed

/-- The home switch homes the winch at line count 0 (R99). -/
theorem winchHomeEvent_count (w : Winch) :
    CountKept { w with line := 0, homed := true } (winchHomeEvent c w).winch :=
  .ite ((toIdle_count c _).after ⟨rfl, rfl⟩) ⟨rfl, rfl⟩

/-- No event of a line but IN0's active one homes the winch. -/
theorem winchLineEvent_count {n : Fin 4} {active : Bool} (h : ¬(n = 0 ∧ active = true)) (w : Winch) :
    CountKept w (winchLineEvent n active c w).winch := by
  unfold winchLineEvent
  by_cases hn : n = 0
  · rw [if_pos hn, if_neg fun ha => h ⟨hn, ha⟩]
    exact .refl w
  · rw [if_neg hn]
    exact .ite (.ite (winchEngaged_count c w) (winchDisengaged_count c w)) (.refl w)

end

/-! ## The line count and homed at what the blocks share -/

section
variable (s : State)

theorem onWinchEvent_count {f : WinchContext → Winch → WinchStep} (h : ∀ c w, CountKept w (f c w).winch) :
    CountKept s.winch (onWinchEvent f s).winch := by
  rw [onWinchEvent_winch]
  exact h _ _

theorem functionUpdate_count (r : FunctionRecord) : CountKept s.winch (functionUpdate r s).winch := by
  obtain ⟨c, -, hw⟩ := functionUpdate_winch r s
  rw [hw]
  exact winchUpdate_count c r s.winch

theorem handToMapper_count (p : List Byte) : CountKept s.winch (handToMapper p s).winch :=
  functionUpdate_count s _

theorem deliverRun_count (n : RunState) : CountKept s.winch (deliverRun n s).winch := by
  obtain ⟨c, -, hw⟩ := deliverRun_winch n s
  rw [hw]
  exact winchRunChange_count c s.winch

theorem enterFailsafe_count : CountKept s.winch (enterFailsafe s).winch :=
  (functionUpdate_count _ _).after
    (deliverRun_count (setFlag .failsafeEntered (restartHold (putRecovery 0 s))) .failsafe)

theorem deliverProtection_count (p : Protection) : CountKept s.winch (deliverProtection p s).winch := by
  have h := onWinchEvent_count (driveCompute (setFlag .protChanged { s with protection := p })) winchProtChange_count
  rwa [driveCompute_winch] at h

theorem evaluatePass_count (l : Vector ScanEntry 8) : CountKept s.winch (evaluatePass l s).winch := by
  simp only [evaluatePass]
  split <;> [split; skip]
  · exact .refl _
  · exact deliverProtection_count s _
  · exact .refl _

theorem handValue_count (q : Quantity) (v : Int) : CountKept s.winch (handValue q v s).winch := by
  cases q with
  | winchI => exact onWinchEvent_count s fun _ _ => ⟨rfl, rfl⟩
  | temp => exact onWinchEvent_count s fun c w => winchTemp_count c v w
  | _ => exact .refl _

theorem completeSlot_count (p : Pass) (q : Quantity) (v : Int) :
    CountKept s.winch (completeSlot p q v s).winch := by
  unfold completeSlot
  split
  · exact handValue_count (putScanner q v _ s) q v
  · exact (evaluatePass_count _ _).after (handValue_count (putScanner q v _ s) q v)

theorem conversionEnded_count (x : SenseInputs) : CountKept s.winch (conversionEnded x s).winch := by
  simp only [conversionEnded]
  repeat' split
  case h_1 | h_1 | isFalse => exact .refl _
  case isTrue => exact completeSlot_count s _ _ _

theorem holdExpired_count : CountKept s.winch (holdExpired s).winch := by
  unfold holdExpired
  split
  case h_3 => exact enterFailsafe_count s
  all_goals exact .refl _

/-! ## The line count and homed at a CHANNELS frame -/

theorem neutralCheck_count (p : List Byte) : CountKept s.winch (neutralCheck p s).winch :=
  .of_eq (neutralCheck_stands p s).winch

theorem countRecovery_count : CountKept s.winch (countRecovery s).winch := by
  unfold countRecovery
  split
  · exact deliverRun_count (putRecovery 0 s) .run
  · exact .refl _

theorem channelsHandled_count (p : List Byte) : CountKept s.winch (channelsHandled p s).winch := by
  unfold channelsHandled
  split
  case h_1 => exact .refl _
  case h_2 => exact (neutralCheck_count _ p).after (handToMapper_count s p)
  case h_3 =>
    split
    · exact enterFailsafe_count (restartHold s)
    · exact handToMapper_count (restartHold s) p
  case h_4 =>
    split
    · exact .refl _
    · exact countRecovery_count (restartHold s)
  case h_5 => exact handToMapper_count s p

theorem channelsFrame_count (p : List Byte) : CountKept s.winch (channelsFrame p s).winch := by
  unfold channelsFrame
  split <;> [skip; split]
  · exact .refl _
  · exact .refl _
  · rw [decideTelemetry_winch, advanceTelemetry_winch]
    exact channelsHandled_count s p

end

end Sys2Proof.Machine


/-! The home switch (R99): the line events at which IN0 becomes active. -/

namespace Sys2Proof.Machine

/-! ## What a line event does to homed -/

/-- At a line event the winch is homed only where IN0 becomes active, and then at line count 0. -/
def HomeSwitched (s t : State) : Prop :=
  t.winch.homed = s.winch.homed
    ∨ (t.winch.line = 0 ∧ t.winch.homed = true ∧ inputActive s 0 = false ∧ inputActive t 0 = true)

theorem HomeSwitched.of_count {s t : State} (h : CountKept s.winch t.winch) : HomeSwitched s t := .inl h.homed

/-- What leaves the count and the home switch alone adds nothing. -/
theorem HomeSwitched.then_kept {s t u : State} (h : HomeSwitched s t) (hcount : CountKept t.winch u.winch)
    (hswitch : inputActive u 0 = inputActive t 0) : HomeSwitched s u := by
  rwa [HomeSwitched, hcount.line, hcount.homed, hswitch]

@[simp] theorem setFlags_lines (fs : List Flag) (s : State) : (setFlags fs s).inputs.lines = s.inputs.lines := by
  have h (x : Inputs) : (fs.foldl (fun x f => raiseFlag f x) x).lines = x.lines := by
    induction fs generalizing x with
    | nil => rfl
    | cons f fs ih => exact ih (raiseFlag f x)
  exact h s.inputs

@[simp] theorem onWinchEvent_lines (f : WinchContext → Winch → WinchStep) (s : State) :
    (onWinchEvent f s).inputs.lines = s.inputs.lines := by
  simp [onWinchEvent, putWinch]

/-- The edge flag and the edge arm are no part of a line's logical value. -/
theorem edgeAtEvent_lineActive (n m : Fin 4) (active : Bool) (x : Inputs) (t : Vector InputEntry 4) :
    lineActive (edgeAtEvent n active x) t m = lineActive x t m := by
  unfold edgeAtEvent
  split <;> [split; skip]
  · rfl
  · rfl
  · by_cases h : n = m
    · subst h
      simp [lineActive]
    · have hn : n.val ≠ m.val := fun e => h (Fin.ext e)
      simp [lineActive, hn]

@[simp] theorem lineEvent_inputActive (n m : Fin 4) (active : Bool) (s : State) :
    inputActive (lineEvent n active s) m = inputActive s m := by
  have h := edgeAtEvent_lineActive n m active s.inputs s.tables.input
  simpa [inputActive, lineActive, lineEvent] using h

theorem lineEvent_winch (n : Fin 4) (active : Bool) (s : State) :
    ∃ c : WinchContext, (lineEvent n active s).winch = (winchLineEvent n active c s.winch).winch :=
  ⟨winchContext { s with inputs := edgeAtEvent n active s.inputs }, by simp [lineEvent]⟩

theorem lineEvent_count {n : Fin 4} {active : Bool} (h : ¬(n = 0 ∧ active = true)) (s : State) :
    CountKept s.winch (lineEvent n active s).winch := by
  obtain ⟨c, hw⟩ := lineEvent_winch n active s
  rw [hw]
  exact winchLineEvent_count c h s.winch

theorem lineEvent_homes (s : State) :
    (lineEvent 0 true s).winch.line = 0 ∧ (lineEvent 0 true s).winch.homed = true := by
  obtain ⟨c, hw⟩ := lineEvent_winch 0 true s
  have h : CountKept { s.winch with line := 0, homed := true } (lineEvent 0 true s).winch := by
    rw [hw]
    exact winchHomeEvent_count c s.winch
  exact ⟨h.line, h.homed⟩

/-- An event of IN0 whose logical value has turned. -/
theorem lineEvent_homeSwitched {s x : State} (hcount : CountKept s.winch x.winch)
    (hturned : inputActive s 0 = !inputActive x 0) : HomeSwitched s (lineEvent 0 (inputActive x 0) x) := by
  cases hx : inputActive x 0 with
  | false => exact .of_count ((lineEvent_count (by simp) x).after hcount)
  | true =>
    obtain ⟨hline, hhomed⟩ := lineEvent_homes x
    exact .inr ⟨hline, hhomed, by rw [hturned, hx]; rfl, by rw [lineEvent_inputActive, hx]⟩

/-- Either of two levels that differ is active exactly where the other is not. -/
theorem level_beq_of_ne {l m : Level} (h : l ≠ m) (a : Level) : (l == a) = !(m == a) := by
  cases l <;> cases m
  case low.low | high.high => exact absurd rfl h
  all_goals cases a <;> rfl

/-! ## A sample tick (R171) -/

/-- A sample that makes an accepted transition has turned the line's level. -/
theorem sampleLine_turned {d : Nat} {v : Level} {l : Line} (h : (sampleLine d v l).2 = true) :
    l.level ≠ (sampleLine d v l).1.level := by
  unfold sampleLine at h ⊢
  split at h
  · cases h
  · next hv =>
    rw [if_neg hv]
    split at h
    · next hd =>
      rw [if_pos hd]
      exact Ne.symm hv
    · cases h

theorem putLine_inputActive_other {n m : Fin 4} (h : n ≠ m) (l : Line) (s : State) :
    inputActive (putLine n l s) m = inputActive s m := by
  have hn : n.val ≠ m.val := fun e => h (Fin.ext e)
  simp [inputActive, lineActive, putLine, hn]

theorem takeSample_homeSwitched (v : Level) (s : State) : HomeSwitched s (takeSample v 0 s) := by
  simp only [takeSample]
  split
  · next h =>
    refine lineEvent_homeSwitched (x := putLine 0 _ s) (.refl _) ?_
    have hturned := level_beq_of_ne (sampleLine_turned h) s.tables.input[0].active
    simpa [inputActive, lineActive, putLine] using hturned
  · exact .of_count (.refl _)

theorem takeSample_other {n : Fin 4} (hn : n ≠ 0) (v : Level) (s : State) :
    CountKept s.winch (takeSample v n s).winch ∧ inputActive (takeSample v n s) 0 = inputActive s 0 := by
  simp only [takeSample]
  split
  · rw [lineEvent_inputActive, putLine_inputActive_other hn]
    exact ⟨lineEvent_count (fun h => hn h.1) (putLine n _ s), rfl⟩
  · exact ⟨.refl _, putLine_inputActive_other hn _ s⟩

/-- Events that leave the count and the home switch alone, one after another. -/
theorem HomeSwitched.foldl {f : State → Fin 4 → State} {s : State} (ns : List (Fin 4))
    (h : ∀ n ∈ ns, ∀ x, CountKept x.winch (f x n).winch ∧ inputActive (f x n) 0 = inputActive x 0) {x : State}
    (hx : HomeSwitched s x) : HomeSwitched s (ns.foldl f x) := by
  induction ns generalizing x with
  | nil => exact hx
  | cons n ns ih =>
    obtain ⟨hcount, hswitch⟩ := h n List.mem_cons_self x
    exact ih (fun m hm => h m (List.mem_cons_of_mem n hm)) (hx.then_kept hcount hswitch)

theorem takeSamples_homeSwitched (v : Vector Level 4) (s : State) : HomeSwitched s (takeSamples v s) := by
  have hfirst : takeSamples v s =
      ([1, 2, 3] : List (Fin 4)).foldl (fun s n => takeSample v[n] n s) (takeSample v[0] 0 s) := by
    simp [takeSamples, List.finRange_succ]
  rw [hfirst]
  exact .foldl _ (fun n hn => takeSample_other (by rintro rfl; simp at hn) v[n]) (takeSample_homeSwitched v[0] s)

/-! ## An INPUT entry written (R170) -/

/-- The entry's active level replaced: the line's logical value turns exactly where the level does. -/
theorem lineRewritten_homeSwitched {s x : State} (hcount : CountKept s.winch x.winch)
    (hlines : x.inputs.lines = s.inputs.lines) :
    HomeSwitched s (lineRewritten s.tables.input[(0 : Fin 4)].active 0 x) := by
  unfold lineRewritten
  split
  · exact .of_count hcount
  · next h =>
    refine lineEvent_homeSwitched hcount ?_
    have hturned := level_beq_of_ne (Ne.symm h) s.inputs.lines[(0 : Fin 4)].level
    rw [BEq.comm, BEq.comm (b := s.inputs.lines[(0 : Fin 4)].level)] at hturned
    rwa [inputActive, inputActive, lineActive, lineActive, hlines]

theorem lineRewritten_other {n : Fin 4} (hn : n ≠ 0) (before : Level) (s : State) :
    CountKept s.winch (lineRewritten before n s).winch
      ∧ inputActive (lineRewritten before n s) 0 = inputActive s 0 := by
  unfold lineRewritten
  split
  · exact ⟨.refl _, rfl⟩
  · exact ⟨lineEvent_count (fun h => hn h.1) s, lineEvent_inputActive _ _ _ _⟩

theorem entryWritten_homeSwitched (id : TableId) (i : Nat) (t : Tables) (s : State) :
    HomeSwitched s (entryWritten id i t s) := by
  cases id with
  | winch => exact .of_count (onWinchEvent_count (putTables t s) winchWritten_count)
  | input =>
    simp only [entryWritten, ownerWritten]
    split
    · next hi =>
      by_cases h0 : i = 0
      · subst h0
        exact lineRewritten_homeSwitched (x := putTables t s) (.refl _) rfl
      · exact .of_count (lineRewritten_other (s := putTables t s) (fun e => h0 (congrArg Fin.val e)) _).1
    · exact .of_count (.refl _)
  | _ => exact .of_count (.of_eq (by simp [entryWritten, ownerWritten, apply_dite]))

/-! ## RESTORE_DEFAULTS (R186) -/

/-- RESTORE_DEFAULTS at every owner but INL. -/
def ownersRestored (s : State) : State :=
  let s1 := { s with tables := defaultTables }
  let s2 := putSteering (steerFile s1.tables.steer s1.steering) s1
  let s3 := onWinchEvent winchWritten (driveCompute s2)
  recomputeCap (wakeScanner (putLights (lightsRestored s3.tables (grantOf s3 3) s3.lights) s3))

theorem ownersRestored_count (s : State) : CountKept s.winch (ownersRestored s).winch := by
  simpa [ownersRestored] using winchWritten_count _ s.winch

theorem ownersRestored_lines (s : State) : (ownersRestored s).inputs.lines = s.inputs.lines := by
  simp [ownersRestored]

theorem defaultsRestored_homeSwitched (s : State) : HomeSwitched s (defaultsRestored s) := by
  have hfirst : defaultsRestored s =
      ([1, 2, 3] : List (Fin 4)).foldl (fun x n => lineRewritten s.tables.input[n].active n x)
        (lineRewritten s.tables.input[(0 : Fin 4)].active 0 (ownersRestored s)) := by
    simp [defaultsRestored, ownersRestored, List.finRange_succ]
  rw [hfirst]
  exact .foldl _ (fun n hn => lineRewritten_other (by rintro rfl; simp at hn) _)
    (lineRewritten_homeSwitched (ownersRestored_count s) (ownersRestored_lines s))

end Sys2Proof.Machine


/-! WINCH_HOME, and what every command does to homed (R99, R100). -/

namespace Sys2Proof.Machine

/-! ## The action (R100) -/

/-- The winch homed where it stands. -/
def homedHere (s : State) : State := { s with winch := { s.winch with line := 0, homed := true } }

/-- The homing of WINCH_HOME delivers nothing and files no demand. -/
theorem onWinchEvent_homedHere (s : State) :
    onWinchEvent (fun _ w => winchBegin { w with line := 0, homed := true }) s = homedHere s :=
  congrArg (fun b => { homedHere s with budget := b }) (if_pos rfl)

theorem performWinchHome_idle {s : State} (h : s.winch.state = .idle) :
    performWinchHome s = answerAction .done (homedHere s) := by
  rw [performWinchHome, if_pos h, onWinchEvent_homedHere]

theorem performWinchHome_busy {s : State} (h : s.winch.state ≠ .idle) :
    performWinchHome s = answerAction .refused s := if_neg h

theorem exec_winchHome {s : State} (hs : Listening s) (hr : s.link.run ≠ .init) :
    exec .winchHome s = .next (performWinchHome (putReceiver receiverHunting s)) :=
  congrArg Host.Outcome.next ((receiveFrame_listening Config.kindAction hs (by decide)).trans (if_neg hr))

/-! ## What one command does to homed -/

/-- A command homes the winch by WINCH_HOME in IDLE or by the home switch, and never takes homed away. -/
def HomedBy (s t : State) : Prop :=
  (s.winch.state = .idle ∧ t.winch = (homedHere s).winch) ∨ HomeSwitched s t

theorem HomedBy.of_homed {s t : State} (h : t.winch.homed = s.winch.homed) : HomedBy s t := .inr (.inl h)

theorem HomedBy.of_count {s t : State} (h : CountKept s.winch t.winch) : HomedBy s t := .of_homed h.homed

theorem HomedBy.refl (s : State) : HomedBy s s := .of_homed rfl

/-- What leaves the winch and the home switch alone before the homing is no part of it. -/
theorem HomedBy.before {s u t : State} (h : HomedBy u t) (hwinch : u.winch = s.winch)
    (hswitch : inputActive u 0 = inputActive s 0) : HomedBy s t := by
  rwa [HomedBy, HomeSwitched, homedHere, hwinch, hswitch] at h

theorem HomedBy.ite {p : Prop} [Decidable p] {s t u : State} (h : HomedBy s t) (k : HomedBy s u) :
    HomedBy s (if p then t else u) := by
  split
  · exact h
  · exact k

theorem HomedBy.answered {s t : State} (h : HomedBy s t) (k : Byte) (r : Result) : HomedBy s (answer k r t) := h

theorem HomedBy.of_winchEvent (s : State) {f : WinchContext → Winch → WinchStep}
    (h : ∀ c w, (f c w).winch.homed = w.homed) : HomedBy s (onWinchEvent f s) :=
  .of_homed (by rw [onWinchEvent_winch, h])

/-! ## Actions -/

theorem performEnterSetup_count (s : State) : CountKept s.winch (performEnterSetup s).winch := by
  have hevaluated : CountKept s.winch (evaluateEnterSetup s).winch := by
    unfold evaluateEnterSetup
    split
    · exact (onWinchEvent_count _ winchEnterSetup_count).after (deliverRun_count (stopHold s) .setup)
    · exact onWinchEvent_count s winchEnterSetup_count
  unfold performEnterSetup
  split
  case h_2 | h_3 => exact hevaluated
  all_goals exact .refl _

theorem performWinchHome_homedBy (s : State) : HomedBy s (performWinchHome s) := by
  by_cases h : s.winch.state = .idle
  · rw [performWinchHome_idle h]
    exact .inl ⟨h, rfl⟩
  · rw [performWinchHome_busy h]
    exact .of_homed rfl

theorem performAction_homedBy (a : Action) (s : State) : HomedBy s (performAction a s) := by
  cases a with
  | enterSetup => exact .of_count (performEnterSetup_count s)
  | leaveSetup =>
    exact .ite (.of_homed rfl) (.ite (.of_homed rfl) (.ite (.of_homed rfl) (.of_count (deliverRun_count s .wait))))
  | store => exact .ite (.of_homed rfl) (.ite (.of_homed rfl) (.of_homed rfl))
  | restoreDefaults =>
    exact .ite (.of_homed rfl) (.ite (.of_homed rfl) (.answered (.inr (defaultsRestored_homeSwitched s)) _ _))
  | softReset => exact .ite (.of_homed rfl) (.of_homed rfl)
  | clearProtect =>
    exact .ite (.of_homed rfl) (.ite (.of_count (deliverProtection_count s _)) (.of_homed rfl))
  | winchHome => exact performWinchHome_homedBy s
  | winchClear => exact .ite (.of_count (onWinchEvent_count s winchCleared_count)) (.of_homed rfl)

/-! ## Frames -/

theorem actionFrame_homedBy (p : List Byte) (s : State) : HomedBy s (actionFrame p s) := by
  refine .ite (.of_homed rfl) (.ite (.of_homed rfl) ?_)
  split
  · exact .of_homed rfl
  · exact performAction_homedBy _ s

theorem setupWriteFrame_homedBy (p : List Byte) (s : State) : HomedBy s (setupWriteFrame p s) := by
  unfold setupWriteFrame
  split
  · exact .of_homed rfl
  · exact .answered (.inr (entryWritten_homeSwitched _ _ _ s)) _ _

@[simp] theorem setupReadFrame_winch (p : List Byte) (s : State) : (setupReadFrame p s).winch = s.winch := by
  unfold setupReadFrame
  repeat' split
  all_goals rfl

@[simp] theorem queryFrame_winch (p : List Byte) (s : State) : (queryFrame p s).winch = s.winch := by
  unfold queryFrame answerQuery
  repeat' split
  all_goals rfl

theorem dispatch_homedBy (k : Byte) (p : List Byte) (s : State) : HomedBy s (dispatch k p s) := by
  unfold dispatch
  refine .ite ?channels (.ite ?write (.ite ?read (.ite ?query (.ite ?action ?unknown))))
  case channels => exact .of_count (channelsFrame_count s p)
  case write => exact setupWriteFrame_homedBy p s
  case read => exact .of_homed (by rw [setupReadFrame_winch])
  case query => exact .of_homed (by rw [queryFrame_winch])
  case action => exact actionFrame_homedBy p s
  case unknown => exact .of_homed rfl

/-! ## The start bit (R10, R187) -/

/-- From `s` to `u` homed stands, and so do the winch and the home switch but where a soft reset has been
performed, whose frame is discarded. -/
structure BeforeFrame (s u : State) : Prop where
  homed : u.winch.homed = s.winch.homed
  received : u.link.discarding = false →
    s.link.discarding = false ∧ u.winch = s.winch ∧ inputActive u 0 = inputActive s 0

theorem BeforeFrame.refl (s : State) : BeforeFrame s s := ⟨rfl, fun h => ⟨h, rfl, rfl⟩⟩

theorem BeforeFrame.after {s u v : State} (k : BeforeFrame u v) (h : BeforeFrame s u) : BeforeFrame s v where
  homed := k.homed.trans h.homed
  received hv := by
    obtain ⟨hu, hwinch, hswitch⟩ := k.received hv
    obtain ⟨hs, hwinch', hswitch'⟩ := h.received hu
    exact ⟨hs, hwinch.trans hwinch', hswitch.trans hswitch'⟩

theorem noticeAbandoned_beforeFrame (n : Notice) (s : State) : BeforeFrame s (noticeAbandoned n s) := by
  cases n with
  | statusReport => exact ⟨rfl, fun h => ⟨h, rfl, rfl⟩⟩
  | softReset => exact ⟨rfl, fun h => nomatch h⟩

theorem abandonReply_beforeFrame (s : State) : BeforeFrame s (abandonReply s) := by
  have hnotices (ns : List Notice) (x : State) : BeforeFrame x (ns.foldl (fun x n => noticeAbandoned n x) x) := by
    induction ns generalizing x with
    | nil => exact .refl x
    | cons n ns ih => exact (ih _).after (noticeAbandoned_beforeFrame n x)
  unfold abandonReply
  split
  · exact (hnotices _ _).after ⟨rfl, fun h => ⟨h, rfl, rfl⟩⟩
  · exact .refl s
  · exact .refl s

theorem onLine_homedBy {f : State → State} (hf : ∀ x, HomedBy x (f x)) (s : State) : HomedBy s (onLine f s) := by
  obtain ⟨hhomed, hreceived⟩ := abandonReply_beforeFrame s
  refine .ite ?_ (.refl s)
  unfold afterStartBit
  split
  · exact .of_homed hhomed
  · next h =>
    obtain ⟨-, hwinch, hswitch⟩ := hreceived (eq_false_of_ne_true h)
    exact (hf _).before hwinch hswitch

theorem takeFrame_homedBy {f : State → State} (hf : ∀ x, HomedBy x (f x)) (p : List Byte) (s : State) :
    HomedBy s (takeFrame f p s) :=
  .ite (.of_homed rfl) ((hf _).before rfl rfl)

theorem receiveFrame_homedBy (k : Byte) (p : List Byte) (s : State) : HomedBy s (receiveFrame k p s) :=
  onLine_homedBy (takeFrame_homedBy (dispatch_homedBy k p) p) s

theorem receiveChecked_homedBy (k : Byte) (p : List Byte) (c : Check) (s : State) :
    HomedBy s (receiveChecked k p c s) :=
  onLine_homedBy (takeFrame_homedBy (fun x => .ite (dispatch_homedBy k p x) (.refl x)) p) s

theorem takeByte_homedBy (b : Byte) (s : State) : HomedBy s (takeByte b s) :=
  .ite ((dispatch_homedBy _ _ _).before rfl rfl) (.of_homed rfl)

theorem receiveLen_homedBy (b : Byte) (s : State) : HomedBy s (receiveLen b s) :=
  onLine_homedBy (fun x => .ite (t := putReceiver receiverHunting x) (.of_homed rfl) (takeByte_homedBy b x)) s

theorem receiveBroken_homedBy (s : State) : HomedBy s (receiveBroken s) :=
  onLine_homedBy (f := putReceiver receiverHunting) (fun _ => .of_homed rfl) s

theorem completeReply_homed (s : State) : (completeReply s).winch.homed = s.winch.homed := by
  have hnotices (ns : List Notice) (x : State) :
      (ns.foldl (fun x n => noticeCompleted n x) x).winch.homed = x.winch.homed := by
    induction ns generalizing x with
    | nil => rfl
    | cons n ns ih => exact (ih _).trans (by cases n <;> rfl)
  unfold completeReply
  split
  · simp [hnotices]
  · rfl
  · rfl

/-! ## Every command -/

/-- A command that is a good frame is that frame received. -/
theorem exec_frame {c : Instr} {k : Byte} {p : List Byte} (h : frameOf c = some (k, p)) (s : State) :
    exec c s = .next (receiveFrame k p s) := by
  cases c <;> cases h <;> rfl

theorem loadCompleted_homed (v : Vector Level 4) (a b : Level) (s : State) :
    (loadCompleted v a b s).winch.homed = s.winch.homed := by
  simp [loadCompleted, winchLoaded, winchPlaced]

theorem HomedBy.of_next {s t u : State} (h : (.next u : Host.Outcome State Fault Refusal) = .next t)
    (k : HomedBy s u) : HomedBy s t := Host.Outcome.next.inj h ▸ k

/-- The commands that are no good frame, but for the two resets that clear homed. -/
theorem exec_notFrame_homedBy {c : Instr} {s t : State} (h : exec c s = .next t) (hp : c ≠ .powerOnReset)
    (hb : c ≠ .brownOutReset) (hf : frameOf c = none) : HomedBy s t := by
  cases c
  case powerOnReset => exact absurd rfl hp
  case brownOutReset => exact absurd rfl hb
  case checkMismatchFrame k p check => exact .of_next h (receiveChecked_homedBy k p check s)
  case framingError => exact .of_next h (receiveBroken_homedBy s)
  case lenDiscard len => exact .of_next h (receiveLen_homedBy len s)
  case byteReceived b => exact .of_next h (onLine_homedBy (takeByte_homedBy b) s)
  case gapTimeout => exact .of_next h (.of_homed (by rw [gapExpired_winch]))
  case replyStart => exact .of_next h (.of_homed (by rw [startReply_winch]))
  case replyAbandon => exact .of_next h (.of_homed (abandonReply_beforeFrame s).homed)
  case replyComplete => exact .of_next h (.of_homed (completeReply_homed s))
  case holdTimerExpiry => exact .of_next h (.ite (.of_count (holdExpired_count s)) (.refl s))
  case servoPeriodStart => exact .of_next h (.ite (.of_homed (by rw [servoPeriodStarted_winch])) (.refl s))
  case brakingTimerExpiry => exact .of_next h (.ite (.of_homed (by rw [brakingExpired_winch])) (.refl s))
  case rampTick => exact .of_next h (.ite (.of_winchEvent s fun c w => (winchTick_count c w).homed) (.refl s))
  case stallTimerExpiry =>
    exact .of_next h (.ite (.of_winchEvent s fun c w => (winchFaulted_count c .stall _).homed) (.refl s))
  case noMotionTimerExpiry =>
    exact .of_next h (.ite (.of_winchEvent s fun c w => (winchFaulted_count c .noMotion _).homed) (.refl s))
  case clutchTimerExpiry =>
    exact .of_next h (.ite (.of_winchEvent s fun c w => (winchFaulted_count c .clutch _).homed) (.refl s))
  case encoderCount a b =>
    exact .of_next h (.ite (.of_winchEvent s fun c w => winchEncoder_homed c a b w) (.refl s))
  case cueTick => exact .of_next h (.ite (.of_homed rfl) (.refl s))
  case conversionEnd x => exact .of_next h (.of_count (conversionEnded_count s x))
  case budgetTimerExpiry =>
    exact .of_next h (.ite (.of_homed (by rw [startBudgetTimer_winch, computeBudget_winch])) (.refl s))
  case sampleTick => exact .of_next h (.ite (.inr (takeSamples_homeSwitched _ s)) (.refl s))
  case loadComplete => exact .of_next h (.ite (.of_homed (loadCompleted_homed _ _ _ s)) (.refl s))
  case eraseEnd => exact .of_next h (.of_homed (by rw [eraseEnded_winch]))
  case storeEnd v => exact .of_next h (.of_homed (by rw [programmingEnded_winch]))
  case leaveReset => exact .of_next h (.of_homed rfl)
  all_goals cases hf

/-- Every command but those two resets. -/
theorem exec_homedBy {c : Instr} {s t : State} (h : exec c s = .next t) (hp : c ≠ .powerOnReset)
    (hb : c ≠ .brownOutReset) : HomedBy s t := by
  cases hf : frameOf c with
  | some f => exact .of_next ((exec_frame hf s).symm.trans h) (receiveFrame_homedBy _ _ s)
  | none => exact exec_notFrame_homedBy h hp hb hf

theorem exec_reset_homed {c : Instr} {s t : State} (h : exec c s = .next t)
    (hc : c = .powerOnReset ∨ c = .brownOutReset) : t.winch.homed = false := by
  rcases hc with rfl | rfl <;> cases h <;> rfl

/-- Settles O29: WINCH_HOME by its two cases, and homed over every command by `HomedBy`. -/
theorem winchHomeAction : Obligations.WinchHomeAction := by
  refine ⟨fun s hs hr => ⟨fun hidle => ?_, fun hbusy => ?_⟩, fun c s t h => ?_⟩
  · exact (exec_winchHome hs hr).trans (congrArg _ (performWinchHome_idle hidle))
  · exact (exec_winchHome hs hr).trans (congrArg _ (performWinchHome_busy hbusy))
  · by_cases hreset : c = .powerOnReset ∨ c = .brownOutReset
    · exact ⟨fun _ _ => hreset, fun _ ht => absurd ht (ne_true_of_eq_false (exec_reset_homed h hreset))⟩
    · obtain ⟨hp, hb⟩ := not_or.mp hreset
      rcases exec_homedBy h hp hb with ⟨hidle, hwinch⟩ | hkept | ⟨hline, hhomed, hbefore, hafter⟩
      · have hhomed : t.winch.homed = true := congrArg Winch.homed hwinch
        exact ⟨fun _ ht => absurd hhomed (ne_true_of_eq_false ht),
          fun _ _ => ⟨congrArg Winch.line hwinch, .inl ⟨hidle, hwinch⟩⟩⟩
      · exact ⟨fun hs ht => absurd (hkept.trans hs) (ne_true_of_eq_false ht),
          fun hs ht => absurd (hkept.trans hs) (ne_false_of_eq_true ht)⟩
      · exact ⟨fun _ ht => absurd hhomed (ne_true_of_eq_false ht), fun _ _ => ⟨hline, .inr ⟨hbefore, hafter⟩⟩⟩

end Sys2Proof.Machine


/-! What one command can do: the changes it is made of. Each invariant of the part is then a fact about each kind of
change, and no proof of an invariant walks through the commands again. -/

namespace Sys2Proof.Machine

/-! ## The kinds of change -/

/-- The events WCH takes on its own account, with what the rest of the part guarantees at each. -/
inductive WinchEvent (s : State) : (WinchContext → Winch → WinchStep) → Prop where
  | enterSetup (hrun : s.link.run ≠ .init) : WinchEvent s winchEnterSetup
  | homed (hrun : s.link.run ≠ .init) (hidle : s.winch.state = .idle) :
      WinchEvent s (fun _ w => winchBegin { w with line := 0, homed := true })
  | clear (hrun : s.link.run ≠ .init) (hallowed : clearAllowed (winchContext s) s.winch = true) :
      WinchEvent s winchCleared
  | tick (hticking : s.winch.ticking = true) : WinchEvent s winchTick
  | stall (hrunning : s.winch.stallTimer.running = true) : WinchEvent s stallExpired
  | noMotion (hrunning : s.winch.noMotionTimer.running = true) : WinchEvent s noMotionExpired
  | clutch (hrunning : s.winch.clutchTimer.running = true) : WinchEvent s clutchExpired

/-- The changes that the commands are made of, but for the resets: each shared operation that keeps what the part
keeps, with what its caller has checked before it. `c` is the command that makes the change. -/
inductive Move (c : Instr) : State → State → Prop where
  | link (s : State) (l : Link) (hrun : l.run = s.link.run) : Move c s { s with link := l }
  | unreport (s : State) : Move c s { s with inputs := { s.inputs with reported := none } }
  | report (s : State) : Move c s (recordReported s)
  | clearFlags (s : State) (hc : c = .replyComplete) :
      Move c s { s with inputs := clearReported s.tables.input s.inputs }
  | flag (s : State) (f : Flag) : Move c s (setFlag f s)
  | store (s : State) (x : Store) (hloaded : x.loaded = s.store.loaded) : Move c s (putStore x s)
  | update (s : State) (p : List Byte) (hrun : s.link.run = .wait ∨ s.link.run = .run ∨ s.link.run = .setup) :
      Move c s (handToMapper p s)
  | enterRun (s : State) (hrun : s.link.run = .wait ∨ s.link.run = .failsafe) : Move c s (deliverRun .run s)
  | leaveRun (s : State) (hrun : s.link.run = .run) : Move c s (deliverRun .failsafe s)
  | failsafeValues (s : State) (hrun : s.link.run = .failsafe) : Move c s (applyFailsafe s)
  | enterSetup (s : State) (hrun : s.link.run = .wait ∨ s.link.run = .run)
      (hwinch : s.winch.state = .idle ∨ s.winch.state = .fault) : Move c s (deliverRun .setup s)
  | leaveSetup (s : State) (hrun : s.link.run = .setup) : Move c s (deliverRun .wait s)
  | winch (s : State) {f : WinchContext → Winch → WinchStep} (hf : WinchEvent s f) : Move c s (onWinchEvent f s)
  | encoder (s : State) (a b : Level) (hc : c = .encoderCount a b) (hticking : s.winch.ticking = true) :
      Move c s (onWinchEvent (fun x w => winchEncoder x a b w) s)
  | entry (s : State) (id : TableId) (i : Nat) (e : List Byte) (t : Tables) (hrun : s.link.run ≠ .init)
      (hclass : setupClass id = true → s.link.run = .setup) (hi : i < entryCount id)
      (ht : tablesWith s.tables id i e = some t) : Move c s (entryWritten id i t s)
  | restore (s : State) (hrun : s.link.run = .setup) : Move c s (defaultsRestored s)
  | clearProtect (s : State) (hrun : s.link.run ≠ .init) (hcut : s.protection.state = .cutoff)
      (hallowed : clearProtectAllowed s = true) : Move c s (protectCleared s)
  | conversion (s : State) (x : SenseInputs) (hpass : s.scanner.pass ≠ none) : Move c s (conversionEnded x s)
  | period (s : State) (hc : c = .servoPeriodStart) (hrunning : s.drive.period.running = true) :
      Move c s (servoPeriodStarted s)
  | braking (s : State) (hrunning : s.drive.brakingTimer.running = true) : Move c s (brakingExpired s)
  | cueTick (s : State) (hticking : s.lights.ticking = true) :
      Move c s (putLights (lightsTick s.tables (grantOf s 3) s.lights) s)
  | budget (s : State) (hc : c = .budgetTimerExpiry) (hrunning : s.budget.timer.running = true) :
      Move c s (startBudgetTimer (computeBudget s))
  | sample (s : State) (v : Level) (n : Fin 4) (hticking : s.inputs.ticking = true) : Move c s (takeSample v n s)
  | load (s : State) (v : Vector Level 4) (a b : Level)
      (hc : ∃ in0 in1 in2 in3 enca encb, c = .loadComplete in0 in1 in2 in3 enca encb) (hheld : s.heldInReset = false)
      (hloaded : s.store.loaded = false) : Move c s (loadCompleted v a b s)
  | release (s : State) : Move c s { s with heldInReset := false }

/-- Changes made one after another. -/
abbrev Moves (c : Instr) : State → State → Prop := Relation.ReflTransGen (Move c)

/-- What a reset leaves: every block at its reset values, and the mark of a frame to be discarded (R187). -/
def resetLeaving (k : ResetKind) (d : Bool) (s : State) : State :=
  { resetPart k s with link := { linkAfterReset with discarding := d } }

/-- A command makes changes, and may end in a reset. -/
inductive Ran (c : Instr) (s t : State) : Prop where
  | moved (h : Moves c s t) : Ran c s t
  | reset (k : ResetKind) (d : Bool) (u : State) (h : Moves c s u) (ht : t = resetLeaving k d u) : Ran c s t

variable {c : Instr}

theorem Moves.one {s t : State} (h : Move c s t) : Moves c s t := .single h

theorem Moves.ite {p : Prop} [Decidable p] {s t u : State} (h : p → Moves c s t) (k : ¬p → Moves c s u) :
    Moves c s (if p then t else u) := by
  split
  · next hp => exact h hp
  · next hp => exact k hp

/-- A predicate that every change keeps is kept by any number of them. -/
theorem Moves.keeps {P : State → Prop} (hP : ∀ s t, Move c s t → P s → P t) {s t : State} (h : Moves c s t)
    (hs : P s) : P t := by
  induction h with
  | refl => exact hs
  | tail _ hm ih => exact hP _ _ hm ih

/-! ## Replies and the line -/

theorem Moves.putReply (s : State) (r : Reply) : Moves c s (putReply r s) := .one (.link s _ rfl)

theorem Moves.answer (k : Byte) (r : Result) {s t : State} (h : Moves c s t) : Moves c s (answer k r t) :=
  h.trans (Moves.putReply _ _)

theorem Moves.putReceiver (s : State) (r : Receiver) : Moves c s (putReceiver r s) := .one (.link s _ rfl)

/-! ## CHANNELS (R8) -/

theorem advanceTelemetry_moves (s : State) : Moves c s (advanceTelemetry s) :=
  .one (by
    unfold advanceTelemetry
    dsimp only
    split <;> [skip; split] <;> exact .link s _ rfl)

theorem decideTelemetry_moves (p : List Byte) (s : State) : Moves c s (decideTelemetry p s) :=
  .ite (fun _ => .putReply _ _) fun _ => .refl

theorem enterFailsafe_moves {s : State} (h : s.link.run = .run) : Moves c s (enterFailsafe s) :=
  Relation.ReflTransGen.refl |>.tail (.link s (putRecovery 0 s).link rfl)
    |>.tail (.link _ (restartHold (putRecovery 0 s)).link rfl) |>.tail (.flag _ .failsafeEntered)
    |>.tail (.leaveRun _ h) |>.tail (.failsafeValues _ (by simp))

theorem neutralCheck_moves (p : List Byte) {s : State} (h : s.link.run = .wait) : Moves c s (neutralCheck p s) := by
  unfold neutralCheck
  refine .ite (fun _ => .refl) fun _ => .ite (fun _ => ?_) fun _ => .one (.flag _ _)
  exact Relation.ReflTransGen.refl |>.tail (.link s (restartHold s).link rfl) |>.tail (.enterRun _ (.inl h))

theorem countRecovery_moves {s : State} (h : s.link.run = .failsafe) : Moves c s (countRecovery s) := by
  unfold countRecovery
  refine .ite (fun _ => ?_) fun _ => .one (.link s _ rfl)
  exact Relation.ReflTransGen.refl |>.tail (.link s (putRecovery 0 s).link rfl) |>.tail (.enterRun _ (.inr h))

theorem channelsHandled_moves (p : List Byte) (s : State) : Moves c s (channelsHandled p s) := by
  unfold channelsHandled
  have hold : Moves c s (restartHold s) := .one (.link s _ rfl)
  split
  · exact .refl
  · next h => exact (Moves.one (.update s p (.inl h))).trans (neutralCheck_moves p (by simpa using h))
  · next h =>
    exact .ite (fun _ => hold.trans (enterFailsafe_moves h)) fun _ => hold.tail (.update _ p (.inr (.inl h)))
  · next h => exact .ite (fun _ => hold.tail (.link _ _ rfl)) fun _ => hold.trans (countRecovery_moves h)
  · next h => exact .one (.update s p (.inr (.inr h)))

theorem channelsFrame_moves (p : List Byte) (s : State) : Moves c s (channelsFrame p s) := by
  unfold channelsFrame
  exact .ite (fun _ => .refl) fun _ => .ite (fun _ => .refl) fun _ =>
    ((channelsHandled_moves p s).trans (advanceTelemetry_moves _)).trans (decideTelemetry_moves p _)

/-! ## SETUP_WRITE, SETUP_READ, QUERY -/

/-- A write that every check passes names an entry of the table, in SETUP where the table asks for it, and carries
bytes that its owner takes. -/
theorem judgeWrite_accept {s : State} {p : List Byte} {id : TableId} {i : Nat} {t : Tables}
    (h : judgeWrite s p = .accept id i t) :
    s.link.run ≠ .init ∧ (setupClass id = true → s.link.run = .setup) ∧ i < entryCount id
      ∧ tablesWith s.tables id i (p.drop 2) = some t := by
  unfold judgeWrite at h
  split at h; · cases h
  next hrun =>
  split at h; · cases h
  split at h; · cases h
  split at h; · cases h
  split at h; · cases h
  next hi =>
  split at h; · cases h
  unfold judgeEntry at h
  split at h; · cases h
  next hclass =>
  split at h; · cases h
  next ht =>
  cases h
  exact ⟨hrun, fun hc => by_contra fun hr => hclass ⟨hc, hr⟩, Nat.lt_of_not_le hi, ht⟩

theorem setupWriteFrame_moves (p : List Byte) (s : State) : Moves c s (setupWriteFrame p s) := by
  unfold setupWriteFrame
  split
  · exact .answer _ _ .refl
  · next h =>
    obtain ⟨hrun, hclass, hi, ht⟩ := judgeWrite_accept h
    exact .answer _ _ (.one (.entry s _ _ _ _ hrun hclass hi ht))

theorem setupReadFrame_moves (p : List Byte) (s : State) : Moves c s (setupReadFrame p s) := by
  unfold setupReadFrame
  refine .ite (fun _ => .answer _ _ .refl) fun _ => .ite (fun _ => .answer _ _ .refl) fun _ => ?_
  split
  · exact .answer _ _ .refl
  · exact .ite (fun _ => .answer _ _ .refl) fun _ => .putReply _ _

theorem queryFrame_moves (p : List Byte) (s : State) : Moves c s (queryFrame p s) := by
  unfold queryFrame
  refine .ite (fun _ => .answer _ _ .refl) fun _ => .ite (fun _ => .answer _ _ .refl) fun _ => ?_
  split
  · exact .answer _ _ .refl
  · next q _ =>
    cases q
    case status => exact (Moves.one (.report s)).trans (Moves.putReply _ _)
    all_goals exact .putReply _ _

/-! ## Actions -/

theorem evaluateEnterSetup_moves {s : State} (h : s.link.run = .wait ∨ s.link.run = .run) :
    Moves c s (evaluateEnterSetup s) := by
  unfold evaluateEnterSetup
  have hinit : s.link.run ≠ .init := by rcases h with h | h <;> simp [h]
  refine .ite (fun ha => ?_) fun _ => .answer _ _ (.one (.winch s (.enterSetup hinit)))
  have hwinch : s.winch.state = .idle ∨ s.winch.state = .fault := by
    simpa [setupAllowed] using ((Bool.and_eq_true _ _).mp ha).2
  exact .answer _ _ (Relation.ReflTransGen.refl |>.tail (.link s (stopHold s).link rfl)
    |>.tail (.enterSetup _ h hwinch) |>.tail (.winch _ (.enterSetup (by simp))))

theorem performAction_moves (a : Action) {s : State} (h : s.link.run ≠ .init) : Moves c s (performAction a s) := by
  cases a with
  | enterSetup =>
    simp only [performAction, performEnterSetup]
    split
    · exact .answer _ _ .refl
    · next hr => exact evaluateEnterSetup_moves (.inl hr)
    · next hr => exact evaluateEnterSetup_moves (.inr hr)
    · exact .answer _ _ .refl
    · exact .answer _ _ .refl
  | leaveSetup =>
    exact .ite (fun _ => .answer _ _ .refl) fun hr => .ite (fun _ => .answer _ _ .refl) fun _ =>
      .ite (fun _ => .answer _ _ .refl) fun _ => .answer _ _ (.one (.leaveSetup s (not_not.mp hr)))
  | store =>
    exact .ite (fun _ => .answer _ _ .refl) fun _ => .ite (fun _ => .answer _ _ .refl) fun _ =>
      .answer _ _ (.one (.store s _ rfl))
  | restoreDefaults =>
    exact .ite (fun _ => .answer _ _ .refl) fun hr => .ite (fun _ => .answer _ _ .refl) fun _ =>
      .answer _ _ (.one (.restore s (not_not.mp hr)))
  | softReset =>
    exact .ite (fun _ => .answer _ _ .refl) fun _ =>
      (Moves.one (.store s { s.store with pendingSoftReset := true } rfl)).trans (Moves.putReply _ _)
  | clearProtect =>
    exact .ite (fun _ => .answer _ _ .refl) fun hc => .ite
      (fun ha => .answer _ _ (.one (.clearProtect s h (not_not.mp hc) ha))) fun _ => .answer _ _ .refl
  | winchHome =>
    exact .ite (fun hi => .answer _ _ (.one (.winch s (.homed h hi)))) fun _ => .answer _ _ .refl
  | winchClear =>
    exact .ite (fun ha => .answer _ _ (.one (.winch s (.clear h ha)))) fun _ => .answer _ _ .refl

theorem actionFrame_moves (p : List Byte) (s : State) : Moves c s (actionFrame p s) := by
  unfold actionFrame
  refine .ite (fun _ => .answer _ _ .refl) fun hr => .ite (fun _ => .answer _ _ .refl) fun _ => ?_
  split
  · exact .answer _ _ .refl
  · exact performAction_moves _ hr

theorem dispatch_moves (k : Byte) (p : List Byte) (s : State) : Moves c s (dispatch k p s) := by
  unfold dispatch
  exact .ite (fun _ => channelsFrame_moves p s) fun _ => .ite (fun _ => setupWriteFrame_moves p s) fun _ =>
    .ite (fun _ => setupReadFrame_moves p s) fun _ => .ite (fun _ => queryFrame_moves p s) fun _ =>
    .ite (fun _ => actionFrame_moves p s) fun _ => .answer _ _ .refl

/-! ## Start bits and the end of a reply, with their notices (R10, R11) -/

theorem flagsAfterReset_soft_idem (f : Vector Bool 15) :
    flagsAfterReset .soft (flagsAfterReset .soft f) = flagsAfterReset .soft f := by
  ext i hi
  simp only [flagsAfterReset, tab_getElem, Fin.getElem_fin]
  repeat' split
  all_goals simp_all

/-- A second soft reset finds nothing more to reset. -/
theorem resetPart_resetLeaving (d : Bool) (s : State) : resetPart .soft (resetLeaving .soft d s) = resetPart .soft s := by
  simp [resetLeaving, resetPart, winchReset, protectionReset, storeAfterReset, flagsAfterReset_soft_idem]

/-- What the notices of a reply can come to: changes, or a soft reset, which leaves the frame in progress to be
discarded exactly where a start bit performs it. -/
def Noticed (c : Instr) (d : Bool) (s t : State) : Prop :=
  Moves c s t ∨ ∃ u, Moves c s u ∧ t = resetLeaving .soft d u

theorem Noticed.ran {d : Bool} {s t : State} (h : Noticed c d s t) : Ran c s t := by
  rcases h with h | ⟨u, h, ht⟩
  · exact .moved h
  · exact .reset .soft d u h ht

theorem Noticed.abandoned {s t : State} (h : Noticed c true s t) (n : Notice) :
    Noticed c true s (noticeAbandoned n t) := by
  rcases h with h | ⟨u, h, rfl⟩
  · cases n with
    | statusReport => exact .inl (h.tail (.unreport t))
    | softReset => exact .inr ⟨t, h, rfl⟩
  · cases n with
    | statusReport => exact .inr ⟨u, h, rfl⟩
    | softReset => exact .inr ⟨u, h, by rw [noticeAbandoned, resetPart_resetLeaving]; rfl⟩

theorem Noticed.completed {s t : State} (h : Noticed .replyComplete false s t) (n : Notice) :
    Noticed .replyComplete false s (noticeCompleted n t) := by
  rcases h with h | ⟨u, h, rfl⟩
  · cases n with
    | statusReport => exact .inl (h.tail (.clearFlags t rfl))
    | softReset => exact .inr ⟨t, h, rfl⟩
  · cases n with
    | statusReport => exact .inr ⟨u, h, rfl⟩
    | softReset => exact .inr ⟨u, h, by rw [noticeCompleted, resetPart_resetLeaving]; rfl⟩

theorem abandonReply_noticed (s : State) : Noticed c true s (abandonReply s) := by
  unfold abandonReply
  split
  · next r _ =>
    have hstart : Noticed c true s (putReply .empty s) := .inl (.putReply _ _)
    revert hstart
    generalize putReply .empty s = x
    induction r.notices generalizing x with
    | nil => exact id
    | cons n ns ih => exact fun h => ih _ (h.abandoned n)
  · exact .inl .refl
  · exact .inl .refl

theorem completeReply_noticed (s : State) : Noticed .replyComplete false s (completeReply s) := by
  unfold completeReply
  split
  · next r _ =>
    have hstart : Noticed .replyComplete false s (telemetrySent r (putReceiver receiverHunting (putReply .empty s))) := by
      have hsent : Moves .replyComplete s (putReceiver receiverHunting (putReply .empty s)) :=
        (Moves.putReply s _).trans (Moves.putReceiver _ _)
      exact .inl (hsent.trans (Moves.ite (fun _ => .one (.link _ _ rfl)) fun _ => .refl))
    revert hstart
    generalize telemetrySent r _ = x
    induction r.notices generalizing x with
    | nil => exact id
    | cons n ns ih => exact fun h => ih _ (h.completed n)
  · exact .inl .refl
  · exact .inl .refl

/-! ## The line (R2, R3, R10) -/

/-- A byte or frame on the line: the abandonment of a reply, and, with no soft reset in it, what the receiver does. -/
theorem onLine_ran {f : State → State} (hf : ∀ x, Moves c x (f x)) (s : State) : Ran c s (onLine f s) := by
  unfold onLine
  split
  swap
  · exact .moved .refl
  unfold afterStartBit
  rcases abandonReply_noticed (c := c) s with h | ⟨u, h, ht⟩
  · split
    · exact .moved (h.tail (.link _ _ rfl))
    · exact .moved (h.trans (hf _))
  · rw [ht]
    exact .reset .soft false u h rfl

theorem takeFrame_moves {f : State → State} (hf : ∀ x, Moves c x (f x)) (p : List Byte) (s : State) :
    Moves c s (takeFrame f p s) :=
  .ite (fun _ => .putReceiver _ _) fun _ => (Moves.putReceiver s _).trans (hf _)

theorem takeByte_moves (b : Byte) (s : State) : Moves c s (takeByte b s) :=
  .ite (fun _ => (Moves.putReceiver s _).trans (dispatch_moves _ _ _)) fun _ => .putReceiver _ _

theorem receiveLen_ran (b : Byte) (s : State) : Ran c s (receiveLen b s) :=
  onLine_ran (fun x => .ite (fun _ => .putReceiver _ _) fun _ => takeByte_moves b x) s

theorem receiveChecked_ran (k : Byte) (p : List Byte) (x : Check) (s : State) : Ran c s (receiveChecked k p x s) :=
  onLine_ran (takeFrame_moves (fun y => .ite (fun _ => dispatch_moves k p y) fun _ => .refl) p) s

/-! ## Every command -/

theorem startReply_moves (s : State) : Moves c s (startReply s) := by
  unfold startReply
  split
  · exact .putReply _ _
  · exact .refl
  · exact .refl

theorem holdExpired_moves (s : State) : Moves c s (holdExpired s) := by
  unfold holdExpired
  split
  · exact .refl
  · exact .refl
  · next h => exact enterFailsafe_moves h
  · exact .one (.link s (restartHold (putRecovery 0 s)).link rfl)
  · exact .refl

theorem eraseEnded_moves (s : State) : Moves c s (eraseEnded s) := by
  unfold eraseEnded
  split
  · exact .refl
  · exact .one (.store s _ rfl)
  · exact .refl

theorem programmingEnded_moves (v : Verify) (s : State) : Moves c s (programmingEnded v s) := by
  unfold programmingEnded
  split
  · exact .refl
  · exact .refl
  · next content _ =>
    exact (Moves.one (.store s { s.store with state := .idle, image := imageAfterStore content v } rfl)).tail
      (.flag _ _)

@[simp] theorem setFlags_ticking (fs : List Flag) (s : State) : (setFlags fs s).inputs.ticking = s.inputs.ticking := by
  suffices ∀ x : Inputs, (fs.foldl (fun x f => raiseFlag f x) x).ticking = x.ticking from this s.inputs
  induction fs with
  | nil => exact fun _ => rfl
  | cons f fs ih => exact fun x => ih (raiseFlag f x)

@[simp] theorem onWinchEvent_ticking (f : WinchContext → Winch → WinchStep) (s : State) :
    (onWinchEvent f s).inputs.ticking = s.inputs.ticking := by
  simp [onWinchEvent, putWinch]

@[simp] theorem edgeAtEvent_ticking (n : Fin 4) (active : Bool) (x : Inputs) :
    (edgeAtEvent n active x).ticking = x.ticking := by
  unfold edgeAtEvent
  split <;> [split; skip] <;> simp

@[simp] theorem lineEvent_ticking (n : Fin 4) (active : Bool) (s : State) :
    (lineEvent n active s).inputs.ticking = s.inputs.ticking := by
  unfold lineEvent lightEvent putLights
  simp

@[simp] theorem takeSample_ticking (v : Level) (n : Fin 4) (s : State) :
    (takeSample v n s).inputs.ticking = s.inputs.ticking := by
  unfold takeSample
  dsimp only
  split <;> simp [putLine]

theorem takeSamples_moves (v : Vector Level 4) {s : State} (h : s.inputs.ticking = true) :
    Moves c s (takeSamples v s) := by
  suffices ∀ (ns : List (Fin 4)) (x : State), x.inputs.ticking = true →
      Moves c x (ns.foldl (fun x n => takeSample v[n] n x) x) from this _ s h
  intro ns
  induction ns with
  | nil => exact fun _ _ => .refl
  | cons n ns ih => exact fun x hx => (Moves.one (.sample x v[n] n hx)).trans (ih _ (by simp [hx]))

theorem conversionEnded_moves (x : SenseInputs) (s : State) : Moves c s (conversionEnded x s) := by
  by_cases h : s.scanner.pass = none
  · have hstill : conversionEnded x s = s := by simp [conversionEnded, h]
    rw [hstill]
  · exact .one (.conversion s x h)

/-- Every command but a good frame. -/
theorem exec_notFrame_ran {s t : State} (h : exec c s = .next t) (hf : frameOf c = none) : Ran c s t := by
  have of {u : State} (k : Ran c s u) (e : (.next u : Host.Outcome State Fault Refusal) = .next t) : Ran c s t := by
    cases e; exact k
  cases c
  case checkMismatchFrame k p x => exact of (receiveChecked_ran k p x s) h
  case gapTimeout => exact of (.moved (.ite (fun _ => .putReceiver _ _) fun _ => .refl)) h
  case framingError => exact of (onLine_ran (fun _ => .putReceiver _ _) s) h
  case lenDiscard b => exact of (receiveLen_ran b s) h
  case byteReceived b => exact of (onLine_ran (takeByte_moves b) s) h
  case replyStart => exact of (.moved (startReply_moves s)) h
  case replyAbandon => exact of (abandonReply_noticed s).ran h
  case replyComplete => exact of (completeReply_noticed s).ran h
  case holdTimerExpiry => exact of (.moved (.ite (fun _ => holdExpired_moves s) fun _ => .refl)) h
  case servoPeriodStart => exact of (.moved (.ite (fun hr => .one (.period s rfl hr)) fun _ => .refl)) h
  case brakingTimerExpiry => exact of (.moved (.ite (fun hr => .one (.braking s hr)) fun _ => .refl)) h
  case rampTick => exact of (.moved (.ite (fun hr => .one (.winch s (.tick hr))) fun _ => .refl)) h
  case stallTimerExpiry => exact of (.moved (.ite (fun hr => .one (.winch s (.stall hr))) fun _ => .refl)) h
  case noMotionTimerExpiry => exact of (.moved (.ite (fun hr => .one (.winch s (.noMotion hr))) fun _ => .refl)) h
  case clutchTimerExpiry => exact of (.moved (.ite (fun hr => .one (.winch s (.clutch hr))) fun _ => .refl)) h
  case encoderCount a b => exact of (.moved (.ite (fun hr => .one (.encoder s a b rfl hr)) fun _ => .refl)) h
  case cueTick => exact of (.moved (.ite (fun hr => .one (.cueTick s hr)) fun _ => .refl)) h
  case conversionEnd x => exact of (.moved (conversionEnded_moves x s)) h
  case budgetTimerExpiry => exact of (.moved (.ite (fun hr => .one (.budget s rfl hr)) fun _ => .refl)) h
  case sampleTick => exact of (.moved (.ite (fun hr => takeSamples_moves _ hr) fun _ => .refl)) h
  case loadComplete =>
    refine of (.moved (.ite (fun hr => ?_) fun _ => .refl)) h
    simp only [Bool.and_eq_true, Bool.not_eq_true'] at hr
    exact .one (.load s _ _ _ ⟨_, _, _, _, _, _, rfl⟩ hr.1 hr.2)
  case eraseEnd => exact of (.moved (eraseEnded_moves s)) h
  case storeEnd v => exact of (.moved (programmingEnded_moves v s)) h
  case powerOnReset => exact of (.reset .powerOn false s .refl rfl) h
  case brownOutReset => exact of (.reset .brownOut false s .refl rfl) h
  case leaveReset => exact of (.moved (.one (.release s))) h
  all_goals cases hf

theorem exec_ran {s t : State} (h : exec c s = .next t) : Ran c s t := by
  cases hf : frameOf c with
  | none => exact exec_notFrame_ran h hf
  | some f =>
    have e := (exec_frame hf s).symm.trans h
    cases e
    exact onLine_ran (takeFrame_moves (dispatch_moves f.1 f.2) f.2) s

/-- What every change and every reset keeps, and the queue does not bear on, every step keeps. -/
theorem step_keeps {P : State → Prop} (hqueue : ∀ s q, P s → P (s.withPending q))
    (hP : ∀ c s t, Move c s t → P s → P t) (hreset : ∀ k d s, P s → P (resetLeaving k d s)) {s t : State} (hs : P s) (h : step s = .next t) : P t := by
  unfold step at h
  split at h
  · cases h; exact hs
  · next c rest _ =>
    have hq : P (s.withPending rest) := hqueue s rest hs
    rcases exec_ran h with hm | ⟨k, d, u, hm, rfl⟩
    · exact hm.keeps (hP c) hq
    · exact hreset k d u (hm.keeps (hP c) hq)

end Sys2Proof.Machine


/-! The tables in force stay valid: every write replaces one entry by one that its owner's checks pass (R23, R180). -/

namespace Sys2Proof.Machine

theorem toList_all {α : Type} {n : Nat} {p : α → Bool} {v : Vector α n} (h : ∀ i : Fin n, p v[i] = true) :
    v.toList.all p = true := by
  refine List.all_eq_true.mpr fun x hx => ?_
  obtain ⟨i, hi, rfl⟩ := List.getElem_of_mem hx
  exact h ⟨i, by simpa using hi⟩

theorem tablesValid_of_validTables {t : Tables} (h : ValidTables t) : tablesValid t = true := by
  simp only [tablesValid, Bool.and_eq_true]
  exact ⟨⟨⟨⟨⟨⟨⟨⟨⟨⟨⟨⟨⟨⟨⟨List.all_eq_true.mpr fun i _ => h.func i, toList_all h.curve⟩, toList_all h.band⟩, h.steer⟩,
    toList_all h.geom⟩, toList_all h.corner⟩, h.drive⟩, h.winch⟩, toList_all h.lamp⟩, toList_all h.scene⟩,
    toList_all h.cue⟩, toList_all h.scan⟩, h.protect⟩, toList_all h.budget⟩, toList_all h.input⟩, h.link⟩

theorem defaultTables_valid : tablesValid defaultTables = true := by decide +kernel

/-- The tables of an image that loads are valid (R180). -/
theorem loadImage_valid {b : List Byte} {t : Tables} (h : loadImage b = some t) : tablesValid t = true := by
  unfold loadImage at h
  split at h
  · exact (Option.filter_eq_some_iff.mp h).2
  · cases h

/-- What an owner takes: bytes that spell an entry in range. -/
theorem taken_entry {α : Type} {d : Option α} {p : α → Bool} {put : α → Tables} {t : Tables}
    (h : (d.filter p).map put = some t) : ∃ x, d = some x ∧ p x = true ∧ put x = t := by
  obtain ⟨x, hx, hput⟩ := Option.map_eq_some_iff.mp h
  obtain ⟨hd, hp⟩ := Option.filter_eq_some_iff.mp hx
  exact ⟨x, hd, hp, hput⟩

/-- One element of a table replaced by one that satisfies what the others do. -/
theorem setIfInBounds_all {α : Type} {n : Nat} {p : Fin n → α → Prop} {v : Vector α n} {i : Nat} {x : α}
    (h : ∀ k, p k v[k]) (hx : ∀ hi : i < n, p ⟨i, hi⟩ x) (k : Fin n) : p k (v.setIfInBounds i x)[k] := by
  rw [Fin.getElem_fin, Vector.getElem_setIfInBounds]
  split
  · next e => subst e; exact hx k.isLt
  · exact h k

theorem scanInRange_iff {n : Nat} {e : ScanEntry} :
    scanInRange n e = true ↔ (e.count = 1 ∨ e.count = 2 ∨ e.count = 4 ∨ e.count = 8) ∧ cellNumber e.source ≤ n := by
  simp [scanInRange, or_assoc]

/-- The check that SCAN and PROTECT share, as PROTECT makes it (R143). -/
theorem protectInRange_scan {v w : Vector ScanEntry 8} {r : ProtectRecord} (h : protectInRange v r = true)
    (hw : ∀ k : Fin 8, cellNumber w[k].source ≤ r.cellCount) : protectInRange w r = true := by
  simp only [protectInRange, Bool.and_eq_true] at h ⊢
  exact ⟨h.1, toList_all fun k => decide_eq_true (hw k)⟩

theorem protectInRange_cells {v : Vector ScanEntry 8} {r : ProtectRecord} (h : protectInRange v r = true) (k : Fin 8) :
    cellNumber v[k].source ≤ r.cellCount := by
  simp only [protectInRange, Bool.and_eq_true] at h
  exact of_decide_eq_true (all_toList h.2 k)

/-- Every accepted entry leaves valid tables valid (R23). -/
theorem tablesWith_valid {t u : Tables} (h : ValidTables t) {id : TableId} {i : Nat} {e : List Byte}
    (hu : tablesWith t id i e = some u) : ValidTables u := by
  cases id <;> obtain ⟨x, _, hx, rfl⟩ := taken_entry hu
  case func => exact { h with func := setIfInBounds_all (p := fun k y => funcInRange k.val y = true) h.func fun _ => hx }
  case curve => exact { h with curve := setIfInBounds_all (p := fun _ y => curveInRange y = true) h.curve fun _ => hx }
  case band => exact { h with band := setIfInBounds_all (p := fun _ y => bandInRange y = true) h.band fun _ => hx }
  case steer => exact { h with steer := hx }
  case geom => exact { h with geom := setIfInBounds_all (p := fun _ y => geomInRange y = true) h.geom fun _ => hx }
  case corner =>
    exact { h with corner := setIfInBounds_all (p := fun _ y => cornerInRange y = true) h.corner fun _ => hx }
  case drive => exact { h with drive := hx }
  case winch => exact { h with winch := hx }
  case lamp => exact { h with lamp := setIfInBounds_all (p := fun _ y => lampInRange y = true) h.lamp fun _ => hx }
  case scene => exact { h with scene := setIfInBounds_all (p := fun _ y => sceneInRange y = true) h.scene fun _ => hx }
  case cue => exact { h with cue := setIfInBounds_all (p := fun _ y => cueInRange y = true) h.cue fun _ => hx }
  case scan =>
    have hscan := setIfInBounds_all (p := fun _ y => scanInRange t.protect.cellCount y = true) (i := i) h.scan fun _ => hx
    exact { h with
            scan := hscan
            protect := protectInRange_scan h.protect fun k => (scanInRange_iff.mp (hscan k)).2 }
  case protect =>
    have hcell (k : Fin 8) : scanInRange x.cellCount t.scan[k] = true :=
      scanInRange_iff.mpr ⟨(scanInRange_iff.mp (h.scan k)).1, protectInRange_cells hx k⟩
    exact { h with scan := hcell, protect := hx }
  case budget =>
    exact { h with budget := setIfInBounds_all (p := fun _ y => budgetInRange y = true) h.budget fun _ => hx }
  case input => exact { h with input := setIfInBounds_all (p := fun _ y => inputInRange y = true) h.input fun _ => hx }
  case link => exact { h with link := hx }

/-! ## The tables at each change -/

@[simp] theorem entryWritten_tables (id : TableId) (i : Nat) (t : Tables) (s : State) :
    (entryWritten id i t s).tables = t := by
  simp [entryWritten]

@[simp] theorem defaultsRestored_tables (s : State) : (defaultsRestored s).tables = defaultTables := by
  simp [defaultsRestored, List.finRange_succ]

@[simp] theorem loadCompleted_tables (v : Vector Level 4) (a b : Level) (s : State) :
    (loadCompleted v a b s).tables = (loadTables s).tables := by
  simp [loadCompleted]

/-- The tables that load complete puts in force: those of a valid image, or the defaults. -/
theorem loadTables_tables (s : State) : (loadTables s).tables = (loadImage s.store.image).getD defaultTables := by
  unfold loadTables
  split
  · next h => rw [h]; rfl
  · next h => rw [h]; rfl

theorem loadTables_valid (s : State) : tablesValid (loadTables s).tables = true := by
  rw [loadTables_tables]
  cases h : loadImage s.store.image with
  | none => exact defaultTables_valid
  | some t => exact loadImage_valid h

/-- The tables change at an accepted write, at RESTORE_DEFAULTS and at load complete, and nowhere else. -/
theorem Move.tables {c : Instr} {s t : State} (h : Move c s t) :
    t.tables = s.tables
      ∨ (s.link.run ≠ .init ∧ ∃ id i e, tablesWith s.tables id i e = some t.tables)
      ∨ s.link.run = .setup ∧ t.tables = defaultTables
      ∨ s.store.loaded = false ∧ t.tables = (loadTables s).tables := by
  cases h
  case entry id i e u hrun hclass hi hu => exact .inr (.inl ⟨hrun, id, i, e, by simpa using hu⟩)
  case restore hrun => exact .inr (.inr (.inl ⟨hrun, by simp⟩))
  case load hheld hloaded => exact .inr (.inr (.inr ⟨hloaded, by simp⟩))
  all_goals exact .inl (by simp)

theorem Move.tables_valid {c : Instr} {s t : State} (h : Move c s t) (hs : tablesValid s.tables = true) :
    tablesValid t.tables = true := by
  rcases h.tables with he | ⟨-, id, i, e, he⟩ | ⟨-, he⟩ | ⟨-, he⟩
  · exact he ▸ hs
  · exact tablesValid_of_validTables (tablesWith_valid (validTables_of_tablesValid hs) he)
  · exact he ▸ defaultTables_valid
  · exact he ▸ loadTables_valid s

end Sys2Proof.Machine


/-! The function record, its copies and the measured values stay in their ranges (R27, R139, R141, R142). -/

namespace Sys2Proof.Machine

/-! ## Ranges of a slot's value (R31 to R33) -/

theorem scaleRaw_natAbs_le (e : FuncEntry) (x : Nat) : (scaleRaw e x).natAbs ≤ 1000 := by
  unfold scaleRaw
  generalize (((x : Int) - e.centre) * 1000).tdiv e.span = q
  unfold clampTo
  dsimp only
  split <;> omega

theorem applyDeadband_natAbs_le {d : Nat} {v : Int} (hd : d ≤ 200) (hv : v.natAbs ≤ 1000) :
    (applyDeadband d v).natAbs ≤ 1000 := by
  rcases Nat.lt_or_ge d v.natAbs with h | h
  · rw [applyDeadband_natAbs hd h]
    refine Nat.div_le_of_le_mul ?_
    have hle : v.natAbs - d ≤ 1000 - d := by omega
    nlinarith
  · simp [applyDeadband_inside h]

theorem applyCurve_natAbs_le (t : Vector Int 36) (k : Fin 4) (v : Int) : (applyCurve t k v).natAbs ≤ 1000 := by
  have hclamp (x : Int) : (clampTo (-1000) 1000 x).natAbs ≤ 1000 := by
    unfold clampTo
    omega
  exact hclamp _

theorem funcInRange_iff {i : Nat} {e : FuncEntry} :
    funcInRange i e = true ↔
      e.centre ≤ 4095 ∧ (200 ≤ e.span ∧ e.span ≤ 2047) ∧ e.deadband ≤ 200
        ∧ (-1000 ≤ e.failsafeValue ∧ e.failsafeValue ≤ 1000)
        ∧ (i ≠ 1 ∨ e.failsafe = .preset ∧ e.failsafeValue = 0) := by
  simp [funcInRange, between, betweenI, and_assoc]

/-- A slot's value in a valid table (R34). -/
theorem slotValue_bounds (t : Tables) (raw : Vector Nat 10) {i : Nat} {e : FuncEntry} (he : funcInRange i e = true) :
    -1000 ≤ slotValue t raw e ∧ slotValue t raw e ≤ 1000 := by
  suffices (slotValue t raw e).natAbs ≤ 1000 by omega
  obtain ⟨-, -, hd, -, -⟩ := funcInRange_iff.mp he
  cases hs : e.source with
  | none => simp [slotValue_unsourced hs]
  | some c =>
    cases hc : e.curve with
    | none => exact slotValue_straight (t := t) (raw := raw) hs hc ▸ applyDeadband_natAbs_le hd (scaleRaw_natAbs_le _ _)
    | some k => exact slotValue_curved (t := t) (raw := raw) hs hc ▸ applyCurve_natAbs_le _ _ _

theorem normalize_inRange {t : Tables} (h : ValidTables t) (raw : Vector Nat 10) (r : FunctionRecord) :
    RecordInRange (normalize t raw r) where
  steer := slotValue_bounds t raw (h.func 0)
  throttle := slotValue_bounds t raw (h.func 1)
  winch := slotValue_bounds t raw (h.func 2)
  aux2 := slotValue_bounds t raw (h.func 6)
  rate := slotValue_bounds t raw (h.func 7)
  bandOnly := ⟨rfl, rfl, rfl⟩

theorem failsafeOf_bounds {i : Nat} {e : FuncEntry} (he : funcInRange i e = true) {v : Int}
    (hv : -1000 ≤ v ∧ v ≤ 1000) : -1000 ≤ failsafeOf e v ∧ failsafeOf e v ≤ 1000 := by
  obtain ⟨-, -, -, hpreset, -⟩ := funcInRange_iff.mp he
  unfold failsafeOf
  split
  · exact hv
  · exact hpreset

theorem failsafeRecord_inRange {t : Tables} (h : ValidTables t) {r : FunctionRecord} (hr : RecordInRange r) :
    RecordInRange (failsafeRecord t.func r) where
  steer := failsafeOf_bounds (h.func 0) hr.steer
  throttle := failsafeOf_bounds (h.func 1) hr.throttle
  winch := failsafeOf_bounds (h.func 2) hr.winch
  aux2 := failsafeOf_bounds (h.func 6) hr.aux2
  rate := failsafeOf_bounds (h.func 7) hr.rate
  bandOnly := ⟨rfl, rfl, rfl⟩

theorem recordAfterReset_inRange : RecordInRange recordAfterReset := by
  constructor <;> decide

/-! ## WCH's copy of the record: no event of WCH but a function update replaces it -/

@[simp] theorem winchBegin_winch (w : Winch) : (winchBegin w).winch = w := rfl
@[simp] theorem onWinch_winch (f : Winch → Winch) (x : WinchStep) : (onWinch f x).winch = f x.winch := rfl
@[simp] theorem enterWinch_record (c : WinchContext) (st : WinchState) (d : Direction) (x : WinchStep) :
    (enterWinch c st d x).winch.record = x.winch.record := rfl
@[simp] theorem refile_record (c : WinchContext) (x : WinchStep) : (refile c x).winch.record = x.winch.record := rfl
@[simp] theorem retarget_record (c : WinchContext) (x : WinchStep) : (retarget c x).winch.record = x.winch.record := rfl
@[simp] theorem toIdle_record (c : WinchContext) (x : WinchStep) : (toIdle c x).winch.record = x.winch.record :=
  (toIdle_quiet c x).record
@[simp] theorem toClutchIn_record (c : WinchContext) (x : WinchStep) : (toClutchIn c x).winch.record = x.winch.record :=
  (toClutchIn_quiet c x).record
@[simp] theorem toRampDown_record (c : WinchContext) (x : WinchStep) : (toRampDown c x).winch.record = x.winch.record :=
  rfl
@[simp] theorem actOnRequest_record (c : WinchContext) (x : WinchStep) :
    (actOnRequest c x).winch.record = x.winch.record := (actOnRequest_quiet c x).record

section
variable (c : WinchContext) (w : Winch)

/-- The winch after a valid count: the line count, and the no-motion timer afresh (R97, R108). -/
def countedWinch (d : Int) (w : Winch) : Winch :=
  { w with
    line := w.line + d
    noMotionTimer :=
      if w.noMotionTimer.running then startTimer c.record.noMotionTime w.noMotionTimer else w.noMotionTimer }

/-- The line end of a pay-out step, where there is one (R98). -/
def lineEndStep (d : Int) (w : Winch) : WinchStep :=
  if 0 < d && lineEndReached c w then
    let y : WinchStep := { winch := w, msgs := [{ sets := [], fired := some .lineEnd }], flags := [.lineEnd] }
    if w.state = .payOut then toRampDown c y else y
  else winchBegin w

/-- A valid count is counted, then judged for the line end, then for the missed home (R98, R110). -/
theorem winchCounted_eq (d : Int) :
    winchCounted c d w =
      if homeMissed c (countedWinch c d w) then winchFaulted c .homeMiss (lineEndStep c d (countedWinch c d w))
      else lineEndStep c d (countedWinch c d w) := rfl

@[simp] theorem lineEndStep_record (d : Int) : (lineEndStep c d w).winch.record = w.record := by
  unfold lineEndStep
  split <;> [split; skip] <;> simp

@[simp] theorem winchFaulted_record (cause : FaultCause) (x : WinchStep) :
    (winchFaulted c cause x).winch.record = x.winch.record := by
  unfold winchFaulted
  split <;> rfl

@[simp] theorem winchHalt_record (returns : Bool) : (winchHalt c returns w).winch.record = w.record :=
  (winchHalt_quiet c returns w).record

@[simp] theorem winchRunChange_record : (winchRunChange c w).winch.record = w.record := by
  unfold winchRunChange
  split <;> simp

@[simp] theorem winchProtChange_record : (winchProtChange c w).winch.record = w.record := by
  unfold winchProtChange
  split <;> simp

@[simp] theorem winchEnterSetup_record : (winchEnterSetup c w).winch.record = w.record := by
  unfold winchEnterSetup
  split <;> simp

@[simp] theorem winchWritten_record : (winchWritten c w).winch.record = w.record := by
  simp [winchWritten, evaluateRequest]

@[simp] theorem winchTick_record : (winchTick c w).winch.record = w.record := by
  unfold winchTick
  dsimp only
  split <;> simp [rampTimers, rampMove]

@[simp] theorem winchCounted_record (d : Int) : (winchCounted c d w).winch.record = w.record := by
  rw [winchCounted_eq]
  split <;> simp [countedWinch]

@[simp] theorem winchEncoder_record (a b : Level) : (winchEncoder c a b w).winch.record = w.record := by
  simp only [winchEncoder]
  split <;> simp

@[simp] theorem winchHomeEvent_record : (winchHomeEvent c w).winch.record = w.record := by
  simp only [winchHomeEvent]
  split <;> simp

@[simp] theorem winchEngaged_record : (winchEngaged c w).winch.record = w.record := by
  unfold winchEngaged
  split <;> simp

@[simp] theorem winchDisengaged_record : (winchDisengaged c w).winch.record = w.record := by
  unfold winchDisengaged
  split <;> simp

@[simp] theorem winchLineEvent_record (n : Fin 4) (active : Bool) :
    (winchLineEvent n active c w).winch.record = w.record := by
  unfold winchLineEvent
  repeat' split
  all_goals simp

@[simp] theorem winchTemp_record (v : Int) : (winchTemp c v w).winch.record = w.record := by
  simp only [winchTemp]
  split <;> simp

@[simp] theorem winchCleared_record : (winchCleared c w).winch.record = w.record := by
  simp only [winchCleared]
  split <;> simp

theorem WinchEvent.record_eq {s : State} {f : WinchContext → Winch → WinchStep} (h : WinchEvent s f) :
    (f c w).winch.record = w.record := by
  cases h
  case stall | noMotion | clutch => exact winchFaulted_record _ _ _
  all_goals simp

end

/-! ## The four copies at each change -/

/-- The function record and the copies of it stand. -/
structure RecordsKept (s t : State) : Prop where
  record : t.record = s.record
  steering : t.steering.record = s.steering.record
  drive : t.drive.record = s.drive.record
  winch : t.winch.record = s.winch.record

theorem RecordsKept.refl (s : State) : RecordsKept s s := ⟨rfl, rfl, rfl, rfl⟩

theorem RecordsKept.after {s t u : State} (k : RecordsKept t u) (h : RecordsKept s t) : RecordsKept s u :=
  ⟨k.record.trans h.record, k.steering.trans h.steering, k.drive.trans h.drive, k.winch.trans h.winch⟩

@[simp] theorem driveCompute_drive (s : State) :
    (driveCompute s).drive = throttlePath s.tables.drive s.link.run s.protection.state (grantOf s 1) s.drive := by
  simp [driveCompute]

theorem deliverRun_records (n : RunState) (s : State) : RecordsKept s (deliverRun n s) := by
  constructor <;> simp [deliverRun, throttlePath]

theorem deliverProtection_records (p : Protection) (s : State) : RecordsKept s (deliverProtection p s) := by
  constructor <;> simp [deliverProtection, throttlePath]

theorem evaluatePass_records (l : Vector ScanEntry 8) (s : State) : RecordsKept s (evaluatePass l s) := by
  simp only [evaluatePass]
  split <;> [split; skip]
  · exact ⟨rfl, rfl, rfl, rfl⟩
  · exact deliverProtection_records _ s
  · exact ⟨rfl, rfl, rfl, rfl⟩

theorem handValue_records (q : Quantity) (v : Int) (s : State) : RecordsKept s (handValue q v s) := by
  unfold handValue
  split <;> constructor <;> simp [winchCurrent]

theorem conversionEnded_records (x : SenseInputs) (s : State) : RecordsKept s (conversionEnded x s) := by
  simp only [conversionEnded, completeSlot]
  repeat' split
  · exact .refl s
  · exact .refl s
  · exact (handValue_records _ _ _).after ⟨rfl, rfl, rfl, rfl⟩
  · exact (evaluatePass_records _ _).after ((handValue_records _ _ _).after ⟨rfl, rfl, rfl, rfl⟩)
  · exact ⟨rfl, rfl, rfl, rfl⟩

theorem lineEvent_records (n : Fin 4) (active : Bool) (s : State) : RecordsKept s (lineEvent n active s) := by
  constructor <;> simp [lineEvent]

theorem lineRewritten_records (l : Level) (n : Fin 4) (s : State) : RecordsKept s (lineRewritten l n s) := by
  unfold lineRewritten
  split
  · exact .refl s
  · exact lineEvent_records _ _ s

theorem takeSample_records (v : Level) (n : Fin 4) (s : State) : RecordsKept s (takeSample v n s) := by
  simp only [takeSample]
  split
  · exact (lineEvent_records _ _ _).after ⟨rfl, rfl, rfl, rfl⟩
  · exact ⟨rfl, rfl, rfl, rfl⟩

theorem entryWritten_records (id : TableId) (i : Nat) (t : Tables) (s : State) :
    RecordsKept s (entryWritten id i t s) := by
  unfold entryWritten ownerWritten
  cases id
  case steer => constructor <;> simp [steerWritten, steerFile]
  case drive => constructor <;> simp [throttlePath]
  case winch => constructor <;> simp
  case lamp | scene => constructor <;> simp
  case cue => dsimp only; split <;> constructor <;> simp
  case scan => constructor <;> simp
  case protect => constructor <;> simp
  case input =>
    dsimp only
    split
    · exact (lineRewritten_records _ _ _).after ⟨rfl, rfl, rfl, rfl⟩
    · exact ⟨rfl, rfl, rfl, rfl⟩
  all_goals exact ⟨rfl, rfl, rfl, rfl⟩

/-- The owners' part of RESTORE_DEFAULTS, before INL's lines. -/
theorem ownersRestored_records (s : State) : RecordsKept s (ownersRestored s) := by
  constructor <;> simp [ownersRestored, throttlePath, steerFile]

theorem lineRewritten_fold_keeps {R : State → State → Prop} (hrefl : ∀ s, R s s)
    (hafter : ∀ {s t u}, R t u → R s t → R s u) (before : Vector InputEntry 4)
    (h : ∀ (n : Fin 4) (s : State), R s (lineRewritten before[n].active n s)) (ns : List (Fin 4)) (s : State) :
    R s (ns.foldl (fun x n => lineRewritten before[n].active n x) s) := by
  induction ns generalizing s with
  | nil => exact hrefl s
  | cons n ns ih => exact hafter (ih _) (h n s)

theorem defaultsRestored_records (s : State) : RecordsKept s (defaultsRestored s) :=
  (lineRewritten_fold_keeps RecordsKept.refl RecordsKept.after s.tables.input
    (fun n => lineRewritten_records _ n) _ (ownersRestored s)).after (ownersRestored_records s)

theorem alignCheck_record (t : Tables) (w : WinchState) (x : Steering) : (alignCheck t w x).record = x.record := by
  unfold alignCheck
  split <;> [rfl; split] <;> [split; rfl] <;> rfl

theorem steeringPeriod_record (t : Tables) (g : Nat) (w : WinchState) (x : Steering) :
    (steeringPeriod t g w x).record = x.record := by
  unfold steeringPeriod
  split
  · exact alignCheck_record _ _ _
  · rfl

theorem servoPeriodStarted_records (s : State) : RecordsKept s (servoPeriodStarted s) := by
  constructor
  · simp
  · simp [servoPeriodStarted, steeringTakesPeriod, steeringPeriod_record]
  · simp only [servoPeriodStarted, beginPulses, driveTakesPeriod]
    split <;> simp [throttlePath, startPeriod]
  · simp

theorem loadCompleted_records (v : Vector Level 4) (a b : Level) (s : State) :
    RecordsKept s (loadCompleted v a b s) := by
  constructor <;> simp [loadCompleted, winchLoaded, winchPlaced, driveLoaded, throttlePath, startPeriod, steeringLoaded]

/-- What a function update leaves in the record and its copies. -/
theorem functionUpdate_records (r : FunctionRecord) (s : State) :
    (functionUpdate r s).record = r ∧ (functionUpdate r s).steering.record = r ∧ (functionUpdate r s).drive.record = r
      ∧ (functionUpdate r s).winch.record = r := by
  obtain ⟨c, -, hw⟩ := functionUpdate_winch r s
  refine ⟨functionUpdate_record r s, ?_, ?_, ?_⟩
  · rw [functionUpdate_steering]
    exact (steeringUpdate_takes _ _ _).record
  · rw [functionUpdate_drive]
    rfl
  · rw [hw]
    exact (winchUpdate_quiet c r _).1

/-- A change that is no function update keeps the record and its copies. -/
theorem Move.records {c : Instr} {s t : State} (h : Move c s t) :
    RecordsKept s t ∨ (∃ p, t = handToMapper p s) ∨ t = applyFailsafe s := by
  cases h
  case update p hrun => exact .inr (.inl ⟨p, rfl⟩)
  case failsafeValues hrun => exact .inr (.inr rfl)
  case enterRun | leaveRun | enterSetup | leaveSetup => exact .inl (deliverRun_records _ s)
  case winch f hf => exact .inl ⟨by simp, by simp, by simp, by simpa using hf.record_eq _ _⟩
  case encoder => exact .inl (by constructor <;> simp)
  case entry => exact .inl (entryWritten_records _ _ _ s)
  case restore => exact .inl (defaultsRestored_records s)
  case clearProtect => exact .inl (deliverProtection_records _ s)
  case conversion x _ => exact .inl (conversionEnded_records x s)
  case period => exact .inl (servoPeriodStarted_records s)
  case braking => exact .inl (by constructor <;> simp [brakingExpired])
  case sample v n _ => exact .inl (takeSample_records v n s)
  case load v a b _ _ _ => exact .inl (loadCompleted_records v a b s)
  all_goals exact .inl (by constructor <;> simp)

theorem RecordsSound.of_update {t : State} {r : FunctionRecord} (hr : RecordInRange r)
    (hv : tablesValid t.tables = true)
    (h : t.record = r ∧ t.steering.record = r ∧ t.drive.record = r ∧ t.winch.record = r) : RecordsSound t := by
  obtain ⟨h₁, h₂, h₃, h₄⟩ := h
  exact ⟨hv, h₁ ▸ hr, h₂ ▸ hr, h₃ ▸ hr, h₄ ▸ hr⟩

theorem Move.recordsSound {c : Instr} {s t : State} (h : Move c s t) (hs : RecordsSound s) : RecordsSound t := by
  have hv := h.tables_valid hs.valid
  have hvs := validTables_of_tablesValid hs.valid
  rcases h.records with hk | ⟨p, rfl⟩ | rfl
  · exact ⟨hv, hk.record ▸ hs.record, hk.steering ▸ hs.steering, hk.drive ▸ hs.drive, hk.winch ▸ hs.winch⟩
  · exact .of_update (normalize_inRange hvs _ _) hv (functionUpdate_records _ s)
  · exact .of_update (failsafeRecord_inRange hvs hs.record) hv (functionUpdate_records _ s)

theorem recordsSound_resetLeaving (k : ResetKind) (d : Bool) (s : State) : RecordsSound (resetLeaving k d s) where
  valid := defaultTables_valid
  record := recordAfterReset_inRange
  steering := recordAfterReset_inRange
  drive := recordAfterReset_inRange
  winch := by cases k <;> exact recordAfterReset_inRange

/-! ## The scanner (R139, R141, R142) -/

/-- A list in force, or a pass's copy of one: every count is at least 1. -/
def CountsPositive (list : Vector ScanEntry 8) : Prop := ∀ k : Fin 8, 1 ≤ list[k].count

/-- A pass that stands at a slot with a source, with conversions of it to make and a sum they can have. -/
def PassStands (p : Pass) : Prop :=
  ∃ q, p.list[p.slot].source = some q ∧ p.done < p.list[p.slot].count
    ∧ (p.done : Int) * (quantityRange q).1 ≤ p.sum ∧ p.sum ≤ (p.done : Int) * (quantityRange q).2

/-- What MSC keeps, apart from the tables. -/
structure ScannerKept (x : Scanner) : Prop where
  counts : ∀ p, x.pass = some p → CountsPositive p.list
  standing : ∀ p, x.pass = some p → PassStands p
  values : ∀ q : Quantity, (quantityRange q).1 ≤ x.values[quantityIndex q]
    ∧ x.values[quantityIndex q] ≤ (quantityRange q).2

theorem scannerSound_iff {s : State} :
    ScannerSound s ↔ tablesValid s.tables = true ∧ ScannerKept s.scanner :=
  ⟨fun h => ⟨h.valid, h.counts, h.standing, h.values⟩, fun h => ⟨h.1, h.2.counts, h.2.standing, h.2.values⟩⟩

theorem countsPositive_of_valid {t : Tables} (h : ValidTables t) : CountsPositive t.scan := by
  intro k
  have hcount := (scanInRange_iff.mp (h.scan k)).1
  omega

/-- A slot at its beginning stands. -/
theorem passStands_begun {list : Vector ScanEntry 8} {k : Fin 8} (hc : CountsPositive list)
    (hk : list[k].source ≠ none) : PassStands { list := list, slot := k, done := 0, sum := 0 } := by
  obtain ⟨q, hq⟩ := Option.ne_none_iff_exists'.mp hk
  exact ⟨q, hq, hc k, by simp, by simp⟩

theorem startPass_some {list : Vector ScanEntry 8} {p : Pass} (h : startPass list = some p) :
    list[p.slot].source ≠ none ∧ p = { list := list, slot := p.slot, done := 0, sum := 0 } := by
  obtain ⟨k, hk, rfl⟩ := Option.map_eq_some_iff.mp h
  exact ⟨(nextSlot_some hk).2.1, rfl⟩

/-- A pass started stands, and its list counts. -/
theorem startPass_stands {list : Vector ScanEntry 8} (hc : CountsPositive list) {p : Pass}
    (h : startPass list = some p) : CountsPositive p.list ∧ PassStands p := by
  obtain ⟨hsource, he⟩ := startPass_some h
  rw [he]
  exact ⟨hc, passStands_begun hc hsource⟩

/-- The mean of conversions within a range is within it (R141). -/
theorem mean_bounds {lo hi sum : Int} {n : Nat} (hn : 1 ≤ n) (hlo : n * lo ≤ sum) (hhi : sum ≤ n * hi)
    (h₀ : lo ≤ 0) (h₁ : 0 ≤ hi) : lo ≤ sum.tdiv n ∧ sum.tdiv n ≤ hi := by
  have hpos : (0 : Int) < n := by omega
  rcases Int.le_total 0 sum with h | h
  · rw [Int.tdiv_eq_ediv_of_nonneg h]
    exact ⟨h₀.trans (Int.ediv_nonneg h hpos.le), Int.ediv_le_of_le_mul hpos (by linarith)⟩
  · have hneg : sum.tdiv n = -((-sum) / n) := by
      rw [← Int.tdiv_eq_ediv_of_nonneg (by omega), Int.neg_tdiv, neg_neg]
    have hdiv : (-sum) / (n : Int) ≤ -lo := Int.ediv_le_of_le_mul hpos (by linarith)
    have hquot : 0 ≤ (-sum) / (n : Int) := Int.ediv_nonneg (by omega) hpos.le
    rw [hneg]
    omega

theorem quantityRange_zero (q : Quantity) : (quantityRange q).1 ≤ 0 ∧ 0 ≤ (quantityRange q).2 := by
  cases q <;> decide

/-- One measured value replaced by one in its range. -/
theorem values_set {v : Vector Int 8} (h : ∀ q : Quantity, (quantityRange q).1 ≤ v[quantityIndex q]
    ∧ v[quantityIndex q] ≤ (quantityRange q).2) {q : Quantity} {m : Int}
    (hm : (quantityRange q).1 ≤ m ∧ m ≤ (quantityRange q).2) (r : Quantity) :
    (quantityRange r).1 ≤ (v.set (quantityIndex q).val m)[quantityIndex r]
      ∧ (v.set (quantityIndex q).val m)[quantityIndex r] ≤ (quantityRange r).2 := by
  by_cases hr : quantityIndex q = quantityIndex r
  · obtain rfl := quantityIndex_injective hr
    simpa using hm
  · have hne : (quantityIndex q).val ≠ (quantityIndex r).val := fun e => hr (Fin.ext e)
    simpa [hne] using h r

@[simp] theorem completeSlot_scanner (p : Pass) (q : Quantity) (v : Int) (s : State) :
    (completeSlot p q v s).scanner =
      { values := s.scanner.values.set (quantityIndex q).val v
        pass :=
          (nextSlot p.list (p.slot.val + 1)).elim (startPass s.tables.scan) fun k =>
            some { p with slot := k, done := 0, sum := 0 } } := by
  unfold completeSlot
  split
  · next h => simp [h]
  · next h => simp [h]

/-- One more conversion keeps the pass standing, or completes its slot with a mean in range (R141, R142). -/
theorem conversionEnded_scannerKept (x : SenseInputs) {s : State} (ht : CountsPositive s.tables.scan)
    (hs : ScannerKept s.scanner) : ScannerKept (conversionEnded x s).scanner := by
  unfold conversionEnded
  split
  · exact hs
  next p hp =>
  split
  · exact hs
  next q hq =>
  obtain ⟨q', hq', hdone, hlo, hhi⟩ := hs.standing p hp
  obtain rfl : q = q' := Option.some.inj (hq.symm.trans hq')
  have hsat := saturate_bounds q (sourceInput s.tables.protect.cellCount x q)
  dsimp only
  generalize saturate q (sourceInput s.tables.protect.cellCount x q) = v at hsat
  have hlo' : ((p.done + 1 : Nat) : Int) * (quantityRange q).1 ≤ p.sum + v := by push_cast; linarith
  have hhi' : p.sum + v ≤ ((p.done + 1 : Nat) : Int) * (quantityRange q).2 := by push_cast; linarith
  split
  · next hlast =>
    have hn : p.list[p.slot].count = p.done + 1 := by omega
    have hmean := mean_bounds (n := p.done + 1) (by omega) hlo' hhi' (quantityRange_zero q).1 (quantityRange_zero q).2
    rw [completeSlot_scanner, hn]
    have hvalues := values_set hs.values hmean
    have hlist := hs.counts p hp
    cases hnext : nextSlot p.list (p.slot.val + 1) with
    | some k =>
      refine ⟨?_, ?_, hvalues⟩ <;> rintro _ ⟨rfl⟩
      · exact hlist
      · exact passStands_begun hlist (nextSlot_some hnext).2.1
    | none =>
      exact ⟨fun _ h => (startPass_stands ht h).1, fun _ h => (startPass_stands ht h).2, hvalues⟩
  · next hmore =>
    refine ⟨?_, ?_, hs.values⟩ <;> rintro _ ⟨rfl⟩
    · exact hs.counts p hp
    · exact ⟨q, hq, Nat.lt_of_not_le hmore, hlo', hhi'⟩

/-- A stopped scanner woken by a list in force, and a running one left alone. -/
theorem wakeScanner_scannerKept {s : State} (ht : CountsPositive s.tables.scan) (hs : ScannerKept s.scanner) :
    ScannerKept (wakeScanner s).scanner := by
  unfold wakeScanner
  split
  · exact hs
  · exact ⟨fun _ h => (startPass_stands ht h).1, fun _ h => (startPass_stands ht h).2, hs.values⟩

theorem entryWritten_scanner (id : TableId) (i : Nat) (t : Tables) (s : State) :
    (entryWritten id i t s).scanner = s.scanner
      ∨ (entryWritten id i t s).scanner = (wakeScanner (putTables t s)).scanner := by
  unfold entryWritten ownerWritten
  cases id
  case scan => exact .inr rfl
  case cue | input => dsimp only; split <;> exact .inl (by simp)
  all_goals exact .inl (by simp)

theorem ownersRestored_scanner (s : State) :
    (ownersRestored s).scanner = (wakeScanner (putTables defaultTables s)).scanner := by
  simp only [ownersRestored, recomputeCap_scanner, wakeScanner, putLights_scanner, onWinchEvent_scanner,
    driveCompute_scanner, putSteering_scanner, putTables_scanner]
  split <;> simp

@[simp] theorem defaultsRestored_scanner (s : State) :
    (defaultsRestored s).scanner = (wakeScanner (putTables defaultTables s)).scanner :=
  (lineRewritten_fold_keeps (R := fun x y => y.scanner = x.scanner) (fun _ => rfl) (fun k h => k.trans h)
    s.tables.input (fun n x => lineRewritten_scanner _ n x) _ (ownersRestored s)).trans (ownersRestored_scanner s)

@[simp] theorem loadCompleted_scanner (v : Vector Level 4) (a b : Level) (s : State) :
    (loadCompleted v a b s).scanner = { s.scanner with pass := startPass (loadTables s).tables.scan } := by
  simp [loadCompleted, batteryLoaded]

/-- What a change does to MSC. -/
theorem Move.scannerKept {c : Instr} {s t : State} (h : Move c s t) (hv : tablesValid s.tables = true)
    (hs : ScannerKept s.scanner) : ScannerKept t.scanner := by
  have ht := countsPositive_of_valid (validTables_of_tablesValid (h.tables_valid hv))
  cases h
  case entry id i e u _ _ _ _ =>
    rw [entryWritten_tables] at ht
    rcases entryWritten_scanner id i u s with he | he <;> rw [he]
    · exact hs
    · exact wakeScanner_scannerKept ht hs
  case restore =>
    rw [defaultsRestored_tables] at ht
    rw [defaultsRestored_scanner]
    exact wakeScanner_scannerKept ht hs
  case conversion x _ => exact conversionEnded_scannerKept x (by simpa using ht) hs
  case load v a b _ _ _ =>
    rw [loadCompleted_tables] at ht
    rw [loadCompleted_scanner]
    exact ⟨fun _ h => (startPass_stands ht h).1, fun _ h => (startPass_stands ht h).2, hs.values⟩
  all_goals simpa using hs

theorem scannerAfterReset_kept : ScannerKept scannerAfterReset where
  counts _ h := nomatch h
  standing _ h := nomatch h
  values q := by cases q <;> decide

/-- Settles O33: the record and the scanner at each change, and at a reset. -/
theorem recordsAndMeasuresStayInRange : Obligations.RecordsAndMeasuresStayInRange := by
  refine ⟨fun s t hs h => step_keeps (fun _ _ h => { h with }) (fun _ _ _ hm => hm.recordsSound) ?_ hs h, fun s t hs h => ?_⟩
  · exact fun k d u _ => recordsSound_resetLeaving k d u
  · refine step_keeps (P := ScannerSound) (fun _ _ h => { h with }) (fun _ x y hm hx => ?_) (fun k d u _ => ?_) hs h
    · obtain ⟨hv, hx⟩ := scannerSound_iff.mp hx
      exact scannerSound_iff.mpr ⟨hm.tables_valid hv, hm.scannerKept hv hx⟩
    · exact scannerSound_iff.mpr ⟨defaultTables_valid, scannerAfterReset_kept⟩

end Sys2Proof.Machine


/-! The queue, and the channel link: completion, silent discards, replies and their notices, queries and resets. -/

namespace Sys2Proof.Machine

/-! ## Every command completes -/

/-- Settles O1: the two cases of the queue. -/
theorem stepRunsTheFrontCommand : Obligations.StepRunsTheFrontCommand :=
  ⟨fun c rest s h => by rw [step, h], fun s h => by rw [step, h]⟩

theorem exec_completes (c : Instr) (s : State) : ∃ t, exec c s = .next t := by
  cases c <;> exact ⟨_, rfl⟩

@[simp] theorem entryWritten_pending (id : TableId) (i : Nat) (t : Tables) (s : State) :
    (entryWritten id i t s).pending = s.pending := by simp [entryWritten]

@[simp] theorem defaultsRestored_pending (s : State) : (defaultsRestored s).pending = s.pending := by
  simp [defaultsRestored, List.finRange_succ]

theorem Move.pending_eq {c : Instr} {s t : State} (h : Move c s t) : t.pending = s.pending := by
  cases h <;> simp

theorem Moves.pending_eq {c : Instr} {s t : State} (h : Moves c s t) : t.pending = s.pending :=
  h.keeps (P := fun x => x.pending = s.pending) (fun _ _ hm hx => hm.pending_eq.trans hx) rfl

/-- Settles O2: no change and no reset touches the queue. -/
theorem everyCommandCompletes : Obligations.EveryCommandCompletes := by
  intro c s
  obtain ⟨t, h⟩ := exec_completes c s
  refine ⟨t, h, ?_⟩
  rcases exec_ran h with hm | ⟨k, d, u, hm, rfl⟩
  · exact hm.pending_eq
  · exact hm.pending_eq

/-! ## Frames on a listening part -/

theorem exec_listening {c : Instr} {k : Byte} {p : List Byte} {s : State} (hf : frameOf c = some (k, p))
    (hp : p.length ≤ 48) (hs : Listening s) :
    exec c s = .next (dispatch k p (putReceiver receiverHunting s)) :=
  (exec_frame hf s).trans (congrArg _ (receiveFrame_listening k hs hp))

theorem putReceiver_self (s : State) : putReceiver s.link.receiver s = s := rfl

theorem putReceiver_hunting {s : State} (h : s.link.receiver = receiverHunting) : putReceiver receiverHunting s = s :=
  h ▸ putReceiver_self s

theorem silentlyDiscarded_hunting (s : State) : SilentlyDiscarded s (putReceiver receiverHunting s) := ⟨rfl, rfl, rfl⟩

theorem channelsFrame_ignored {p : List Byte} {s : State} (h : p.length ≠ 16 ∨ s.link.run = .init) :
    channelsFrame p s = s := by
  unfold channelsFrame
  split
  · rfl
  · next hp => exact if_pos (h.resolve_left (not_not.mpr (not_not.mp hp)))

theorem takeFrame_idle {f : State → State} {p : List Byte} {s : State}
    (h : f (putReceiver receiverHunting s) = putReceiver receiverHunting s) :
    takeFrame f p s = putReceiver receiverHunting s := by
  unfold takeFrame
  split
  · rfl
  · exact h

/-- Settles O5: each discard puts the receiver in HUNT, and a CHANNELS frame not processed changes nothing. -/
theorem discardsAreSilent : Obligations.DiscardsAreSilent := by
  refine ⟨⟨fun s hg => ?_, fun s hs => ?_, fun s len hs hl => ?_, fun s k p check hs hc => ?_⟩, fun p s hs hr h => ?_⟩
  · exact ⟨_, congrArg Host.Outcome.next (if_pos hg), silentlyDiscarded_hunting s⟩
  · exact ⟨_, congrArg Host.Outcome.next (onLine_listening _ hs), silentlyDiscarded_hunting s⟩
  · exact ⟨_, congrArg Host.Outcome.next ((onLine_listening _ hs).trans (if_pos hl)), silentlyDiscarded_hunting s⟩
  · exact ⟨_, congrArg Host.Outcome.next ((onLine_listening _ hs).trans (takeFrame_idle (if_neg hc))),
      silentlyDiscarded_hunting s⟩
  · have hdispatch : dispatch Config.kindChannels p (putReceiver receiverHunting s) = putReceiver receiverHunting s :=
      channelsFrame_ignored h
    refine congrArg Host.Outcome.next ?_
    rw [receiveFrame, onLine_listening _ hs, takeFrame_idle hdispatch, putReceiver_hunting hr]

/-- Settles O6: what is not receiving takes nothing. -/
theorem nothingTakenWhileSendingOrHeld : Obligations.NothingTakenWhileSendingOrHeld := by
  intro s h
  have hidle : receiving s = false := by
    rcases h with h | ⟨r, h⟩ <;> simp [receiving, h]
  have htakes (f : State → State) : (.next (onLine f s) : Host.Outcome State Fault Refusal) = .next s :=
    congrArg _ (onLine_idle f hidle)
  refine ⟨fun c hc => ?_, fun b => htakes _, htakes _, fun len => htakes _, fun k p check => htakes _⟩
  obtain ⟨f, hf⟩ := Option.ne_none_iff_exists'.mp hc
  exact (exec_frame hf s).trans (htakes _)

/-! ## Reception byte by byte (Table 1-2 against R5 and R7) -/

/-- The receiver with the payload bytes `taken` of a frame of KIND `k` and LEN `n` taken, and `phase` awaited. -/
def receiverWithin (phase : RxPhase) (k : Byte) (n : Nat) (taken : List Byte) : Receiver :=
  { phase := phase, kind := k, length := n, taken := taken, crc := crc (k :: BitVec.ofNat 8 n :: taken),
    checkHi := 0, gapRunning := true }

@[simp] theorem receiverWithin_phase (phase : RxPhase) (k : Byte) (n : Nat) (taken : List Byte) :
    (receiverWithin phase k n taken).phase = phase := rfl

theorem crc_snoc (bytes : List Byte) (b : Byte) : crc (bytes ++ [b]) = crcByte (crc bytes) b :=
  crcBytes_append Config.crcStart bytes [b]

theorem feed_cons {b : Byte} {bs : List Byte} {s t : State} (hs : Listening s) (h : takeByte b s = t) :
    feed (b :: bs) s = feed bs t := by
  rw [feed, exec_byteReceived b hs, h]

/-- A byte short of the frame's end moves the receiver alone, and the part listens on. -/
theorem feed_within {b : Byte} {bs : List Byte} {r r' : Receiver} {s : State} (hs : Listening s)
    (hphase : r.phase ≠ .checkLo) (hr : advanceReceiver r b = r') :
    feed (b :: bs) (putReceiver r s) = feed bs (putReceiver r' s) := by
  refine feed_cons (s := putReceiver r s) hs ?_
  rw [takeByte_within fun h => hphase h.1, takeByte_receiver]
  exact congrArg (putReceiver · s) hr

/-- A payload byte with more to come. -/
theorem advanceReceiver_payload {r : Receiver} (b : Byte) (hphase : r.phase = .payload)
    (hmore : ¬ r.length ≤ r.taken.length + 1) :
    advanceReceiver r b = { r with taken := r.taken ++ [b], crc := crcByte r.crc b, gapRunning := true } := by
  simp [advanceReceiver, hphase, hmore]

/-- The payload bytes, one after another, up to the CHECK. -/
theorem feed_payload (k : Byte) {s : State} (hs : Listening s) (rest : List Byte) :
    ∀ (more taken : List Byte), more ≠ [] →
      feed (more ++ rest) (putReceiver (receiverWithin .payload k (taken.length + more.length) taken) s) =
        feed rest (putReceiver (receiverWithin .checkHi k (taken ++ more).length (taken ++ more)) s)
  | [], _, h => absurd rfl h
  | [b], taken, _ => by
    refine feed_within hs (by simp) ?_
    simp only [advanceReceiver, receiverWithin]
    rw [← crc_snoc]
    simp
  | b :: b' :: more, taken, _ => by
    have hstep : advanceReceiver (receiverWithin .payload k (taken.length + (b :: b' :: more).length) taken) b =
        receiverWithin .payload k ((taken ++ [b]).length + (b' :: more).length) (taken ++ [b]) := by
      have hmore : ¬ taken.length + (b :: b' :: more).length ≤ taken.length + 1 := by simp
      have hlength : taken.length + (b :: b' :: more).length = (taken ++ [b]).length + (b' :: more).length := by
        simp; omega
      rw [advanceReceiver_payload b rfl hmore]
      simp only [receiverWithin]
      rw [← crc_snoc, hlength]
      simp
    rw [List.cons_append, feed_within hs (by simp) hstep, feed_payload k hs rest (b' :: more) (taken ++ [b]) (by simp)]
    simp

/-- The receiver once KIND `k` is taken, LEN awaited. -/
def receiverAtLen (k : Byte) : Receiver :=
  { phase := .len, kind := k, length := 0, taken := [], crc := crc [k], checkHi := 0, gapRunning := true }

/-- From LEN on: the payload, if there is one, then CHECK is awaited. -/
theorem feed_length (k : Byte) {p : List Byte} (hp : p.length ≤ 48) {s : State} (hs : Listening s) (rest : List Byte) :
    feed (BitVec.ofNat 8 p.length :: p ++ rest)
        (putReceiver (receiverAtLen k) s) =
      feed rest (putReceiver (receiverWithin .checkHi k p.length p) s) := by
  have hn : (BitVec.ofNat 8 p.length).toNat = p.length := by simp; omega
  have hcrc : crcByte (crc [k]) (BitVec.ofNat 8 p.length) = crc [k, BitVec.ofNat 8 p.length] := rfl
  have hlen : ¬ Config.maxLen < p.length := Nat.not_lt.mpr hp
  have hfirst : advanceReceiver (receiverAtLen k) (BitVec.ofNat 8 p.length) =
      receiverWithin (if p.length = 0 then .checkHi else .payload) k p.length [] := by
    simp only [advanceReceiver, receiverAtLen, hn, if_neg hlen, hcrc, receiverWithin]
  rw [List.cons_append, feed_within hs (by simp [receiverAtLen]) hfirst]
  by_cases h0 : p = []
  · subst h0; rfl
  · rw [if_neg (by simpa using h0)]
    have := feed_payload k hs rest p [] h0
    simpa using this

/-- The two CHECK bytes of the frame taken: it is dispatched, the receiver in HUNT. -/
theorem feed_check (k : Byte) (p : List Byte) {s : State} (hs : Listening s) :
    feed [checkHigh (frameCheck k p), checkLow (frameCheck k p)] (putReceiver (receiverWithin .checkHi k p.length p) s) =
      .next (dispatch k p (putReceiver receiverHunting s)) := by
  let r : Receiver := { receiverWithin .checkLo k p.length p with checkHi := checkHigh (frameCheck k p) }
  have hgood : r.checkHi ++ checkLow (frameCheck k p) = r.crc := checkHigh_append_checkLow (frameCheck k p)
  rw [feed_within (r' := r) hs (by simp) rfl]
  refine (feed_cons (s := putReceiver r s) hs (takeByte_endsFrame rfl hgood)).trans ?_
  rw [takeByte_receiver]
  rfl

/-- Settles O3: LEAD, KIND, LEN with the payload, and the CHECK, each by its own lemma. -/
theorem byteReceptionIsFrameReception : Obligations.ByteReceptionIsFrameReception := by
  intro c k p s hf hp hs hr
  have hbytes : frameBytes k p = Config.lead :: k :: (BitVec.ofNat 8 p.length :: p
      ++ [checkHigh (frameCheck k p), checkLow (frameCheck k p)]) := rfl
  rw [exec_listening hf hp hs, hbytes, ← putReceiver_hunting hr, feed_within hs (by decide) rfl,
    feed_within hs (by decide) rfl]
  exact (feed_length k hp hs _).trans (feed_check k p hs)

/-! ## Notices of an abandoned reply (R10, R187) -/

/-- Notices without a soft reset: the reported set goes with the STATUS notice, and nothing else changes. -/
theorem noticesAbandoned_report {ns : List Notice} (h : Notice.softReset ∉ ns) (s : State) :
    ns.foldl (fun x n => noticeAbandoned n x) s =
      { s with inputs := if Notice.statusReport ∈ ns then { s.inputs with reported := none } else s.inputs } := by
  induction ns generalizing s with
  | nil => simp
  | cons n ns ih =>
    obtain ⟨hn, hns⟩ := not_or.mp (mt List.mem_cons.mpr h)
    cases n with
    | statusReport =>
      rw [List.foldl_cons, ih hns]
      simp [noticeAbandoned]
    | softReset => exact absurd rfl hn

/-- Once a soft reset is performed, the other notices find nothing to change. -/
theorem noticesAbandoned_after (ns : List Notice) (s : State) :
    ns.foldl (fun x n => noticeAbandoned n x) (resetLeaving .soft true s) = resetLeaving .soft true s := by
  induction ns with
  | nil => rfl
  | cons n ns ih =>
    have hstill : noticeAbandoned n (resetLeaving .soft true s) = resetLeaving .soft true s := by
      cases n with
      | statusReport => rfl
      | softReset => rw [noticeAbandoned, resetPart_resetLeaving]; rfl
    rw [List.foldl_cons, hstill, ih]

theorem noticesAbandoned_reset {ns : List Notice} (h : Notice.softReset ∈ ns) (s : State) :
    ns.foldl (fun x n => noticeAbandoned n x) s = resetLeaving .soft true s := by
  induction ns generalizing s with
  | nil => cases h
  | cons n ns ih =>
    cases n with
    | statusReport =>
      rw [List.foldl_cons, ih (by simpa using h)]
      rfl
    | softReset => exact noticesAbandoned_after ns s

theorem abandonReply_pending {s : State} {r : ReplyContent} (h : s.link.reply = .pending r) :
    abandonReply s = r.notices.foldl (fun x n => noticeAbandoned n x) (putReply .empty s) := by
  unfold abandonReply
  rw [h]

theorem onLine_pending {s : State} {r : ReplyContent} (f : State → State) (hheld : s.heldInReset = false)
    (h : s.link.reply = .pending r) : onLine f s = afterStartBit f (abandonReply s) := by
  simp [onLine, receiving, hheld, h]

/-- Settles O7: the start bit delivers the notices, and what is left of the line's work is that of `u`. -/
theorem startBitAbandonsPendingReply : Obligations.StartBitAbandonsPendingReply := by
  refine ⟨fun s r h => ⟨fun hn u hu => ?_, fun hn => ?_⟩, fun s u hheld he hd hu => ?_⟩
  · have hleft : abandonReply s = u := by
      rw [abandonReply_pending h, noticesAbandoned_report hn, hu]
      rfl
    refine ⟨congrArg Host.Outcome.next hleft, fun hheld hd => ?_⟩
    have hlistens : Listening u := by subst hu; exact ⟨hheld, rfl, hd⟩
    have hline (f : State → State) :
        (.next (onLine f s) : Host.Outcome State Fault Refusal) = .next (onLine f u) := by
      rw [onLine_pending f hheld h, hleft, onLine_listening f hlistens, afterStartBit, hlistens.2.2]
      rfl
    refine ⟨fun c hc => ?_, fun b => hline _, hline _⟩
    obtain ⟨f, hf⟩ := Option.ne_none_iff_exists'.mp hc
    exact ((exec_frame hf s).trans (hline _)).trans (exec_frame hf u).symm
  · have hleft : abandonReply s = resetLeaving .soft true s := by
      rw [abandonReply_pending h, noticesAbandoned_reset hn]
      rfl
    refine ⟨congrArg Host.Outcome.next hleft, fun hheld => ?_⟩
    have hline (f : State → State) :
        (.next (onLine f s) : Host.Outcome State Fault Refusal) = .next (resetPart .soft s) := by
      rw [onLine_pending f hheld h, hleft]
      rfl
    refine ⟨fun c hc => ?_, fun b => hline _, hline _⟩
    obtain ⟨f, hf⟩ := Option.ne_none_iff_exists'.mp hc
    exact (exec_frame hf s).trans (hline _)
  · have hline (f : State → State) :
        (.next (onLine f s) : Host.Outcome State Fault Refusal) = .next u := by
      rw [onLine_discards f hheld he hd, hu]
      rfl
    refine ⟨fun c hc => ?_, fun b => hline _, hline _⟩
    obtain ⟨f, hf⟩ := Option.ne_none_iff_exists'.mp hc
    exact (exec_frame hf s).trans (hline _)

/-! ## The reply's progress (R9 to R12, R177) -/

theorem completeReply_sending {s : State} {r : ReplyContent} (h : s.link.reply = .sending r) :
    completeReply s =
      r.notices.foldl (fun x n => noticeCompleted n x)
        { s with link := { s.link with reply := .empty, receiver := receiverHunting
                                       telemetryDue := if r.kind = 0x53 then false else s.link.telemetryDue } } := by
  unfold completeReply
  rw [h]
  dsimp only
  congr 1
  unfold telemetrySent
  by_cases hk : r.kind = 0x53
  · rw [if_pos hk, if_pos (show r.kind = Config.kindTelemetry from hk)]
    rfl
  · rw [if_neg hk, if_neg (show ¬ r.kind = Config.kindTelemetry from hk)]
    rfl

/-- The lines and flags after the completion of a STATUS answer (R175, R177). -/
theorem clearReported_some {t : Vector InputEntry 4} {x : Inputs} {f : Vector Bool 15} (h : x.reported = some f) :
    clearReported t x =
      { x with flags := tab fun i => x.flags[i] && !f[i]
               lines := tab fun n => armAfterClearing f (lineActive x t n) n x.lines[n]
               reported := none } := by
  unfold clearReported
  rw [h]

theorem not_lineActive (x : Inputs) (t : Vector InputEntry 4) (n : Fin 4) :
    (!lineActive x t n) = decide (x.lines[n].level ≠ t[n].active) := by
  unfold lineActive
  cases x.lines[n].level <;> cases t[n].active <;> rfl

/-- Settles O8: the record's two transitions, and `clearReported` at the STATUS notice. -/
theorem replyStartsAndCompletes : Obligations.ReplyStartsAndCompletes := by
  refine ⟨⟨fun s r h => ?_, fun s r h hn => ?_⟩, fun s r f h hn hk hf => ?_⟩
  · refine congrArg Host.Outcome.next ?_
    rw [startReply, h]
    rfl
  · refine congrArg Host.Outcome.next ?_
    rw [completeReply_sending h, hn]
    rfl
  · refine ⟨completeReply s, rfl, ?_⟩
    rw [completeReply_sending h, hn, hk, List.foldl_cons, List.foldl_nil, noticeCompleted, clearReported_some hf]
    refine ⟨rfl, rfl, rfl, rfl, rfl, fun i => tab_get _ i, fun n => ?_⟩
    simp only [tab_get]
    unfold armAfterClearing
    have hindex : f[flagIndex (.edge n)] = f[11 + n.val] := rfl
    rw [hindex, not_lineActive]
    by_cases hset : f[11 + n.val] = true
    · simp [hset]
    · simp [hset]

/-! ## Resets (R178, R187 to R189) -/

theorem flagsAfterReset_get (k : ResetKind) (f : Vector Bool 15) (i : Fin 15) :
    (flagsAfterReset k f)[i] =
      match k with
      | .powerOn => i == 0
      | .brownOut => (i == 2) || ((i == 0 || i == 1) && f[i])
      | .soft => (i == 1) || ((i == 0 || i == 2) && f[i]) := by
  rw [flagsAfterReset, tab_get]
  revert i
  cases k <;> simp [Fin.forall_fin_succ, flagIndex]

theorem flagsAfterReset_powerOn (f : Vector Bool 15) : flagsAfterReset .powerOn f = flagsAfterPowerOn := by
  ext i hi
  have h := flagsAfterReset_get .powerOn f ⟨i, hi⟩
  simp only [Fin.getElem_fin] at h
  rw [h, flagsAfterPowerOn, tab_getElem]
  simp only [beq_eq_decide, Fin.ext_iff]
  rfl

/-- Settles O53: the reset of each kind, field by field. -/
theorem resetsFromOutside : Obligations.ResetsFromOutside := by
  refine ⟨fun s => ⟨?_, _, rfl, rfl, fun i => flagsAfterReset_get .brownOut _ i⟩, fun s => rfl⟩
  refine congrArg Host.Outcome.next ?_
  simp only [resetPart, flagsAfterReset_powerOn]
  rfl

/-! ## Actions and queries on a listening part -/

/-- An ACTION frame of one known code: STATE in INIT, and past it the action. -/
theorem actionFrame_of_code {b : Byte} {a : Action} (hb : actionOf b.toNat = some a) (s : State) :
    actionFrame [b] s = if s.link.run = .init then answerAction .state s else performAction a s := by
  have hcode : actionOf (u8At [b] 0) = some a := hb
  simp [actionFrame, hcode]

theorem exec_action {c : Instr} {b : Byte} {a : Action} {s : State} (hf : frameOf c = some (0x45, [b]))
    (hb : actionOf b.toNat = some a) (hs : Listening s) :
    exec c s =
      .next (if s.link.run = .init then s.answered 0x45 .state [] []
             else performAction a (putReceiver receiverHunting s)) :=
  (exec_listening hf (by simp) hs).trans (congrArg _ (actionFrame_of_code hb _))

theorem exec_action_past {c : Instr} {b : Byte} {a : Action} {s : State} (hf : frameOf c = some (0x45, [b]))
    (hb : actionOf b.toNat = some a) (hs : Listening s) (hr : s.link.run ≠ .init) :
    exec c s = .next (performAction a (putReceiver receiverHunting s)) :=
  (exec_action hf hb hs).trans (congrArg _ (if_neg hr))

/-- Settles O9: the three answers, and the soft reset of the notice. -/
theorem softResetAction : Obligations.SoftResetAction := by
  refine ⟨fun s hs => ⟨fun hr => ?_, fun hr hb => ?_, fun hr hb => ?_⟩, fun s r c hn h => ?_⟩
  · exact (exec_action rfl rfl hs).trans (congrArg _ (if_pos hr))
  · exact (exec_action_past (a := .softReset) rfl rfl hs hr).trans (congrArg _ (if_pos hb))
  · exact (exec_action_past (a := .softReset) rfl rfl hs hr).trans (congrArg _ (if_neg (ne_true_of_eq_false hb)))
  · have hleft : ∃ d, exec c s = .next (resetLeaving .soft d s) ∧ d = decide (c = .replyAbandon) := by
      rcases h with ⟨h, rfl⟩ | ⟨h, rfl⟩
      · refine ⟨true, congrArg Host.Outcome.next ?_, rfl⟩
        rw [abandonReply_pending h, hn]
        rfl
      · refine ⟨false, congrArg Host.Outcome.next ?_, rfl⟩
        rw [completeReply_sending h, hn]
        rfl
    obtain ⟨d, hexec, hd⟩ := hleft
    refine ⟨_, hexec, by rw [← hd]; rfl, rfl, rfl, rfl, rfl, rfl, rfl, rfl, rfl, rfl, rfl, ?_, rfl, rfl, fun n => ?_⟩
    · exact fun i => flagsAfterReset_get .soft _ i
    · exact tab_get _ n

/-- Settles O21: one record per selector, and the kinds that no block takes. -/
theorem queriesAndUnknownKinds : Obligations.QueriesAndUnknownKinds := by
  refine ⟨fun s hs => ⟨fun hr => ?_, fun hr c hc => ?_⟩, fun k p s hs hp hk => ?_⟩
  · have hquery {c : Instr} {b : Byte} {q : Selector} (hf : frameOf c = some (0x44, [b]))
        (hq : selectorOf b.toNat = some q) : exec c s = .next (answerQuery q (putReceiver receiverHunting s)) := by
      refine (exec_listening hf (by simp) hs).trans (congrArg _ ?_)
      have hrun : ¬ (putReceiver receiverHunting s).link.run = .init := hr
      have hcode : selectorOf (u8At [b] 0) = some q := hq
      have hdispatch : dispatch 0x44 [b] (putReceiver receiverHunting s) =
        queryFrame [b] (putReceiver receiverHunting s) := rfl
      rw [hdispatch, queryFrame, if_neg hrun]
      simp [hcode]
    exact ⟨hquery (q := .status) rfl rfl, hquery (q := .measure) rfl rfl, hquery (q := .winch) rfl rfl,
      hquery (q := .budget) rfl rfl, hquery (q := .steer) rfl rfl⟩
  · have hquery {c : Instr} {b : Byte} (hf : frameOf c = some (0x44, [b])) :
        exec c s = .next (s.answered 0x44 .state [] []) :=
      (exec_listening hf (by simp) hs).trans (congrArg _ (if_pos hr))
    simp only [List.mem_cons, List.not_mem_nil, or_false] at hc
    rcases hc with rfl | rfl | rfl | rfl | rfl <;> exact hquery rfl
  · simp only [List.mem_cons, List.not_mem_nil, or_false, not_or] at hk
    obtain ⟨h₁, h₂, h₃, h₄, h₅⟩ := hk
    refine (exec_listening rfl hp hs).trans (congrArg _ ?_)
    exact (if_neg h₁).trans ((if_neg h₂).trans ((if_neg h₃).trans ((if_neg h₄).trans (if_neg h₅))))

end Sys2Proof.Machine


/-! The image (R180): what a store writes is what a start-up loads. -/

namespace Sys2Proof.Machine

/-! ## Entries and records among the bytes of the image -/

variable {α : Type}

/-- The bytes of an entry among those of its table. -/
theorem entryBytes_of_flatMap {enc : α → List Byte} {len : Nat} (henc : ∀ x, (enc x).length = len) (rest : List Byte) :
    ∀ (l : List α) (i : Nat) (h : i < l.length), ((l.flatMap enc ++ rest).drop (i * len)).take len = enc l[i]
  | [], _, h => absurd h (Nat.not_lt_zero _)
  | x :: l, 0, _ => by
    rw [Nat.zero_mul, List.drop_zero, List.flatMap_cons, List.append_assoc, ← henc x, List.take_left]
    rfl
  | x :: l, i + 1, h => by
    rw [List.flatMap_cons, List.append_assoc, Nat.succ_mul, Nat.add_comm, ← List.drop_drop, ← henc x, List.drop_left,
      henc x, entryBytes_of_flatMap henc rest l i (by simpa using h)]
    rfl

/-- A table read from the front of the bytes. -/
theorem decodeEntries_here {n len : Nat} {enc : α → List Byte} {dec : List Byte → Option α} {v : Vector α n}
    (henc : ∀ x, (enc x).length = len) (hdec : ∀ i : Fin n, dec (enc v[i]) = some v[i]) (rest : List Byte) :
    decodeEntries n len 0 dec (v.toList.flatMap enc ++ rest) = some v := by
  refine collect_eq_some fun i => ?_
  rw [Nat.zero_add, entryBytes_of_flatMap henc rest v.toList i.val (by simp)]
  simpa using hdec i

/-- A table read where it stands. -/
theorem decodeEntries_at {n len base : Nat} {enc : α → List Byte} {dec : List Byte → Option α} {v : Vector α n}
    {b rest : List Byte} (hb : b.drop base = v.toList.flatMap enc ++ rest) (henc : ∀ x, (enc x).length = len)
    (hdec : ∀ i : Fin n, dec (enc v[i]) = some v[i]) : decodeEntries n len base dec b = some v := by
  rw [← decodeEntries_here henc hdec rest, ← hb]
  simp only [decodeEntries, List.drop_drop, Nat.zero_add]

/-- What stands behind the bytes that stand at a place. -/
theorem drop_behind {b x rest : List Byte} {o k : Nat} (h : b.drop o = x ++ rest) (hx : x.length = k) :
    b.drop (o + k) = rest := by
  rw [← List.drop_drop, h, ← hx, List.drop_left]

theorem entries_length {n len : Nat} {enc : α → List Byte} (henc : ∀ x, (enc x).length = len) (v : Vector α n) :
    (v.toList.flatMap enc).length = n * len := by
  simp [List.length_flatMap, henc]

theorem decodeSteer_among {e : SteerRecord} (h : steerInRange e = true) (rest : List Byte) :
    decodeSteer (encodeSteer e ++ rest) = some e := by
  have hmap (i : Fin 8) : u8At (encodeSteer e ++ rest) i.val = u8At (encodeSteer e) i.val :=
    u8At_append_of_lt (encodeSteer_length e) (by omega)
  rw [← decodeSteer_encodeSteer h]
  simp [decodeSteer, hmap]

theorem decodeDrive_among {e : DriveRecord} (h : driveInRange e = true) (rest : List Byte) :
    decodeDrive (encodeDrive e ++ rest) = some e := by
  rw [← decodeDrive_encodeDrive h]
  simp [decodeDrive]

theorem decodeWinch_among {e : WinchRecord} (h : winchInRange e = true) (rest : List Byte) :
    decodeWinch (encodeWinch e ++ rest) = some e := by
  rw [← decodeWinch_encodeWinch h]
  simp [decodeWinch]

theorem decodeProtect_among {v : Vector ScanEntry 8} {e : ProtectRecord} (h : protectInRange v e = true)
    (rest : List Byte) : decodeProtect (encodeProtect e ++ rest) = some e := by
  rw [← decodeProtect_encodeProtect h]
  simp [decodeProtect]

/-! ## The image -/

theorem encodeTables_length (t : Tables) : (encodeTables t).length = Config.imageLength := by
  simp [encodeTables, entries_length encodeFunc_length, entries_length encodeCurve_length,
    entries_length encodeBand_length, entries_length encodeGeom_length, entries_length encodeCorner_length,
    entries_length encodeLamp_length, entries_length encodeScene_length, entries_length encodeCue_length,
    entries_length encodeScan_length, entries_length encodeBudget_length, entries_length encodeInput_length]
  rfl

/-- Each table is read behind those before it. -/
theorem decodeTables_encodeTables {t : Tables} (h : ValidTables t) : decodeTables (encodeTables t) = some t := by
  have atFunc := (List.drop_zero (l := encodeTables t)).trans (encodeTables.eq_def t)
  simp only [List.append_assoc] at atFunc
  have atCurve := drop_behind atFunc (entries_length encodeFunc_length t.func)
  have atBand := drop_behind atCurve (entries_length encodeCurve_length t.curve)
  have atSteer := drop_behind atBand (entries_length encodeBand_length t.band)
  have atGeom := drop_behind atSteer (encodeSteer_length t.steer)
  have atCorner := drop_behind atGeom (entries_length encodeGeom_length t.geom)
  have atDrive := drop_behind atCorner (entries_length encodeCorner_length t.corner)
  have atWinch := drop_behind atDrive (encodeDrive_length t.drive)
  have atLamp := drop_behind atWinch (encodeWinch_length t.winch)
  have atScene := drop_behind atLamp (entries_length encodeLamp_length t.lamp)
  have atCue := drop_behind atScene (entries_length encodeScene_length t.scene)
  have atScan := drop_behind atCue (entries_length encodeCue_length t.cue)
  have atProtect := drop_behind atScan (entries_length encodeScan_length t.scan)
  have atBudget := drop_behind atProtect (encodeProtect_length t.protect)
  have atInput := drop_behind atBudget (entries_length encodeBudget_length t.budget)
  have atLink := drop_behind atInput (entries_length encodeInput_length t.input)
  unfold decodeTables
  rw [decodeEntries_at atFunc encodeFunc_length fun i => decodeFunc_encodeFunc (h.func i),
    decodeEntries_at (base := 88) atCurve encodeCurve_length fun i => decodeCurve_encodeCurve (h.curve i),
    decodeEntries_at (base := 160) atBand encodeBand_length fun i => decodeBand_encodeBand (h.band i),
    show (encodeTables t).drop 224 = _ from atSteer, decodeSteer_among h.steer,
    decodeEntries_at (base := 239) atGeom encodeGeom_length fun i => decodeGeom_encodeGeom (h.geom i),
    decodeEntries_at (base := 303) atCorner encodeCorner_length fun i => decodeCorner_encodeCorner (h.corner i),
    show (encodeTables t).drop 355 = _ from atDrive, decodeDrive_among h.drive,
    show (encodeTables t).drop 377 = _ from atWinch, decodeWinch_among h.winch,
    decodeEntries_at (base := 408) atLamp encodeLamp_length fun i => decodeLamp_encodeLamp (h.lamp i),
    decodeEntries_at (base := 444) atScene encodeScene_length fun i => decodeScene_encodeScene (h.scene i),
    decodeEntries_at (base := 540) atCue encodeCue_length fun i => decodeCue_encodeCue (h.cue i),
    decodeEntries_at (base := 780) atScan encodeScan_length fun i => decodeScan_encodeScan (h.scan i),
    show (encodeTables t).drop 796 = _ from atProtect, decodeProtect_among h.protect,
    decodeEntries_at (base := 827) atBudget encodeBudget_length fun i => decodeBudget_encodeBudget (h.budget i),
    decodeEntries_at (base := 839) atInput encodeInput_length fun i => decodeInput_encodeInput (h.input i),
    show (encodeTables t).drop 847 = _ from atLink, decodeLink_encodeLink h.link]
  rfl

theorem take_encodeTables (t : Tables) (rest : List Byte) :
    (encodeTables t ++ rest).take Config.imageLength = encodeTables t := by
  rw [← encodeTables_length t, List.take_left]

/-- The CHECK kept after the entry bytes, of an image that holds both its bytes. -/
theorem imageCheck_kept (t : Tables) (x : Check) : imageCheck (encodeTables t ++ [checkHigh x, checkLow x]) = x := by
  have hhigh : (encodeTables t ++ [checkHigh x, checkLow x]).getD Config.imageLength 0 = checkHigh x := by
    rw [← encodeTables_length t]
    simp
  have hlow : (encodeTables t ++ [checkHigh x, checkLow x]).getD (Config.imageLength + 1) 0 = checkLow x := by
    rw [← encodeTables_length t]
    simp
  rw [imageCheck, hhigh, hlow, checkHigh_append_checkLow]

theorem loadImage_imageOf {t : Tables} (h : tablesValid t = true) : loadImage (imageOf t) = some t := by
  have hwhole : (imageOf t).length = Config.imageLength + 2
      ∧ imageCheck (imageOf t) = crc ((imageOf t).take Config.imageLength) :=
    ⟨by simp [imageOf, encodeTables_length], by rw [imageOf, imageCheck_kept, take_encodeTables]⟩
  rw [loadImage, if_pos hwhole, imageOf, take_encodeTables,
    decodeTables_encodeTables (validTables_of_tablesValid h), Option.filter_some, if_pos h]

/-- An image too short, or with another CHECK than that of its entry bytes, is invalid. -/
theorem loadImage_none {b : List Byte} (h : b.length = Config.imageLength + 2 →
    imageCheck b ≠ crc (b.take Config.imageLength)) : loadImage b = none :=
  if_neg fun hb => h hb.1 hb.2

/-- Settles O23: the image is as long as its entries and the CHECK, and each table is read where it was written. -/
theorem imageRoundTrip : Obligations.ImageRoundTrip :=
  fun t h => ⟨by simp [imageOf, encodeTables_length]; rfl, loadImage_imageOf h⟩

end Sys2Proof.Machine


/-! The winch controller's operations as equations (R92, R102 to R104), and the actions that use them. -/

namespace Sys2Proof.Machine

/-- States are equal block by block. -/
theorem State.ext_fields {s t : State} (pending : s.pending = t.pending) (held : s.heldInReset = t.heldInReset)
    (link : s.link = t.link) (record : s.record = t.record) (steering : s.steering = t.steering)
    (drive : s.drive = t.drive) (winch : s.winch = t.winch) (lights : s.lights = t.lights)
    (scanner : s.scanner = t.scanner) (protection : s.protection = t.protection) (budget : s.budget = t.budget)
    (inputs : s.inputs = t.inputs) (store : s.store = t.store) (tables : s.tables = t.tables) : s = t := by
  cases s
  cases t
  simp_all

/-! ## The blocks of an answered part -/

section Answered

variable (s : State) (k : Byte) (r : Result) (e : List Byte) (ns : List Notice)

@[simp] theorem answered_pending : (s.answered k r e ns).pending = s.pending := rfl
@[simp] theorem answered_heldInReset : (s.answered k r e ns).heldInReset = s.heldInReset := rfl
@[simp] theorem answered_record : (s.answered k r e ns).record = s.record := rfl
@[simp] theorem answered_steering : (s.answered k r e ns).steering = s.steering := rfl
@[simp] theorem answered_drive : (s.answered k r e ns).drive = s.drive := rfl
@[simp] theorem answered_winch : (s.answered k r e ns).winch = s.winch := rfl
@[simp] theorem answered_lights : (s.answered k r e ns).lights = s.lights := rfl
@[simp] theorem answered_scanner : (s.answered k r e ns).scanner = s.scanner := rfl
@[simp] theorem answered_protection : (s.answered k r e ns).protection = s.protection := rfl
@[simp] theorem answered_budget : (s.answered k r e ns).budget = s.budget := rfl
@[simp] theorem answered_inputs : (s.answered k r e ns).inputs = s.inputs := rfl
@[simp] theorem answered_store : (s.answered k r e ns).store = s.store := rfl
@[simp] theorem answered_tables : (s.answered k r e ns).tables = s.tables := rfl

/-- The link of an answer, where the frame's work left the link alone. -/
theorem answered_link_of_unmoved {s t : State} (k : Byte) (r : Result) (h : t.link = (putReceiver receiverHunting s).link) :
    (answer k r t).link = (s.answered k r [] []).link := by
  have hlink : (answer k r t).link = (answer k r (putReceiver receiverHunting s)).link := by
    simp only [answer, answerWith, putReply, h]
  rw [hlink, answer_hunting]

end Answered

/-! ## WCH's operations -/

section WinchRules

variable (c : WinchContext) (w : Winch) (x : WinchStep)

theorem winchDemand_resting {w : Winch} (h : hauling w.state = false) : winchDemand c w = 0 := by
  simp [winchDemand, h]

theorem targetDuty_resting {w : Winch} (h : hauling w.state = false) : targetDuty c w = 0 := by
  simp [targetDuty, h]

/-- A release is due in IDLE (R102). -/
def releaseDue : Bool := w.request && c.run == .run && c.prot != .cutoff && !w.releaseBlock

theorem releaseDue_iff :
    releaseDue c w = true ↔ w.request = true ∧ c.run = .run ∧ c.prot ≠ .cutoff ∧ w.releaseBlock = false := by
  simp [releaseDue, and_assoc]

/-- The clutch servo's width as a state with the clutch engaged is entered (R87). -/
def engagedWidth : Int := if released w.state then c.record.engagePosition else w.clutchWidth

theorem engagedWidth_released {w : Winch} (h : released w.state = true) :
    engagedWidth c w = c.record.engagePosition := if_pos h

theorem engagedWidth_engaged {w : Winch} (h : released w.state = false) : engagedWidth c w = w.clutchWidth :=
  if_neg (by simp [h])

/-- WCH as IDLE is entered, before the check for a release. -/
def idleWinch : Winch :=
  { w with state := .idle, direction := .none, clutchWidth := engagedWidth c w, target := 0, filed := 0
           clutchTimer := stopTimer w.clutchTimer }

/-- WCH as CLUTCH_OUT is entered from IDLE. -/
def releasedWinch : Winch :=
  { w with state := .clutchOut, direction := .none, clutchWidth := c.record.releasePosition
           clutchTimer := startTimer c.record.clutchTimeout w.clutchTimer }

/-- WCH as CLUTCH_IN is entered. -/
def engagingWinch : Winch :=
  { w with state := .clutchIn, direction := .none, clutchWidth := engagedWidth c w, filed := 0
           clutchTimer := startTimer c.record.clutchTimeout w.clutchTimer }

theorem engagedWidth_engagingWinch : engagedWidth c (engagingWinch c w) = engagedWidth c w := rfl

/-- WCH as RAMP_DOWN is entered from HAUL_IN or PAY_OUT. -/
def rampingWinch : Winch :=
  { w with state := .rampDown, clutchWidth := engagedWidth c w, target := 0, filed := 0 }

theorem enterWinch_winch (st : WinchState) (d : Direction) :
    (enterWinch c st d x).winch =
      { x.winch with state := st, direction := d
                     clutchWidth := if released x.winch.state = released st then x.winch.clutchWidth
                                    else positionFor c.record st } := rfl

theorem enterWinch_engaged {st : WinchState} (h : released st = false) (d : Direction) :
    (enterWinch c st d x).winch =
      { x.winch with state := st, direction := d, clutchWidth := engagedWidth c x.winch } := by
  simp only [enterWinch_winch, engagedWidth, h, positionFor]
  cases released x.winch.state <;> rfl

theorem tryRelease_idle (h : x.winch.state = .idle) :
    tryRelease c x = if releaseDue c x.winch then
      onWinch (fun w => { w with clutchTimer := startTimer c.record.clutchTimeout w.clutchTimer })
        (enterWinch c .clutchOut .none x) else x := by
  simp only [tryRelease, h, releaseDue_iff, true_and]

theorem tryRelease_other {x : WinchStep} (h : x.winch.state ≠ .idle) : tryRelease c x = x := if_neg fun k => h k.1

theorem tryRelease_winch_idle (h : x.winch.state = .idle) :
    (tryRelease c x).winch = if releaseDue c x.winch then releasedWinch c x.winch else x.winch := by
  rw [tryRelease_idle c x h]
  split
  · simp [enterWinch_winch, releasedWinch, h, released, positionFor]
  · rfl

theorem releaseDue_idleWinch : releaseDue c (idleWinch c w) = releaseDue c w := rfl

theorem toIdle_winch :
    (toIdle c x).winch =
      if releaseDue c x.winch then releasedWinch c (idleWinch c x.winch) else idleWinch c x.winch := by
  have hidle : (refile c (onWinch (fun w => { w with target := 0, clutchTimer := stopTimer w.clutchTimer })
      (enterWinch c .idle .none x))).winch = idleWinch c x.winch := by
    simp only [refile, onWinch_winch]
    rw [enterWinch_engaged c x (st := .idle) rfl, winchDemand_resting c rfl]
    rfl
  rw [toIdle, tryRelease_winch_idle c _ (by rw [hidle]; rfl), hidle, releaseDue_idleWinch]

theorem toRampDown_winch : (toRampDown c x).winch = rampingWinch c x.winch := by
  simp only [toRampDown, refile, retarget, onWinch_winch]
  rw [enterWinch_engaged c x (st := .rampDown) rfl, targetDuty_resting c rfl, winchDemand_resting c rfl]
  rfl

theorem toClutchIn_winch :
    (toClutchIn c x).winch =
      if c.engaged then
        (if releaseDue c x.winch then releasedWinch c (idleWinch c (engagingWinch c x.winch))
         else idleWinch c (engagingWinch c x.winch))
      else engagingWinch c x.winch := by
  have hin : (refile c (onWinch (fun w => { w with clutchTimer := startTimer c.record.clutchTimeout w.clutchTimer })
      (enterWinch c .clutchIn .none x))).winch = engagingWinch c x.winch := by
    simp only [refile, onWinch_winch]
    rw [enterWinch_engaged c x (st := .clutchIn) rfl, winchDemand_resting c rfl]
    rfl
  unfold toClutchIn
  dsimp only
  split
  · rw [toIdle_winch, hin]
    rfl
  · exact hin

/-- An event at which WCH does nothing. -/
theorem onWinchEvent_begin {f : WinchContext → Winch → WinchStep} {s : State}
    (h : f (winchContext s) s.winch = winchBegin s.winch) : onWinchEvent f s = s := by
  rw [onWinchEvent, h]
  simp [putWinch, winchBegin, fileClaim, setFlags, lightEvents]

/-- An event at which WCH delivers nothing and keeps its demand. -/
theorem onWinchEvent_silent {f : WinchContext → Winch → WinchStep} {s : State} {w : Winch}
    (h : f (winchContext s) s.winch = winchBegin w) (hfiled : w.filed = s.winch.filed) :
    onWinchEvent f s = { s with winch := w } := by
  rw [onWinchEvent, h]
  simp [putWinch, winchBegin, fileClaim, setFlags, lightEvents, hfiled]

theorem winchEnterSetup_engaged {w : Winch} (h : released w.state = false) : winchEnterSetup c w = winchBegin w := by
  simp [winchEnterSetup, h]

theorem winchEnterSetup_released {w : Winch} (h : released w.state = true) :
    winchEnterSetup c w = toClutchIn c (winchBegin { w with releaseBlock := true }) := by
  simp [winchEnterSetup, h]

end WinchRules

/-! ## ENTER_SETUP (R19) -/

variable {s : State}

theorem setupAllowed_iff (s : State) :
    setupAllowed s = true ↔ s.record.throttle.natAbs ≤ s.tables.link.neutralWindow
      ∧ (s.winch.state = .idle ∨ s.winch.state = .fault) := by
  simp [setupAllowed, throttleNeutral]

theorem released_iff (st : WinchState) : released st = true ↔ st = .freespool ∨ st = .clutchOut := by
  cases st <;> simp [released]

/-- A resting winch takes a change out of RUN with its command at 0. -/
theorem winchRunChange_resting {c : WinchContext} (hrun : c.run ≠ .run) {w : Winch}
    (h : w.state = .idle ∨ w.state = .fault) : winchRunChange c w = winchBegin { w with command := 0 } := by
  rw [winchRunChange_halts hrun]
  rcases h with h | h <;> simp [winchHalt, h, hauling, released]

theorem deliverRun_winch_resting {n : RunState} (hn : n ≠ .run) (h : s.winch.state = .idle ∨ s.winch.state = .fault) :
    (deliverRun n s).winch = { s.winch with command := 0 } := by
  obtain ⟨c, hc, hw⟩ := deliverRun_winch n s
  rw [hw, winchRunChange_resting (hc ▸ hn) h]
  rfl

theorem deliverRun_filed {n : RunState} (hn : n ≠ .run) (s : State) : (deliverRun n s).drive.filed = 0 := by
  rw [deliverRun_drive]
  simp [throttlePath, driveDemand, driveZeroed, hn]

theorem evaluateEnterSetup_refused (h : setupAllowed s = false) :
    evaluateEnterSetup s = answerAction .refused (onWinchEvent winchEnterSetup s) :=
  if_neg (by simp [h])

theorem evaluateEnterSetup_accepted (h : setupAllowed s = true) :
    evaluateEnterSetup s = answerAction .done (deliverRun .setup (stopHold s)) := by
  have hwinch := deliverRun_winch_resting (n := .setup) (s := stopHold s) (by decide) ((setupAllowed_iff s).mp h).2
  have hengaged : released (deliverRun .setup (stopHold s)).winch.state = false := by
    rw [hwinch]
    rcases ((setupAllowed_iff s).mp h).2 with h | h <;> simp [h, released]
  rw [evaluateEnterSetup, if_pos h, onWinchEvent_begin (winchEnterSetup_engaged _ hengaged)]

/-- A refusal returns the clutch under the release block (R102, R103): with the block no release is due. -/
theorem enterSetup_returns (c : WinchContext) {w : Winch} (h : released w.state = true) :
    (winchEnterSetup c w).winch =
      if c.engaged then idleWinch c (engagingWinch c { w with releaseBlock := true })
      else engagingWinch c { w with releaseBlock := true } := by
  rw [winchEnterSetup_released c h, toClutchIn_winch]
  simp [releaseDue]

theorem enterSetup_flags (c : WinchContext) (w : Winch) : (winchEnterSetup c w).flags = [] := by
  unfold winchEnterSetup
  split
  · exact (toClutchIn_quiet c _).flags
  · rfl

/-- Settles O24: the run state decides first, then R19's conditions; `winchEnterSetup` acts at a refusal only. -/
theorem enterSetupAction : Obligations.EnterSetupAction := by
  intro s hs
  have hexec (hr : s.link.run = .wait ∨ s.link.run = .run) :
      exec .enterSetup s = .next (evaluateEnterSetup (putReceiver receiverHunting s)) := by
    rw [exec_action_past (a := .enterSetup) rfl rfl hs (by rcases hr with h | h <;> simp [h])]
    rcases hr with h | h <;> simp [performAction, performEnterSetup, putReceiver, h]
  refine ⟨fun hr => ?_, fun hr => ⟨fun hn hw => ?_, fun hno => ⟨fun h₁ h₂ => ?_, fun hrel => ?_⟩⟩⟩
  · rcases hr with h | h | h
    · exact (exec_action (a := .enterSetup) rfl rfl hs).trans (congrArg _ (if_pos h))
    all_goals
      rw [exec_action_past (a := .enterSetup) rfl rfl hs (by simp [h])]
      have hrun : (putReceiver receiverHunting s).link.run = s.link.run := rfl
      simp only [performAction, performEnterSetup, hrun, h]
      rfl
  · have hallowed : setupAllowed (putReceiver receiverHunting s) = true := (setupAllowed_iff _).mpr ⟨hn, hw⟩
    refine ⟨_, (hexec hr).trans (by rw [evaluateEnterSetup_accepted hallowed]), ?_, ?_, ?_, ?_, ?_⟩
    · exact State.ext_fields (by simp) (by simp) rfl (by simp) (by simp) rfl rfl rfl (by simp) (by simp) rfl (by simp)
        (by simp) (by simp)
    · rw [answerAction, answer, answerWith, putReply]
      simp only [deliverRun_link]
      rfl
    · simp [deliverRun_throttle]
    · simp [deliverRun_filed]
    · rw [answerAction_winch, deliverRun_winch_resting (by decide) (by simpa using hw)]
      rfl
  · have hengaged : released s.winch.state = false := by
      rw [← Bool.not_eq_true, released_iff]
      exact not_or.mpr ⟨h₁, h₂⟩
    rw [hexec hr, evaluateEnterSetup_refused (by rw [← Bool.not_eq_true, setupAllowed_iff]; exact hno),
      onWinchEvent_begin (s := putReceiver receiverHunting s) (winchEnterSetup_engaged _ hengaged)]
    rfl
  · have hreleased : released s.winch.state = true := (released_iff _).mpr hrel
    have hwinch := enterSetup_returns (winchContext (putReceiver receiverHunting s)) hreleased
    have hengaged : (winchContext (putReceiver receiverHunting s)).engaged = inputActive s 1 := rfl
    refine ⟨_, (hexec hr).trans (by
      rw [evaluateEnterSetup_refused (by rw [← Bool.not_eq_true, setupAllowed_iff]; exact hno)]), ?_, ?_⟩
    · have hinputs : (onWinchEvent winchEnterSetup (putReceiver receiverHunting s)).inputs = s.inputs :=
        onWinchEvent_inputs (enterSetup_flags _ _)
      exact State.ext_fields (by simp) (by simp) (answered_link_of_unmoved _ _ (by simp)) (by simp) (by simp) (by simp) rfl rfl
        (by simp) (by simp) rfl (by simp [hinputs]) (by simp) (by simp)
    · rw [answerAction_winch, onWinchEvent_winch]
      simp only [putReceiver_winch, hwinch, hengaged]
      have hwidth : engagedWidth (winchContext s) { s.winch with releaseBlock := true } = s.tables.winch.engagePosition :=
        engagedWidth_released _ hreleased
      cases inputActive s 1
      · exact ⟨rfl, hwidth, rfl, by simp [engagingWinch, startTimer]⟩
      · exact ⟨rfl, hwidth, rfl, by simp [idleWinch, stopTimer]⟩

/-! ## STORE (R182, R183) -/

theorem verified_iff (content : Tables) (v : Verify) :
    verified content v = true ↔ v = .good ∨ v = .checkRead (crc (encodeTables content)) := by
  cases v <;> simp [verified]

theorem imageAfterStore_verified {content : Tables} {v : Verify} (h : verified content v = true) :
    imageAfterStore content v = imageOf content := by
  rcases (verified_iff content v).mp h with rfl | rfl <;> rfl

theorem imageAfterStore_unequal {content : Tables} {v : Verify} (h : verified content v = false) :
    loadImage (imageAfterStore content v) = none := by
  refine loadImage_none fun hlength => ?_
  cases v with
  | good => simp [verified] at h
  | entryUnequal place =>
    simp only [imageAfterStore, List.length_take, encodeTables_length] at hlength
    omega
  | checkRead x =>
    rw [imageAfterStore, imageCheck_kept, take_encodeTables]
    simpa [verified] using h

theorem exec_storeEnd {content : Tables} (h : s.store.state = .programming content) (v : Verify) :
    exec (.storeEnd v) s = .next (storeEnded content v s) := by
  refine congrArg Host.Outcome.next ?_
  simp only [programmingEnded, h]

/-- Settles O26: the three answers, then the two ends of the store's phases. -/
theorem storeLifecycle : Obligations.StoreLifecycle := by
  refine ⟨⟨fun s hs => ⟨fun hr => ?_, fun hr hb => ?_, fun hr hb => ?_⟩, fun s content h => ?_⟩,
    fun s content v h => ⟨fun hv => ⟨?_, loadImage_imageOf⟩, fun h₁ h₂ => ?_⟩⟩
  · by_cases hinit : s.link.run = .init
    · exact (exec_action (a := .store) rfl rfl hs).trans (congrArg _ (if_pos hinit))
    · exact (exec_action_past (a := .store) rfl rfl hs hinit).trans (congrArg _ (if_pos hr))
  · exact (exec_action_past (a := .store) rfl rfl hs (by simp [hr])).trans
      (congrArg _ ((if_neg (not_not.mpr hr)).trans (if_pos hb)))
  · exact (exec_action_past (a := .store) rfl rfl hs (by simp [hr])).trans
      (congrArg _ ((if_neg (not_not.mpr hr)).trans (if_neg (ne_true_of_eq_false hb))))
  · refine congrArg Host.Outcome.next ?_
    simp only [eraseEnded, h]
    rfl
  · have hverified := (verified_iff content v).mpr hv
    rw [exec_storeEnd h, storeEnded, imageAfterStore_verified hverified, hverified]
    rfl
  · have hunequal : verified content v = false := by
      rw [← Bool.not_eq_true, verified_iff]
      exact not_or.mpr ⟨h₁, h₂⟩
    refine ⟨_, exec_storeEnd h v, ?_, ?_⟩
    · rw [storeEnded, hunequal]
      rfl
    · exact imageAfterStore_unequal hunequal

/-! ## CLEAR_PROTECT (R151) -/

theorem clearProtectAllowed_iff (s : State) :
    clearProtectAllowed s = true ↔ s.protection.primed = true
      ∧ (s.protection.cause = .undervolt →
          (s.tables.protect.vLimit + s.tables.protect.hysteresis : Int) ≤ s.protection.minCell)
      ∧ (s.protection.cause = .overcurrent → s.scanner.values[5] ≤ (s.tables.protect.iTrip / 2 : Nat))
      ∧ s.record.throttle.natAbs ≤ s.tables.link.neutralWindow
      ∧ s.winch.state ≠ .haulIn ∧ s.winch.state ≠ .payOut := by
  have hhauling : hauling s.winch.state = false ↔ s.winch.state ≠ .haulIn ∧ s.winch.state ≠ .payOut := by
    cases s.winch.state <;> simp [hauling]
  have hpack : measured s .packI = s.scanner.values[5] := rfl
  unfold clearProtectAllowed
  cases s.protection.cause <;>
    simp [throttleNeutral, hhauling, hpack, and_assoc]

/-- A protection change short of CUTOFF leaves the winch alone (R96). -/
theorem deliverProtection_eq {p : Protection} (h : p.state ≠ .cutoff) (s : State) :
    deliverProtection p s = lightEvent (protSources p.state)
      (driveCompute (setFlag .protChanged { s with protection := p })) := by
  have hidle (x : State) (hx : x.protection.state ≠ .cutoff) : onWinchEvent winchProtChange x = x :=
    onWinchEvent_begin (if_neg hx)
  rw [deliverProtection, hidle]
  simpa using h

theorem lightEvent_kept_mem {m : LightMsg} (hm : (m.sets.map Prod.fst).Nodup) {l : LevelSource} {v : Bool}
    (h : (l, v) ∈ m.sets) (s : State) : keptValue (lightEvent m s).lights.kept l = v := by
  rw [lightEvent, putLights_lights, lightsEvent_kept]
  exact keptAfter_mem hm h _

/-- Settles O28: R151's conditions, and `deliverProtection` into LIMIT. -/
theorem clearProtectAction : Obligations.ClearProtectAction := by
  intro s allowed hs hallowed
  have hiff : clearProtectAllowed (putReceiver receiverHunting s) = true ↔ allowed :=
    (clearProtectAllowed_iff _).trans hallowed.symm
  refine ⟨fun h => ?_, fun hr hc hno => ?_, fun hr hc ha => ?_⟩
  · by_cases hinit : s.link.run = .init
    · exact (exec_action (a := .clearProtect) rfl rfl hs).trans (congrArg _ (if_pos hinit))
    · exact (exec_action_past (a := .clearProtect) rfl rfl hs hinit).trans
        (congrArg _ (if_pos (h.resolve_left hinit)))
  · exact (exec_action_past (a := .clearProtect) rfl rfl hs hr).trans
      (congrArg _ ((if_neg (not_not.mpr hc)).trans (if_neg fun k => hno (hiff.mp k))))
  · refine ⟨_, (exec_action_past (a := .clearProtect) rfl rfl hs hr).trans
      (congrArg _ ((if_neg (not_not.mpr hc)).trans (if_pos (hiff.mpr ha)))), ?_, ?_, ?_⟩
    · rw [protectCleared, deliverProtection_eq (by simp)]
      exact State.ext_fields (by simp) (by simp) (answered_link_of_unmoved _ _ (by simp)) (by simp) (by simp) rfl (by simp) rfl
        (by simp) rfl rfl (by simp [setFlag]) (by simp) (by simp)
    · rw [answerAction_protection, protectCleared, deliverProtection_protection]
      rfl
    · rw [answerAction_lights, protectCleared, deliverProtection]
      have hnodup : ((protSources .limit).sets.map Prod.fst).Nodup := by decide
      exact ⟨lightEvent_kept_mem hnodup (by decide) _, lightEvent_kept_mem hnodup (by decide) _,
        lightEvent_kept_mem hnodup (by decide) _⟩

end Sys2Proof.Machine


/-! What a change is made of, block by block: each block's new state put in place, with its claim filed and its events
delivered. An invariant of one block, or of its claim, is then a fact about that block's operations. -/

namespace Sys2Proof.Machine

/-! ## The operations of each block -/

/-- What STC makes of its state (R46, R49, R54). -/
inductive SteeringOp (c : Instr) (s : State) : Steering → Prop where
  | update (r : FunctionRecord) : SteeringOp c s (steeringUpdate s.tables r s.steering)
  | period (hc : c = .servoPeriodStart) :
      SteeringOp c s (steeringPeriod s.tables (grantOf s 0) s.winch.state s.steering)
  | refile : SteeringOp c s (steerFile s.tables.steer s.steering)

/-- What DRV's state keeps in every operation but load complete. -/
structure DriveOp (x y : Drive) : Prop where
  period : x.period.running = true → y.period.running = true
  stopped : y.period.running = true → x.period.running = true
  s4Active : y.s4Active = x.s4Active
  s5Active : y.s5Active = x.s5Active

/-- The events of WCH. -/
inductive WinchOp (c : Instr) (s : State) : (WinchContext → Winch → WinchStep) → Prop where
  | update (r : FunctionRecord) : WinchOp c s (fun x w => winchUpdate x r w)
  | runChange : WinchOp c s winchRunChange
  | protChange : WinchOp c s winchProtChange
  | written : WinchOp c s winchWritten
  | current (v : Int) : WinchOp c s (fun x w => winchCurrent x v w)
  | temp (v : Int) : WinchOp c s (fun x w => winchTemp x v w)
  | line (n : Fin 4) (active : Bool) : WinchOp c s (winchLineEvent n active)
  | encoder (a b : Level) (hc : c = .encoderCount a b) : WinchOp c s (fun x w => winchEncoder x a b w)
  | event {f : WinchContext → Winch → WinchStep} (hf : WinchEvent s f) : WinchOp c s f

/-- What LTC makes of its state (R124, R128, R131, R138). -/
inductive LightsOp (s : State) : Lights → Prop where
  | event (m : LightMsg) : LightsOp s (lightsEvent s.tables (grantOf s 3) false m s.lights)
  | update (b : Bool) (m : LightMsg) (scene : Fin 8) :
      LightsOp s (lightsEvent s.tables (grantOf s 3) b m { s.lights with scene := scene })
  | recompose : LightsOp s (compose s.tables (grantOf s 3) s.lights)
  | cueWritten (k : Fin 16) : LightsOp s (lightsCueWritten s.tables (grantOf s 3) k s.lights)
  | restored : LightsOp s (lightsRestored s.tables (grantOf s 3) s.lights)
  | tick : LightsOp s (lightsTick s.tables (grantOf s 3) s.lights)

/-- A change that leaves STC, DRV, WCH, LTC and CBU alone, and starts and stops nothing. -/
structure Aside (c : Instr) (s t : State) : Prop where
  steering : t.steering = s.steering
  drive : t.drive = s.drive
  winch : t.winch = s.winch
  lights : t.lights = s.lights
  budget : t.budget = s.budget
  loaded : t.store.loaded = s.store.loaded
  held : t.heldInReset = true → s.heldInReset = true
  ticking : t.inputs.ticking = s.inputs.ticking
  run : t.link.run = .init ↔ s.link.run = .init
  flags : c ≠ .replyComplete → ∀ i : Fin 15, s.inputs.flags[i] = true → t.inputs.flags[i] = true

/-- One block's part of a change. -/
inductive Part (c : Instr) : State → State → Prop where
  | aside {s t : State} (h : Aside c s t) : Part c s t
  | steering (s : State) {x : Steering} (h : SteeringOp c s x) : Part c s (putSteering x s)
  | drive (s : State) {x : Drive} (h : DriveOp s.drive x) : Part c s (putDrive x s)
  | winch (s : State) {f : WinchContext → Winch → WinchStep} (h : WinchOp c s f) : Part c s (onWinchEvent f s)
  | lights (s : State) {x : Lights} (h : LightsOp s x) : Part c s (putLights x s)
  | budget (s : State) (hc : c = .budgetTimerExpiry) (hrunning : s.budget.timer.running = true) :
      Part c s (startBudgetTimer (computeBudget s))

/-- The parts of a change, one after another. -/
abbrev Parts (c : Instr) : State → State → Prop := Relation.ReflTransGen (Part c)

section
variable {c : Instr}

theorem Parts.keeps {P : State → Prop} (hP : ∀ s t, Part c s t → P s → P t) {s t : State} (h : Parts c s t)
    (hs : P s) : P t := by
  induction h with
  | refl => exact hs
  | tail _ hpart ih => exact hP _ _ hpart ih

/-! ## The parts of each operation -/

theorem Aside.refl (s : State) : Aside c s s := ⟨rfl, rfl, rfl, rfl, rfl, rfl, id, rfl, .rfl, fun _ _ h => h⟩

theorem setFlag_aside (f : Flag) (s : State) : Aside c s (setFlag f s) :=
  ⟨rfl, rfl, rfl, rfl, rfl, rfl, id, rfl, .rfl, fun _ i h => raiseFlag_keeps f s.inputs i h⟩

theorem lightEvent_parts (m : LightMsg) (s : State) : Parts c s (lightEvent m s) := .single (.lights s (.event m))

theorem throttlePath_op (r : DriveRecord) (rs : RunState) (p : ProtState) (g : Nat) (x : Drive) :
    DriveOp x (throttlePath r rs p g x) := ⟨id, id, rfl, rfl⟩

theorem driveCompute_parts (s : State) : Parts c s (driveCompute s) := .single (.drive s (throttlePath_op ..))

theorem functionUpdate_parts (r : FunctionRecord) (s : State) : Parts c s (functionUpdate r s) := by
  have haside : Parts c s { s with record := r } :=
    .single (.aside ⟨rfl, rfl, rfl, rfl, rfl, rfl, id, rfl, .rfl, fun _ _ h => h⟩)
  refine (((haside.trans (.single (.steering _ (.update r)))).trans (.single ?_)).trans (.single (.winch _ (.update r)))).trans
    (.single (.lights _ (.update _ _ _)))
  exact .drive _ ⟨id, id, rfl, rfl⟩

theorem deliverRun_parts {n : RunState} {s : State} (h : n = .init ↔ s.link.run = .init) :
    Parts c s (deliverRun n s) := by
  have haside : Parts c s (putRun n s) :=
    .single (.aside ⟨rfl, rfl, rfl, rfl, rfl, rfl, id, rfl, h, fun _ _ h => h⟩)
  exact ((haside.trans (driveCompute_parts _)).trans (.single (.winch _ .runChange))).trans (lightEvent_parts _ _)

theorem deliverProtection_parts (p : Protection) (s : State) : Parts c s (deliverProtection p s) := by
  have haside : Parts c s (setFlag .protChanged { s with protection := p }) :=
    .single (.aside ⟨rfl, rfl, rfl, rfl, rfl, rfl, id, rfl, .rfl, fun _ i h => raiseFlag_keeps _ s.inputs i h⟩)
  exact ((haside.trans (driveCompute_parts _)).trans (.single (.winch _ .protChange))).trans (lightEvent_parts _ _)

theorem evaluatePass_parts (l : Vector ScanEntry 8) (s : State) : Parts c s (evaluatePass l s) := by
  simp only [evaluatePass]
  split <;> [split; skip]
  · exact .single (.aside ⟨rfl, rfl, rfl, rfl, rfl, rfl, id, rfl, .rfl, fun _ _ h => h⟩)
  · exact deliverProtection_parts _ s
  · exact .single (.aside ⟨rfl, rfl, rfl, rfl, rfl, rfl, id, rfl, .rfl, fun _ _ h => h⟩)

theorem handValue_parts (q : Quantity) (v : Int) (s : State) : Parts c s (handValue q v s) := by
  cases q
  case winchI => exact .single (.winch s (.current v))
  case temp => exact .single (.winch s (.temp v))
  all_goals exact .refl

theorem conversionEnded_parts (x : SenseInputs) (s : State) : Parts c s (conversionEnded x s) := by
  have hscanner (u : State) (y : Scanner) : Parts c u { u with scanner := y } :=
    .single (.aside ⟨rfl, rfl, rfl, rfl, rfl, rfl, id, rfl, .rfl, fun _ _ h => h⟩)
  simp only [conversionEnded, completeSlot]
  repeat' split
  · exact .refl
  · exact .refl
  · exact (hscanner s _).trans (handValue_parts _ _ _)
  · exact ((hscanner s _).trans (handValue_parts _ _ _)).trans (evaluatePass_parts _ _)
  · exact hscanner s _

theorem edgeAtEvent_keeps (n : Fin 4) (active : Bool) (x : Inputs) (i : Fin 15) (h : x.flags[i] = true) :
    (edgeAtEvent n active x).flags[i] = true := by
  unfold edgeAtEvent
  split <;> [split; skip]
  · exact raiseFlag_keeps _ x i h
  · exact h
  · exact h

theorem lineEvent_parts (n : Fin 4) (active : Bool) (s : State) : Parts c s (lineEvent n active s) := by
  have haside : Parts c s { s with inputs := edgeAtEvent n active s.inputs } :=
    .single (.aside ⟨rfl, rfl, rfl, rfl, rfl, rfl, id, edgeAtEvent_ticking n active _, .rfl,
      fun _ i h => edgeAtEvent_keeps n active s.inputs i h⟩)
  exact (haside.trans (.single (.winch _ (.line n active)))).trans (lightEvent_parts _ _)

theorem lineRewritten_parts (l : Level) (n : Fin 4) (s : State) : Parts c s (lineRewritten l n s) := by
  unfold lineRewritten
  split
  · exact .refl
  · exact lineEvent_parts _ _ s

theorem takeSample_parts (v : Level) (n : Fin 4) (s : State) : Parts c s (takeSample v n s) := by
  have haside (l : Line) : Parts c s (putLine n l s) :=
    .single (.aside ⟨rfl, rfl, rfl, rfl, rfl, rfl, id, rfl, .rfl, fun _ _ h => h⟩)
  simp only [takeSample]
  split
  · exact (haside _).trans (lineEvent_parts _ _ _)
  · exact haside _

theorem wakeScanner_aside (s : State) : Aside c s (wakeScanner s) := by
  refine ⟨?_, ?_, ?_, ?_, ?_, ?_, ?_, ?_, ?_, fun _ i h => ?_⟩ <;> simp_all

theorem recomputeCap_aside (s : State) : Aside c s (recomputeCap s) :=
  ⟨rfl, rfl, rfl, rfl, rfl, rfl, id, rfl, .rfl, fun _ _ h => h⟩

theorem putTables_aside (t : Tables) (s : State) : Aside c s (putTables t s) :=
  ⟨rfl, rfl, rfl, rfl, rfl, rfl, id, rfl, .rfl, fun _ _ h => h⟩

theorem ownerWritten_parts (before : Tables) (id : TableId) (i : Nat) (s : State) :
    Parts c s (ownerWritten before id i s) := by
  cases id
  case steer => exact .single (.steering s .refile)
  case drive => exact driveCompute_parts s
  case winch => exact .single (.winch s .written)
  case lamp | scene => exact .single (.lights s .recompose)
  case cue =>
    simp only [ownerWritten]
    split
    · exact .single (.lights s (.cueWritten _))
    · exact .refl
  case scan => exact .single (.aside (wakeScanner_aside s))
  case protect => exact .single (.aside (recomputeCap_aside s))
  case input =>
    simp only [ownerWritten]
    split
    · exact lineRewritten_parts _ _ s
    · exact .refl
  all_goals exact .refl

theorem ownersRestored_parts (s : State) : Parts c s (ownersRestored s) := by
  refine .tail (.tail (.tail (.tail ((Relation.ReflTransGen.trans (.tail (.single (.aside (putTables_aside defaultTables s)))
    (.steering _ .refile)) (driveCompute_parts _))) (.winch _ .written)) (.lights _ .restored))
    (.aside (wakeScanner_aside _))) (.aside (recomputeCap_aside _))

theorem defaultsRestored_parts (s : State) : Parts c s (defaultsRestored s) :=
  (ownersRestored_parts s).trans
    (lineRewritten_fold_keeps (R := Parts c) (fun _ => .refl) (fun k h => h.trans k) s.tables.input
      (fun n => lineRewritten_parts _ n) _ (ownersRestored s))

/-- DRV's state put in place with nothing to file or deliver. -/
theorem putDrive_silent {x : Drive} {s : State} (hfiled : x.filed = s.drive.filed) (hreverse : x.reverse = s.drive.reverse)
    (hbraking : x.braking = s.drive.braking) : putDrive x s = { s with drive := x } := by
  simp [putDrive, driveMsgs, hfiled, hreverse, hbraking, fileClaim]

theorem servoPeriodStarted_parts {s : State} (hc : c = .servoPeriodStart) (hrunning : s.drive.period.running = true) :
    Parts c s (servoPeriodStarted s) := by
  have hstart : Part c s (startPeriod s) := by
    have h := Part.drive (c := c) s (x := (startPeriod s).drive) ⟨fun _ => rfl, fun _ => hrunning, rfl, rfl⟩
    rwa [putDrive_silent (x := (startPeriod s).drive) (s := s) rfl rfl rfl] at h
  have hdrive (u : State) : Parts c u (driveTakesPeriod u) := by
    unfold driveTakesPeriod
    split
    · exact .refl
    · exact driveCompute_parts u
  have hpulses (u : State) : Part c u (beginPulses u) := by
    have h := Part.drive (c := c) u (x := (beginPulses u).drive) ⟨id, id, rfl, rfl⟩
    rwa [putDrive_silent (x := (beginPulses u).drive) (s := u) rfl rfl rfl] at h
  exact .tail (Relation.ReflTransGen.trans (.tail (.single hstart) (.steering _ (.period hc))) (hdrive _)) (hpulses _)

/-- Every change but load complete is made of parts. -/
theorem Move.parts {s t : State} (h : Move c s t) :
    (∃ v a b, (∃ in0 in1 in2 in3 enca encb, c = .loadComplete in0 in1 in2 in3 enca encb) ∧ s.heldInReset = false ∧ s.store.loaded = false ∧ t = loadCompleted v a b s) ∨ Parts c s t := by
  cases h with
  | load v a b hc hheld hloaded => exact .inl ⟨v, a, b, hc, hheld, hloaded, rfl⟩
  | link l hrun => exact .inr (.single (.aside ⟨rfl, rfl, rfl, rfl, rfl, rfl, id, rfl, by rw [hrun], fun _ _ h => h⟩))
  | unreport => exact .inr (.single (.aside ⟨rfl, rfl, rfl, rfl, rfl, rfl, id, rfl, .rfl, fun _ _ h => h⟩))
  | report => exact .inr (.single (.aside ⟨rfl, rfl, rfl, rfl, rfl, rfl, id, rfl, .rfl, fun _ _ h => h⟩))
  | clearFlags hc =>
    refine .inr (.single (.aside ⟨rfl, rfl, rfl, rfl, rfl, rfl, id, ?_, .rfl, fun k => absurd hc k⟩))
    unfold clearReported
    split <;> rfl
  | flag f => exact .inr (.single (.aside (setFlag_aside f s)))
  | store x hloaded => exact .inr (.single (.aside ⟨rfl, rfl, rfl, rfl, rfl, hloaded, id, rfl, .rfl, fun _ _ h => h⟩))
  | update p hrun => exact .inr (functionUpdate_parts _ s)
  | enterRun hrun => exact .inr (deliverRun_parts (by rcases hrun with h | h <;> simp [h]))
  | leaveRun hrun => exact .inr (deliverRun_parts (by simp [hrun]))
  | failsafeValues hrun => exact .inr (functionUpdate_parts _ s)
  | enterSetup hrun _ => exact .inr (deliverRun_parts (by rcases hrun with h | h <;> simp [h]))
  | leaveSetup hrun => exact .inr (deliverRun_parts (by simp [hrun]))
  | winch hf => exact .inr (.single (.winch s (.event hf)))
  | encoder a b hc _ => exact .inr (.single (.winch s (.encoder a b hc)))
  | entry id i e t _ _ _ _ => exact .inr ((Relation.ReflTransGen.single (.aside (putTables_aside t s))).trans (ownerWritten_parts _ _ _ _))
  | restore _ => exact .inr (defaultsRestored_parts s)
  | clearProtect _ _ _ => exact .inr (deliverProtection_parts _ s)
  | conversion x _ => exact .inr (conversionEnded_parts x s)
  | period hc hrunning => exact .inr (servoPeriodStarted_parts hc hrunning)
  | braking _ => exact .inr (.single (.drive s ⟨id, id, rfl, rfl⟩))
  | cueTick _ => exact .inr (.single (.lights s .tick))
  | budget hc hrunning => exact .inr (.single (.budget s hc hrunning))
  | sample v n _ => exact .inr (takeSample_parts v n s)
  | release => exact .inr (.single (.aside ⟨rfl, rfl, rfl, rfl, rfl, rfl, fun h => (by simp at h), rfl, .rfl, fun _ _ h => h⟩))

end

end Sys2Proof.Machine


/-! Invariants of one block or of one claim: the claims and the grants (R157, R164), the corners' positions (R56), the
line count (R97), the sticky flags (R174), and what runs from load complete on (R181). -/

namespace Sys2Proof.Machine

/-! ## Claims (R157) -/

theorem ClaimsFiled.putLights {s : State} (h : ClaimsFiled s) (x : Lights) : ClaimsFiled (putLights x s) where
  steer := (fileClaim_demand 3 _ x.filed _ h.lights 0).trans h.steer
  drive := (fileClaim_demand 3 _ x.filed _ h.lights 1).trans h.drive
  winch := (fileClaim_demand 3 _ x.filed _ h.lights 2).trans h.winch
  lights := fileClaim_demand 3 _ x.filed _ h.lights 3

theorem ClaimsFiled.lightEvents {s : State} (h : ClaimsFiled s) (ms : List LightMsg) : ClaimsFiled (lightEvents ms s) := by
  induction ms generalizing s with
  | nil => exact h
  | cons m ms ih => exact ih (h.putLights _)

theorem ClaimsFiled.putSteering {s : State} (h : ClaimsFiled s) (x : Steering) : ClaimsFiled (putSteering x s) :=
  ClaimsFiled.lightEvents
    ⟨fileClaim_demand 0 _ x.filed _ h.steer 0, (fileClaim_demand 0 _ x.filed _ h.steer 1).trans h.drive,
      (fileClaim_demand 0 _ x.filed _ h.steer 2).trans h.winch,
      (fileClaim_demand 0 _ x.filed _ h.steer 3).trans h.lights⟩ _

theorem ClaimsFiled.putDrive {s : State} (h : ClaimsFiled s) (x : Drive) : ClaimsFiled (putDrive x s) :=
  ClaimsFiled.lightEvents
    ⟨(fileClaim_demand 1 _ x.filed _ h.drive 0).trans h.steer, fileClaim_demand 1 _ x.filed _ h.drive 1,
      (fileClaim_demand 1 _ x.filed _ h.drive 2).trans h.winch,
      (fileClaim_demand 1 _ x.filed _ h.drive 3).trans h.lights⟩ _

theorem ClaimsFiled.putWinch {s : State} (h : ClaimsFiled s) (x : WinchStep) : ClaimsFiled (putWinch x s) :=
  ClaimsFiled.lightEvents
    ⟨(fileClaim_demand 2 _ x.winch.filed _ h.winch 0).trans h.steer,
      (fileClaim_demand 2 _ x.winch.filed _ h.winch 1).trans h.drive, fileClaim_demand 2 _ x.winch.filed _ h.winch 2,
      (fileClaim_demand 2 _ x.winch.filed _ h.winch 3).trans h.lights⟩ _

/-- The demands and the filed demands stand. -/
theorem ClaimsFiled.of_eq {s t : State} (h : ClaimsFiled s) (hbudget : t.budget.demand = s.budget.demand)
    (hsteering : t.steering.filed = s.steering.filed) (hdrive : t.drive.filed = s.drive.filed)
    (hwinch : t.winch.filed = s.winch.filed) (hlights : t.lights.filed = s.lights.filed) : ClaimsFiled t := by
  obtain ⟨h₀, h₁, h₂, h₃⟩ := h
  constructor <;> simp_all

theorem Part.claims {c : Instr} {s t : State} (h : Part c s t) (hs : ClaimsFiled s) : ClaimsFiled t := by
  cases h with
  | aside h =>
    exact hs.of_eq (by rw [h.budget]) (by rw [h.steering]) (by rw [h.drive]) (by rw [h.winch]) (by rw [h.lights])
  | steering _ => exact hs.putSteering _
  | drive _ => exact hs.putDrive _
  | winch _ => exact hs.putWinch _
  | lights _ => exact hs.putLights _
  | budget _ _ => exact hs.of_eq (by simp) (by simp) (by simp) (by simp) (by simp)

/-! ## Load complete, taken apart -/

/-- The part at load complete, as DRV takes it: the tables, the levels, the run state and STC's mode are in place. -/
def loadBegun (v : Vector Level 4) (s : State) : State :=
  steeringLoaded (putRun .wait (acceptLevels v (loadTables s)))

/-- DRV's state at load complete, before its first computation. -/
def driveStarted (s : State) : Drive :=
  { s.drive with s4Active := true, s5Active := true, period := startTimer s.tables.drive.servoPeriod s.drive.period }

theorem driveLoaded_eq (s : State) : driveLoaded s = driveCompute { s with drive := driveStarted s } := rfl

theorem loadCompleted_eq (v : Vector Level 4) (a b : Level) (s : State) :
    loadCompleted v a b s =
      lightsStartUp (batteryLoaded (winchLoaded a b (driveCompute
        { loadBegun v s with drive := driveStarted (loadBegun v s) }))) := rfl

theorem loadCompleted_claims {s : State} (h : ClaimsFiled s) (v : Vector Level 4) (a b : Level) :
    ClaimsFiled (loadCompleted v a b s) := by
  rw [loadCompleted_eq]
  have hbegun : ClaimsFiled { loadBegun v s with drive := driveStarted (loadBegun v s) } := by
    refine h.of_eq ?_ ?_ ?_ ?_ ?_ <;> simp [loadBegun, steeringLoaded, driveStarted]
  have hdrive : ClaimsFiled (driveCompute { loadBegun v s with drive := driveStarted (loadBegun v s) }) :=
    hbegun.putDrive _
  generalize driveCompute { loadBegun v s with drive := driveStarted (loadBegun v s) } = u at hdrive
  have hbattery : ClaimsFiled (batteryLoaded (winchLoaded a b u)) := hdrive.of_eq rfl rfl rfl rfl rfl
  exact hbattery.putLights _

/-- A property of the part that every part of a change, and load complete, keep. -/
theorem Move.keeps {P : State → Prop} {c : Instr} (hpart : ∀ s t, Part c s t → P s → P t)
    (hload : ∀ v a b s, s.heldInReset = false → s.store.loaded = false → P s → P (loadCompleted v a b s))
    {s t : State} (h : Move c s t) (hs : P s) : P t := by
  rcases h.parts with ⟨v, a, b, _, hheld, hloaded, rfl⟩ | h
  · exact hload v a b s hheld hloaded hs
  · exact h.keeps hpart hs

theorem Moves.keeps_parts {P : State → Prop} {c : Instr} (hpart : ∀ s t, Part c s t → P s → P t)
    (hload : ∀ v a b s, s.heldInReset = false → s.store.loaded = false → P s → P (loadCompleted v a b s))
    {s t : State} (h : Moves c s t) (hs : P s) : P t :=
  h.keeps (fun _ _ hm => hm.keeps hpart hload) hs

theorem claimsFiled_resetLeaving (k : ResetKind) (d : Bool) (s : State) : ClaimsFiled (resetLeaving k d s) := by
  cases k <;> exact ⟨rfl, rfl, rfl, rfl⟩

/-! ## Grants (R164) -/

@[simp] theorem putDrive_grant (x : Drive) (s : State) : (putDrive x s).budget.grant = s.budget.grant := by
  simp [putDrive]

@[simp] theorem setFlags_budget_grant (fs : List Flag) (s : State) :
    (setFlags fs s).budget.grant = s.budget.grant := rfl

@[simp] theorem onWinchEvent_grant (f : WinchContext → Winch → WinchStep) (s : State) :
    (onWinchEvent f s).budget.grant = s.budget.grant := by
  simp [onWinchEvent, putWinch]

@[simp] theorem putLights_grant (x : Lights) (s : State) : (putLights x s).budget.grant = s.budget.grant := by
  simp

theorem Part.grant {c : Instr} {s t : State} (h : Part c s t) (hc : c ≠ .budgetTimerExpiry) :
    t.budget.grant = s.budget.grant := by
  cases h with
  | aside h => rw [h.budget]
  | steering _ => simp
  | drive _ => simp
  | winch _ => simp
  | lights _ => simp
  | budget hb _ => exact absurd hb hc

@[simp] theorem batteryLoaded_grant (s : State) : (batteryLoaded s).budget.grant = s.budget.grant := rfl

theorem loadCompleted_grant (v : Vector Level 4) (a b : Level) (s : State) :
    (loadCompleted v a b s).budget.grant = s.budget.grant := by
  simp [loadCompleted_eq, lightsStartUp, driveCompute, loadBegun]

/-- Settles O50: each block files what it puts in place, and only the computation writes grants. -/
theorem claimsAndGrantsBetweenComputations : Obligations.ClaimsAndGrantsBetweenComputations := by
  refine ⟨fun s t hs h => ?_, fun c s t h => ?_⟩
  · refine step_keeps (fun _ _ h => { h with }) (fun c s t hm => ?_) (fun k d s _ => claimsFiled_resetLeaving k d s) hs h
    exact hm.keeps (fun _ _ h => h.claims) fun v a b s _ _ h => loadCompleted_claims h v a b
  · by_cases hc : c = .budgetTimerExpiry
    · exact .inr (.inl hc)
    · rcases exec_ran h with hm | ⟨k, d, u, hm, rfl⟩
      · exact .inl (hm.keeps_parts (P := fun x => x.budget.grant = s.budget.grant)
          (fun _ _ hp hx => (hp.grant hc).trans hx) (fun v a b x _ _ hx => (loadCompleted_grant v a b x).trans hx) rfl)
      · exact .inr (.inr rfl)

end Sys2Proof.Machine


/-! Invariants kept part by part: the corners' positions (R56), the steer mode (R64), the line count (R97), the sticky
flags (R174), and what runs from load complete on (R181). -/

namespace Sys2Proof.Machine

/-! ## Commands that run as parts alone -/

/-- Either a command runs as parts, ended by a reset or not, or it is load complete. -/
theorem exec_parts {c : Instr} {s t : State} (h : exec c s = .next t)
    (hc : ∀ in0 in1 in2 in3 enca encb, c ≠ .loadComplete in0 in1 in2 in3 enca encb) :
    Parts c s t ∨ ∃ k d u, Parts c s u ∧ t = resetLeaving k d u := by
  have hparts {u : State} (hm : Moves c s u) : Parts c s u := by
    refine hm.keeps (P := fun x => Parts c s x) (fun x y hxy hx => ?_) .refl
    rcases hxy.parts with ⟨_, _, _, ⟨_, _, _, _, _, _, hl⟩, _⟩ | hp
    · exact absurd hl (hc _ _ _ _ _ _)
    · exact hx.trans hp
  rcases exec_ran h with hm | ⟨k, d, u, hm, rfl⟩
  · exact .inl (hparts hm)
  · exact .inr ⟨k, d, u, hparts hm, rfl⟩

/-! ## Positions and the steer mode (R54, R56, R64) -/

theorem Part.position {c : Instr} {s t : State} (h : Part c s t) (hc : c ≠ .servoPeriodStart) (k : Fin 4) :
    t.steering.corners[k].position = s.steering.corners[k].position := by
  cases h with
  | aside h => rw [h.steering]
  | steering h =>
    rw [putSteering_steering]
    cases h with
    | update r => exact ((steeringUpdate_takes _ _ _).corner k).1
    | period hp => exact absurd hp hc
    | refile => rfl
  | drive _ => simp
  | winch _ => simp
  | lights _ => simp
  | budget _ _ => simp

theorem Part.mode {c : Instr} {s t : State} (h : Part c s t) (hc : c ≠ .servoPeriodStart) :
    t.steering.mode = s.steering.mode := by
  cases h with
  | aside h => rw [h.steering]
  | steering h =>
    rw [putSteering_steering]
    cases h with
    | update r => exact (steeringUpdate_takes _ _ _).mode
    | period hp => exact absurd hp hc
    | refile => rfl
  | drive _ => simp
  | winch _ => simp
  | lights _ => simp
  | budget _ _ => simp

theorem loadCompleted_steering (v : Vector Level 4) (a b : Level) (s : State) :
    (loadCompleted v a b s).steering =
      { s.steering with mode := (loadTables s).tables.steer.defaultMode
                        requested := (loadTables s).tables.steer.defaultMode } := by
  simp [loadCompleted_eq, lightsStartUp, batteryLoaded, loadBegun, steeringLoaded]

theorem exec_loadComplete (i₀ i₁ i₂ i₃ a b : Level) (s : State) :
    exec (.loadComplete i₀ i₁ i₂ i₃ a b) s =
      .next (if !s.heldInReset && !s.store.loaded then loadCompleted #v[i₀, i₁, i₂, i₃] a b s else s) := rfl

theorem exec_servoPeriodStart (s : State) :
    exec .servoPeriodStart s = .next (if s.drive.period.running then servoPeriodStarted s else s) := rfl

theorem slewToward_within {step : Nat} {a t : Int} (h : (t - a).natAbs ≤ step) : slewToward step a t = t := if_pos h

theorem slewToward_beyond {step : Nat} {a t : Int} (h : step < (t - a).natAbs) :
    (slewToward step a t - a).natAbs = step ∧ (t - slewToward step a t).natAbs + step = (t - a).natAbs := by
  rw [slewToward, if_neg (by omega)]
  split <;> omega

theorem slewToward_step (step : Nat) (a t : Int) : (slewToward step a t - a).natAbs ≤ step := by
  rcases Nat.lt_or_ge step (t - a).natAbs with h | h
  · exact (slewToward_beyond h).1.le
  · rw [slewToward_within h]
    exact h

theorem effectiveStep_le {slew : Nat} (h : 1 ≤ slew) (grant demand : Nat) : effectiveStep slew grant demand ≤ slew := by
  unfold effectiveStep
  split
  · next hd =>
    refine Nat.max_le.mpr ⟨h, ?_⟩
    exact Nat.div_le_of_le_mul (by rw [Nat.mul_comm demand]; exact Nat.mul_le_mul_left _ hd.2.le)
  · exact le_rfl

theorem alignCheck_position (t : Tables) (w : WinchState) (x : Steering) (k : Fin 4) :
    (alignCheck t w x).corners[k].position = x.corners[k].position := by
  unfold alignCheck
  split
  · rfl
  · split
    · split
      · rfl
      · rw [steerCompute, withTargets_corner]
    · rfl

/-- STC's corners moved at a servo-period start, before the check of ALIGN (R54 to R57). -/
def movedCorners (t : Tables) (grant : Nat) (x : Steering) : Steering :=
  { x with corners := tab fun c => moveCorner t.corner[c] grant x.filed x.corners[c] }

theorem steeringPeriod_active {t : Tables} {grant : Nat} {w : WinchState} {x : Steering} (h : x.active = true) :
    steeringPeriod t grant w x = steerFile t.steer (alignCheck t w (movedCorners t grant x)) := if_pos h

theorem steeringPeriod_off {t : Tables} {grant : Nat} {w : WinchState} {x : Steering} (h : x.active = false) :
    steeringPeriod t grant w x = x := if_neg (by simp [h])

theorem movedCorners_corner (t : Tables) (grant : Nat) (x : Steering) (k : Fin 4) :
    (movedCorners t grant x).corners[k] = moveCorner t.corner[k] grant x.filed x.corners[k] := tab_get _ k

theorem steeringPeriod_position (t : Tables) (grant : Nat) (w : WinchState) (x : Steering) (k : Fin 4) :
    (steeringPeriod t grant w x).corners[k].position =
      if x.active then
        slewToward (effectiveStep t.corner[k].slewStep grant x.filed) x.corners[k].position x.corners[k].target
      else x.corners[k].position := by
  by_cases h : x.active = true
  · rw [steeringPeriod_active h, if_pos h]
    refine (alignCheck_position t w _ k).trans ?_
    rw [movedCorners_corner]
    rfl
  · rw [steeringPeriod_off (by simpa using h), if_neg h]

theorem servoPeriodStarted_steering (s : State) :
    (servoPeriodStarted s).steering = steeringPeriod s.tables (grantOf s 0) s.winch.state s.steering := by
  simp [servoPeriodStarted, steeringTakesPeriod, grantOf, startPeriod]

theorem servoPeriodStarted_position (s : State) (k : Fin 4) :
    (servoPeriodStarted s).steering.corners[k].position =
      if s.steering.active then
        slewToward (effectiveStep s.tables.corner[k].slewStep (grantOf s 0) s.steering.filed)
          s.steering.corners[k].position s.steering.corners[k].target
      else s.steering.corners[k].position := by
  simp only [servoPeriodStarted_steering, steeringPeriod_position]

/-- Settles O36: the step of R56, and no other operation of STC moves a corner. -/
theorem positionsMoveOnlyAtPeriodStarts : Obligations.PositionsMoveOnlyAtPeriodStarts := by
  refine ⟨fun step a t => ⟨slewToward_within, slewToward_beyond⟩, fun c s t h => ?_⟩
  have hstill (k : Fin 4) (heq : t.steering.corners[k].position = s.steering.corners[k].position) :
      (c ≠ .servoPeriodStart → t.steering.corners[k].position = s.steering.corners[k].position)
        ∧ (1 ≤ s.tables.corner[k].slewStep →
            (t.steering.corners[k].position - s.steering.corners[k].position).natAbs
              ≤ s.tables.corner[k].slewStep) := ⟨fun _ => heq, fun _ => by rw [heq]; simp⟩
  by_cases hc : c = .servoPeriodStart
  · subst hc
    rw [exec_servoPeriodStart] at h
    injection h with h
    subst h
    refine .inr fun k => ⟨fun hne => absurd rfl hne, fun hslew => ?_⟩
    split
    · rw [servoPeriodStarted_position]
      split
      · exact (slewToward_step _ _ _).trans (effectiveStep_le hslew _ _)
      · simp
    · simp
  · rcases exec_ran h with hm | ⟨k, d, u, hm, rfl⟩
    · refine .inr fun k => hstill k (hm.keeps_parts
        (P := fun x => x.steering.corners[k].position = s.steering.corners[k].position)
        (fun _ _ hp hx => (hp.position hc k).trans hx) (fun v a b x _ _ hx => ?_) rfl)
      rw [loadCompleted_steering]
      exact hx
    · exact .inl rfl

/-! ## The line count (R97) -/

theorem winchFaulted_begin_count (c : WinchContext) (cause : FaultCause) {v w : Winch} (h : CountKept v w) :
    CountKept v (winchFaulted c cause (winchBegin w)).winch :=
  (winchFaulted_count c cause (winchBegin w)).after h

theorem WinchOp.line_eq {i : Instr} {s : State} {f : WinchContext → Winch → WinchStep} (h : WinchOp i s f)
    (hi : ∀ a b, i ≠ .encoderCount a b) (c : WinchContext) (w : Winch) :
    (f c w).winch.line = w.line ∨ (f c w).winch.line = 0 := by
  cases h with
  | update r => exact .inl (winchUpdate_count c r w).line
  | runChange => exact .inl (winchRunChange_count c w).line
  | protChange => exact .inl (winchProtChange_count c w).line
  | written => exact .inl (winchWritten_count c w).line
  | current v => exact .inl rfl
  | temp v => exact .inl (winchTemp_count c v w).line
  | line n active =>
    by_cases hn : n = 0 ∧ active = true
    · obtain ⟨rfl, rfl⟩ := hn
      exact .inr (winchHomeEvent_count c w).line
    · exact .inl (winchLineEvent_count c hn w).line
  | encoder a b hc => exact absurd hc (hi a b)
  | event hf =>
    cases hf with
    | enterSetup _ => exact .inl (winchEnterSetup_count c w).line
    | homed _ _ => exact .inr rfl
    | clear _ _ => exact .inl (winchCleared_count c w).line
    | tick _ => exact .inl (winchTick_count c w).line
    | stall _ => exact .inl (winchFaulted_begin_count c .stall ⟨rfl, rfl⟩).line
    | noMotion _ => exact .inl (winchFaulted_begin_count c .noMotion ⟨rfl, rfl⟩).line
    | clutch _ => exact .inl (winchFaulted_begin_count c .clutch ⟨rfl, rfl⟩).line

theorem Part.line_eq {c : Instr} {s t : State} (h : Part c s t) (hc : ∀ a b, c ≠ .encoderCount a b) :
    t.winch.line = s.winch.line ∨ t.winch.line = 0 := by
  cases h with
  | aside h => exact .inl (by rw [h.winch])
  | steering _ => simp
  | drive _ => simp
  | winch h =>
    rw [onWinchEvent_winch]
    exact h.line_eq hc _ _
  | lights _ => simp
  | budget _ _ => simp

theorem loadCompleted_line (v : Vector Level 4) (a b : Level) (s : State) :
    (loadCompleted v a b s).winch.line = s.winch.line := by
  simp [loadCompleted_eq, lightsStartUp, batteryLoaded, loadBegun, winchLoaded, winchPlaced]

theorem encoderStep_cases (w : Winch) (a b : Level) :
    encoderStep w a b = 0 ∨ encoderStep w a b = 1 ∨ encoderStep w a b = -1 := by
  unfold encoderStep
  split <;> [simp; split] <;> simp

theorem winchEncoder_line (c : WinchContext) (a b : Level) (w : Winch) :
    (winchEncoder c a b w).winch.line =
      if encoderStep w a b = 0 ∨ Config.lineEndstop < (w.line + encoderStep w a b).natAbs then w.line
      else w.line + encoderStep w a b := by
  simp only [winchEncoder]
  split
  · rfl
  · exact (winchCounted_count c _ _).line

theorem exec_encoderCount (a b : Level) (s : State) :
    exec (.encoderCount a b) s =
      .next (if s.winch.ticking then onWinchEvent (fun c w => winchEncoder c a b w) s else s) := rfl

/-- The line count moves by one step of the encoder, or becomes 0. -/
theorem exec_line {c : Instr} {s t : State} (h : exec c s = .next t) (hne : t.winch.line ≠ s.winch.line) :
    t.winch.line = 0
      ∨ ∃ a b, c = .encoderCount a b ∧ (t.winch.line = s.winch.line + 1 ∨ t.winch.line = s.winch.line - 1) := by
  by_cases hc : ∃ a b, c = .encoderCount a b
  · obtain ⟨a, b, rfl⟩ := hc
    rw [exec_encoderCount] at h
    injection h with h
    subst h
    refine .inr ⟨a, b, rfl, ?_⟩
    split at hne
    · next hticking =>
      rw [if_pos hticking, onWinchEvent_winch, winchEncoder_line]
      rw [onWinchEvent_winch, winchEncoder_line] at hne
      split
      · next hno => exact absurd (if_pos hno) hne
      · rcases encoderStep_cases s.winch a b with h0 | h1 | h1
        · simp_all
        · exact .inl (by rw [h1])
        · exact .inr (by rw [h1]; rfl)
    · exact absurd rfl hne
  · have hmoves {u : State} (hm : Moves c s u) : u.winch.line = s.winch.line ∨ u.winch.line = 0 := by
      refine hm.keeps_parts (P := fun x => x.winch.line = s.winch.line ∨ x.winch.line = 0) (fun x y hp hx => ?_)
        (fun v a b x _ _ hx => by rw [loadCompleted_line]; exact hx) (.inl rfl)
      rcases hp.line_eq (fun a b h => hc ⟨a, b, h⟩) with hy | hy
      · rwa [hy]
      · exact .inr hy
    rcases exec_ran h with hm | ⟨k, d, u, hm, rfl⟩
    · exact .inl ((hmoves hm).resolve_left hne)
    · cases k with
      | powerOn => exact .inl rfl
      | brownOut => exact .inl rfl
      | soft => exact .inl ((hmoves hm).resolve_left hne)

/-! ## The sticky flags (R174) -/

theorem setFlags_keeps (fs : List Flag) (s : State) (i : Fin 15) (h : s.inputs.flags[i] = true) :
    (setFlags fs s).inputs.flags[i] = true := by
  simp only [setFlags]
  induction fs generalizing s with
  | nil => exact h
  | cons f fs ih => exact ih (setFlag f s) (raiseFlag_keeps f s.inputs i h)

theorem Part.flags {c : Instr} {s t : State} (h : Part c s t) (hc : c ≠ .replyComplete) (i : Fin 15)
    (hi : s.inputs.flags[i] = true) : t.inputs.flags[i] = true := by
  cases h with
  | aside h => exact h.flags hc i hi
  | steering _ => simpa using hi
  | drive _ => simpa using hi
  | winch _ =>
    rw [onWinchEvent, putWinch, lightEvents_inputs]
    exact setFlags_keeps _ _ i hi
  | lights _ => simpa using hi
  | budget _ _ => simpa using hi

theorem loadCompleted_flags (v : Vector Level 4) (a b : Level) (s : State) (i : Fin 15)
    (hi : s.inputs.flags[i] = true) : (loadCompleted v a b s).inputs.flags[i] = true := by
  have hload : (loadTables s).inputs.flags[i] = true := by
    unfold loadTables
    split
    · exact hi
    · exact raiseFlag_keeps _ s.inputs i hi
  simpa [loadCompleted_eq, lightsStartUp, batteryLoaded, loadBegun, acceptLevels] using hload

theorem clearReported_reported (t : Vector InputEntry 4) (x : Inputs) : (clearReported t x).reported = none := by
  unfold clearReported
  split
  · assumption
  · rfl

/-- A flag that `clearReported` clears is of the reported set. -/
theorem clearReported_clears {t : Vector InputEntry 4} {x : Inputs} {i : Fin 15} (h : x.flags[i] = true)
    (hc : (clearReported t x).flags[i] = false) : ∃ r, x.reported = some r ∧ r[i] = true := by
  unfold clearReported at hc
  split at hc
  · simp_all
  · next r hr =>
    refine ⟨r, hr, ?_⟩
    rw [tab_get, h] at hc
    simpa using hc

/-- What the notices of a reply's completion leave of the flags: those of the reported set are cleared by the STATUS
notice, and a soft reset makes the link new. -/
def NoticesLeave (s t : State) : Prop :=
  { t.link with discarding := false } = linkAfterReset
    ∨ (t.inputs.reported = none ∨ t.inputs.reported = s.inputs.reported)
      ∧ ∀ i : Fin 15, s.inputs.flags[i] = true → t.inputs.flags[i] = false →
          carries .statusReport s.link.reply ∧ ∃ r, s.inputs.reported = some r ∧ r[i] = true

theorem NoticesLeave.completed {s t : State} (h : NoticesLeave s t) {n : Notice} (hn : carries n s.link.reply) :
    NoticesLeave s (noticeCompleted n t) := by
  cases n with
  | softReset => exact .inl rfl
  | statusReport =>
    rcases h with h | ⟨hreported, hflags⟩
    · exact .inl h
    · refine .inr ⟨.inl (clearReported_reported _ _), fun i hi hc => ⟨hn, ?_⟩⟩
      by_cases ht : t.inputs.flags[i] = true
      · obtain ⟨r, hr, hri⟩ := clearReported_clears ht hc
        rcases hreported with hnone | hsame
        · simp [hnone] at hr
        · exact ⟨r, hsame ▸ hr, hri⟩
      · exact (hflags i hi (by simpa using ht)).2

theorem completeReply_leaves (s : State) : NoticesLeave s (completeReply s) := by
  have hself : NoticesLeave s s := .inr ⟨.inr rfl, fun i h k => by simp [h] at k⟩
  unfold completeReply
  split
  · next r hr =>
    have hcarried : ∀ n ∈ r.notices, carries n s.link.reply := fun n hn => ⟨r, by rw [hr]; rfl, hn⟩
    have hsent : NoticesLeave s (telemetrySent r (putReceiver receiverHunting (putReply .empty s))) :=
      .inr ⟨.inr (by simp), fun i h k => by simp [h] at k⟩
    generalize telemetrySent r (putReceiver receiverHunting (putReply .empty s)) = u at hsent ⊢
    generalize r.notices = ns at hcarried
    induction ns generalizing u with
    | nil => exact hsent
    | cons n ns ih =>
      exact ih _ (hsent.completed (hcarried n (by simp))) fun m hm => hcarried m (List.mem_cons_of_mem n hm)
  · exact hself
  · exact hself

/-- Settles O52: no part clears a flag; the end of a reply delivers its notices. -/
theorem flagsAreClearedOnlyByReadOrReset : Obligations.FlagsAreClearedOnlyByReadOrReset := by
  intro c s t i h hset hclear
  by_cases hc : c = .replyComplete
  · subst hc
    injection h with h
    subst h
    rcases completeReply_leaves s with hl | ⟨_, hflags⟩
    · exact .inr hl
    · exact .inl ⟨rfl, hflags i hset hclear⟩
  · rcases exec_ran h with hm | ⟨k, d, u, hm, rfl⟩
    · have hkept : t.inputs.flags[i] = true := hm.keeps_parts (P := fun x => x.inputs.flags[i] = true)
        (fun _ _ hp hx => hp.flags hc i hx) (fun v a b x _ _ hx => loadCompleted_flags v a b x i hx) hset
      rw [hkept] at hclear
      cases hclear
    · exact .inr rfl

end Sys2Proof.Machine


/-! What runs from load complete to the next reset runs exactly then (R14, R71, R89, R117, R128, R159, R171, R181). -/

namespace Sys2Proof.Machine

/-! ## The ramp tick runs on through every event of WCH (R89) -/

section Ticking

variable (c : WinchContext) (w : Winch) (x : WinchStep)

@[simp] theorem enterWinch_ticking (st : WinchState) (d : Direction) :
    (enterWinch c st d x).winch.ticking = x.winch.ticking := rfl
@[simp] theorem refile_ticking : (refile c x).winch.ticking = x.winch.ticking := rfl
@[simp] theorem retarget_ticking : (retarget c x).winch.ticking = x.winch.ticking := rfl

@[simp] theorem tryRelease_ticking : (tryRelease c x).winch.ticking = x.winch.ticking := by
  unfold tryRelease
  split <;> simp

@[simp] theorem toIdle_ticking : (toIdle c x).winch.ticking = x.winch.ticking := by
  simp [toIdle]

@[simp] theorem toRampDown_ticking : (toRampDown c x).winch.ticking = x.winch.ticking := rfl
@[simp] theorem toHauling_ticking (st : WinchState) (d : Direction) :
    (toHauling c st d x).winch.ticking = x.winch.ticking := rfl

@[simp] theorem toClutchIn_ticking : (toClutchIn c x).winch.ticking = x.winch.ticking := by
  simp only [toClutchIn]
  split <;> simp

@[simp] theorem winchFaulted_ticking (cause : FaultCause) : (winchFaulted c cause x).winch.ticking = x.winch.ticking := by
  unfold winchFaulted
  split <;> rfl

@[simp] theorem actOnRequest_ticking : (actOnRequest c x).winch.ticking = x.winch.ticking := by
  unfold actOnRequest
  split <;> [split; skip] <;> simp

@[simp] theorem actOnCommand_ticking : (actOnCommand c x).winch.ticking = x.winch.ticking := by
  simp only [actOnCommand]
  repeat' split
  all_goals simp

@[simp] theorem winchHalt_ticking (returns : Bool) : (winchHalt c returns w).winch.ticking = w.ticking := by
  simp only [winchHalt]
  split <;> [skip; split] <;> simp

@[simp] theorem lineEndStep_ticking (d : Int) : (lineEndStep c d w).winch.ticking = w.ticking := by
  unfold lineEndStep
  split <;> [split; skip] <;> simp

theorem winchEncoder_ticking (a b : Level) : (winchEncoder c a b w).winch.ticking = w.ticking := by
  simp only [winchEncoder, winchCounted_eq]
  split <;> [skip; split] <;> simp [countedWinch]

theorem winchTick_ticking : (winchTick c w).winch.ticking = w.ticking := by
  simp only [winchTick]
  split <;> simp [rampTimers, rampMove]

theorem winchLineEvent_ticking (n : Fin 4) (active : Bool) : (winchLineEvent n active c w).winch.ticking = w.ticking := by
  unfold winchLineEvent winchHomeEvent winchEngaged winchDisengaged
  repeat' split
  all_goals simp

theorem WinchOp.ticking {i : Instr} {s : State} {f : WinchContext → Winch → WinchStep} (h : WinchOp i s f) :
    (f c w).winch.ticking = w.ticking := by
  cases h with
  | update r => simp [winchUpdate, evaluateRequest]
  | runChange => unfold winchRunChange; split <;> simp
  | protChange => unfold winchProtChange; split <;> simp
  | written => simp [winchWritten, evaluateRequest]
  | current v => rfl
  | temp v => simp only [winchTemp]; split <;> simp
  | line n active => exact winchLineEvent_ticking c w n active
  | encoder a b _ => exact winchEncoder_ticking c w a b
  | event hf =>
    cases hf with
    | enterSetup _ => unfold winchEnterSetup; split <;> simp
    | homed _ _ => rfl
    | clear _ _ => simp only [winchCleared]; split <;> simp
    | tick _ => exact winchTick_ticking c w
    | stall _ => simp [stallExpired]
    | noMotion _ => simp [noMotionExpired]
    | clutch _ => simp [clutchExpired]

end Ticking

/-! ## The cue tick, the PWM cycles and the budget timer run on -/

theorem compose_frame (t : Tables) (grant : Nat) (x : Lights) :
    (compose t grant x).ticking = x.ticking ∧ (compose t grant x).pwm = x.pwm := ⟨rfl, rfl⟩

theorem lightsTick_frame (t : Tables) (grant : Nat) (x : Lights) :
    (lightsTick t grant x).ticking = x.ticking ∧ (lightsTick t grant x).pwm = x.pwm := by
  simp only [lightsTick]
  split <;> exact ⟨rfl, rfl⟩

theorem LightsOp.frame {s : State} {x : Lights} (h : LightsOp s x) :
    x.ticking = s.lights.ticking ∧ x.pwm = s.lights.pwm := by
  cases h with
  | event m => exact (lightsEvent_frame _ _ _ _ _).2
  | update b m scene => exact (lightsEvent_frame _ _ _ _ _).2
  | recompose => exact ⟨rfl, rfl⟩
  | cueWritten k => exact ⟨rfl, rfl⟩
  | restored => exact ⟨rfl, rfl⟩
  | tick => exact lightsTick_frame _ _ _

theorem fileClaim_timer (c : Fin 4) (filed evaluated : Nat) (b : Budget) :
    (fileClaim c filed evaluated b).timer = b.timer := by
  rw [fileClaim_eq]

/-- LTC's and CBU's units run as they did. -/
structure UnitsStand (s t : State) : Prop where
  ticking : t.lights.ticking = s.lights.ticking
  pwm : t.lights.pwm = s.lights.pwm
  timer : t.budget.timer = s.budget.timer

theorem UnitsStand.after {s t u : State} (k : UnitsStand t u) (h : UnitsStand s t) : UnitsStand s u :=
  ⟨k.ticking.trans h.ticking, k.pwm.trans h.pwm, k.timer.trans h.timer⟩

theorem putLights_units {x : Lights} {s : State} (h : x.ticking = s.lights.ticking ∧ x.pwm = s.lights.pwm) :
    UnitsStand s (putLights x s) := ⟨h.1, h.2, fileClaim_timer ..⟩

theorem lightEvents_units (ms : List LightMsg) (s : State) : UnitsStand s (lightEvents ms s) := by
  induction ms generalizing s with
  | nil => exact ⟨rfl, rfl, rfl⟩
  | cons m ms ih => exact (ih _).after (putLights_units (LightsOp.frame (.event m)))

theorem putSteering_units (x : Steering) (s : State) : UnitsStand s (putSteering x s) :=
  (lightEvents_units _ _).after ⟨rfl, rfl, fileClaim_timer ..⟩

theorem putDrive_units (x : Drive) (s : State) : UnitsStand s (putDrive x s) :=
  (lightEvents_units _ _).after ⟨rfl, rfl, fileClaim_timer ..⟩

theorem onWinchEvent_units (f : WinchContext → Winch → WinchStep) (s : State) : UnitsStand s (onWinchEvent f s) :=
  (lightEvents_units _ _).after ⟨rfl, rfl, fileClaim_timer ..⟩

/-! ## From load complete on -/

/-- Every unit runs: what `StartUp` says once the load state is LOADED. -/
structure UnitsRun (s : State) : Prop where
  loaded : s.store.loaded = true
  run : s.link.run ≠ .init
  held : s.heldInReset = false
  period : s.drive.period.running = true
  rampTick : s.winch.ticking = true
  cueTick : s.lights.ticking = true
  pwm : s.lights.pwm = true
  budget : s.budget.timer.running = true
  sampleTick : s.inputs.ticking = true
  s4 : s.drive.s4Active = true
  s5 : s.drive.s5Active = true

theorem StartUp.unitsRun {s : State} (h : StartUp s) (hl : s.store.loaded = true) : UnitsRun s where
  loaded := hl
  run hr := by simpa [hl] using h.initLoading.mp hr
  held := by
    by_contra hh
    simpa [hl] using h.held (by simpa using hh)
  period := h.period.trans hl
  rampTick := h.rampTick.trans hl
  cueTick := h.cueTick.trans hl
  pwm := h.pwm.trans hl
  budget := h.budget.trans hl
  sampleTick := h.sampleTick.trans hl
  s4 := h.s4.trans hl
  s5 := h.s5.trans hl

theorem UnitsRun.startUp {s : State} (h : UnitsRun s) (s6 : s.drive.s6Active = s.steering.active) : StartUp s where
  initLoading := iff_of_false h.run (by simp [h.loaded])
  held hh := by simp [h.held] at hh
  period := h.period.trans h.loaded.symm
  rampTick := h.rampTick.trans h.loaded.symm
  cueTick := h.cueTick.trans h.loaded.symm
  pwm := h.pwm.trans h.loaded.symm
  budget := h.budget.trans h.loaded.symm
  sampleTick := h.sampleTick.trans h.loaded.symm
  s4 := h.s4.trans h.loaded.symm
  s5 := h.s5.trans h.loaded.symm
  s6 := s6
  scanner hl := by simp [h.loaded] at hl
  corners hl := by simp [h.loaded] at hl
  winch hl := by simp [h.loaded] at hl
  records hl := by simp [h.loaded] at hl

theorem UnitsRun.of_stand {s t : State} (h : UnitsRun s) (k : UnitsStand s t)
    (hloaded : t.store.loaded = s.store.loaded) (hrun : t.link.run = .init ↔ s.link.run = .init)
    (hheld : t.heldInReset = true → s.heldInReset = true)
    (hperiod : s.drive.period.running = true → t.drive.period.running = true)
    (hwinch : t.winch.ticking = s.winch.ticking) (hinputs : t.inputs.ticking = s.inputs.ticking)
    (hs4 : t.drive.s4Active = s.drive.s4Active) (hs5 : t.drive.s5Active = s.drive.s5Active) : UnitsRun t where
  loaded := hloaded.trans h.loaded
  run hr := h.run (hrun.mp hr)
  held := by
    by_contra hh
    simpa [h.held] using hheld (by simpa using hh)
  period := hperiod h.period
  rampTick := hwinch.trans h.rampTick
  cueTick := k.ticking.trans h.cueTick
  pwm := k.pwm.trans h.pwm
  budget := by rw [k.timer]; exact h.budget
  sampleTick := hinputs.trans h.sampleTick
  s4 := hs4.trans h.s4
  s5 := hs5.trans h.s5

theorem Part.unitsRun {c : Instr} {s t : State} (h : Part c s t) (hs : UnitsRun s) : UnitsRun t := by
  cases h with
  | aside h =>
    exact hs.of_stand ⟨by rw [h.lights], by rw [h.lights], by rw [h.budget]⟩ h.loaded h.run h.held
      (by rw [h.drive]; exact id) (by rw [h.winch]) h.ticking (by rw [h.drive]) (by rw [h.drive])
  | steering _ =>
    exact hs.of_stand (putSteering_units _ _) (by simp) (by simp) (by simp) (by simp) (by simp) (by simp) (by simp)
      (by simp)
  | drive h =>
    exact hs.of_stand (putDrive_units _ _) (by simp) (by simp) (by simp) (by simpa using h.period) (by simp) (by simp)
      (by simpa using h.s4Active) (by simpa using h.s5Active)
  | winch h =>
    exact hs.of_stand (onWinchEvent_units _ _) (by simp) (by simp) (by simp) (by simp)
      (by rw [onWinchEvent_winch]; exact h.ticking _ _) (by simp) (by simp) (by simp)
  | lights h =>
    exact hs.of_stand (putLights_units h.frame) (by simp) (by simp) (by simp) (by simp) (by simp) (by simp) (by simp)
      (by simp)
  | budget _ _ =>
    exact { hs with period := by simpa using hs.period, budget := rfl, loaded := by simpa using hs.loaded
                    run := by simpa using hs.run, held := by simpa using hs.held
                    rampTick := by simpa using hs.rampTick, cueTick := by simpa using hs.cueTick
                    pwm := by simpa using hs.pwm, sampleTick := by simpa using hs.sampleTick
                    s4 := by simpa using hs.s4, s5 := by simpa using hs.s5 }

/-! ## S6 is ACTIVE together with S0 to S3 (R73) -/

theorem steeringPeriod_activeState (t : Tables) (grant : Nat) (w : WinchState) (x : Steering) :
    (steeringPeriod t grant w x).active = x.active := by
  by_cases h : x.active = true
  · rw [steeringPeriod_active h]
    unfold alignCheck
    split <;> [rfl; split] <;> [split; rfl] <;> rfl
  · rw [steeringPeriod_off (by simpa using h)]

/-- Every change leaves both pulse states as they are, or makes both ACTIVE. -/
def PulsesTogether (s t : State) : Prop :=
  (t.drive.s6Active = s.drive.s6Active ∧ t.steering.active = s.steering.active)
    ∨ (t.drive.s6Active = true ∧ t.steering.active = true)

theorem PulsesTogether.of_drive {s t : State} (hdrive : t.drive = s.drive) (hsteering : t.steering = s.steering) :
    PulsesTogether s t := .inl ⟨by rw [hdrive], by rw [hsteering]⟩

theorem functionUpdate_pulses (r : FunctionRecord) (s : State) : PulsesTogether s (functionUpdate r s) :=
  .inr ⟨by rw [functionUpdate_drive], by rw [functionUpdate_steering]; exact (steeringUpdate_takes _ _ _).active⟩

theorem deliverRun_pulses (n : RunState) (s : State) : PulsesTogether s (deliverRun n s) :=
  .inl ⟨by rw [deliverRun_drive]; rfl, by simp⟩

theorem deliverProtection_pulses (p : Protection) (s : State) : PulsesTogether s (deliverProtection p s) :=
  .inl ⟨by simp [deliverProtection, throttlePath], by simp⟩

@[simp] theorem evaluatePass_s6 (l : Vector ScanEntry 8) (s : State) :
    (evaluatePass l s).drive.s6Active = s.drive.s6Active := by
  simp only [evaluatePass]
  split <;> [split; skip]
  · rfl
  · simp [deliverProtection, throttlePath]
  · rfl

theorem conversionEnded_pulses (x : SenseInputs) (s : State) : PulsesTogether s (conversionEnded x s) := by
  refine .inl ⟨?_, by simp⟩
  simp only [conversionEnded, completeSlot]
  repeat' split
  all_goals simp

theorem lineRewritten_fold_stand (before : Vector InputEntry 4) (ns : List (Fin 4)) (s : State) :
    (ns.foldl (fun x n => lineRewritten before[n].active n x) s).drive = s.drive
      ∧ (ns.foldl (fun x n => lineRewritten before[n].active n x) s).steering = s.steering :=
  lineRewritten_fold_keeps (R := fun s t => t.drive = s.drive ∧ t.steering = s.steering) (fun _ => ⟨rfl, rfl⟩)
    (fun k h => ⟨k.1.trans h.1, k.2.trans h.2⟩) before (fun n x => ⟨by simp, by simp⟩) ns s

theorem defaultsRestored_drive (s : State) : (defaultsRestored s).drive = (ownersRestored s).drive :=
  (lineRewritten_fold_stand s.tables.input _ (ownersRestored s)).1

theorem defaultsRestored_steering (s : State) : (defaultsRestored s).steering = (ownersRestored s).steering :=
  (lineRewritten_fold_stand s.tables.input _ (ownersRestored s)).2

theorem defaultsRestored_pulses (s : State) : PulsesTogether s (defaultsRestored s) := by
  refine .inl ⟨?_, ?_⟩
  · rw [defaultsRestored_drive]
    simp [ownersRestored, throttlePath]
  · rw [defaultsRestored_steering]
    simp [ownersRestored, steerFile]

theorem loadCompleted_pulses (v : Vector Level 4) (a b : Level) (s : State) :
    PulsesTogether s (loadCompleted v a b s) := by
  refine .inl ⟨?_, by rw [loadCompleted_steering]⟩
  simp [loadCompleted_eq, lightsStartUp, batteryLoaded, winchLoaded, throttlePath, driveStarted, loadBegun]

theorem servoPeriodStarted_pulses (s : State) : PulsesTogether s (servoPeriodStarted s) := by
  refine .inl ⟨?_, by rw [servoPeriodStarted_steering, steeringPeriod_activeState]⟩
  simp only [servoPeriodStarted, driveTakesPeriod, beginPulses]
  split <;> simp [throttlePath, startPeriod]

theorem entryWritten_pulses (id : TableId) (i : Nat) (t : Tables) (s : State) :
    PulsesTogether s (entryWritten id i t s) := by
  unfold entryWritten ownerWritten
  cases id
  case steer => exact .inl ⟨by simp, by simp [steerWritten, steerFile]⟩
  case drive => exact .inl ⟨by simp [throttlePath], by simp⟩
  case cue | input => dsimp only; split <;> exact .of_drive (by simp) (by simp)
  all_goals exact .of_drive (by simp) (by simp)

theorem Move.pulses {c : Instr} {s t : State} (h : Move c s t) : PulsesTogether s t := by
  cases h with
  | link | unreport | report | clearFlags | flag | store | release => exact .of_drive rfl rfl
  | update p _ => exact functionUpdate_pulses _ s
  | failsafeValues _ => exact functionUpdate_pulses _ s
  | enterRun _ | leaveRun _ | enterSetup _ _ | leaveSetup _ => exact deliverRun_pulses _ s
  | winch _ | encoder _ _ _ _ | sample _ _ _ | cueTick _ => exact .of_drive (by simp) (by simp)
  | entry id i e t _ _ _ _ => exact entryWritten_pulses id i t s
  | restore _ => exact defaultsRestored_pulses s
  | clearProtect _ _ _ => exact deliverProtection_pulses _ s
  | conversion x _ => exact conversionEnded_pulses x s
  | period _ _ => exact servoPeriodStarted_pulses s
  | braking _ => exact .inl ⟨by simp [brakingExpired], by simp⟩
  | budget _ _ => exact .of_drive (by simp) (by simp)
  | load v a b _ _ _ => exact loadCompleted_pulses v a b s

theorem Move.s6 {c : Instr} {s t : State} (h : Move c s t) (hs : s.drive.s6Active = s.steering.active) :
    t.drive.s6Active = t.steering.active := by
  rcases h.pulses with ⟨h₁, h₂⟩ | ⟨h₁, h₂⟩
  · rw [h₁, h₂, hs]
  · rw [h₁, h₂]

/-! ## Load complete starts every unit (R181) -/

theorem loadCompleted_unitsRun {s : State} (hheld : s.heldInReset = false) (v : Vector Level 4) (a b : Level) :
    UnitsRun (loadCompleted v a b s) := by
  have hloaded : (loadTables s).store.loaded = true := by
    unfold loadTables
    split <;> rfl
  have hunits : (loadCompleted v a b s).lights.ticking = true ∧ (loadCompleted v a b s).lights.pwm = true := by
    rw [loadCompleted_eq, lightsStartUp, putLights_lights]
    exact (lightsEvent_frame ..).2
  have htimer : (loadCompleted v a b s).budget.timer.running = true := by
    rw [loadCompleted_eq, lightsStartUp, putLights_budget, fileClaim_timer]
    rfl
  exact
    { loaded := by simpa [loadCompleted_eq, lightsStartUp, batteryLoaded, winchLoaded, loadBegun] using hloaded
      run := by simp [loadCompleted_eq, lightsStartUp, batteryLoaded, winchLoaded, loadBegun, steeringLoaded, putRun]
      held := by simpa using hheld
      period := by simp [loadCompleted_eq, lightsStartUp, batteryLoaded, winchLoaded, throttlePath, driveStarted, startTimer]
      rampTick := by simp [loadCompleted_eq, lightsStartUp, batteryLoaded, winchLoaded, winchPlaced]
      cueTick := hunits.1
      pwm := hunits.2
      budget := htimer
      sampleTick := by simp [loadCompleted_eq, lightsStartUp, batteryLoaded, winchLoaded, loadBegun, acceptLevels]
      s4 := by simp [loadCompleted_eq, lightsStartUp, batteryLoaded, winchLoaded, throttlePath, driveStarted]
      s5 := by simp [loadCompleted_eq, lightsStartUp, batteryLoaded, winchLoaded, throttlePath, driveStarted] }

/-! ## Before load complete -/

/-- What a change before load complete leaves as it was. -/
structure UnitsRest (s t : State) : Prop where
  loaded : t.store.loaded = s.store.loaded
  run : t.link.run = s.link.run
  drive : t.drive.period = s.drive.period ∧ t.drive.s4Active = s.drive.s4Active ∧ t.drive.s5Active = s.drive.s5Active
  units : UnitsStand s t
  sampleTick : t.inputs.ticking = s.inputs.ticking
  pass : t.scanner.pass = s.scanner.pass
  corners : t.steering.active = s.steering.active
  winch : t.winch = s.winch
  record : t.record = s.record

theorem StartUp.of_rest {s t : State} (h : StartUp s) (hl : s.store.loaded = false) (k : UnitsRest s t)
    (s6 : t.drive.s6Active = t.steering.active) : StartUp t where
  initLoading := by rw [k.run, k.loaded]; exact h.initLoading
  held _ := k.loaded.trans hl
  period := by rw [k.drive.1, k.loaded]; exact h.period
  rampTick := by rw [k.winch, k.loaded]; exact h.rampTick
  cueTick := by rw [k.units.ticking, k.loaded]; exact h.cueTick
  pwm := by rw [k.units.pwm, k.loaded]; exact h.pwm
  budget := by rw [k.units.timer, k.loaded]; exact h.budget
  sampleTick := by rw [k.sampleTick, k.loaded]; exact h.sampleTick
  s4 := by rw [k.drive.2.1, k.loaded]; exact h.s4
  s5 := by rw [k.drive.2.2, k.loaded]; exact h.s5
  s6 := s6
  scanner _ := k.pass.trans (h.scanner hl)
  corners _ := k.corners.trans (h.corners hl)
  winch _ := by rw [k.winch]; exact h.winch hl
  records _ := by rw [k.record, k.winch]; exact h.records hl

theorem WinchEvent.loaded {s : State} (h : StartUp s) {f : WinchContext → Winch → WinchStep} (hf : WinchEvent s f) :
    s.store.loaded = true := by
  by_contra hl
  have hl : s.store.loaded = false := by simpa using hl
  obtain ⟨_, hclutch, hstall, hmotion⟩ := h.winch hl
  cases hf with
  | enterSetup hrun | homed hrun _ | clear hrun _ => exact hrun (h.initLoading.mpr hl)
  | tick ht => simp [h.rampTick, hl] at ht
  | stall ht => simp [hstall] at ht
  | noMotion ht => simp [hmotion] at ht
  | clutch ht => simp [hclutch] at ht

/-- A change before load complete: load complete itself, or one that leaves the units at rest. -/
theorem Move.rest {c : Instr} {s t : State} (h : Move c s t) (hs : StartUp s) (hl : s.store.loaded = false) :
    (∃ v a b, s.heldInReset = false ∧ t = loadCompleted v a b s) ∨ UnitsRest s t := by
  have hinit : s.link.run = .init := hs.initLoading.mpr hl
  cases h with
  | load v a b _ hheld _ => exact .inl ⟨v, a, b, hheld, rfl⟩
  | link l hrun => exact .inr ⟨rfl, hrun, ⟨rfl, rfl, rfl⟩, ⟨rfl, rfl, rfl⟩, rfl, rfl, rfl, rfl, rfl⟩
  | unreport | report | flag | release =>
    exact .inr ⟨rfl, rfl, ⟨rfl, rfl, rfl⟩, ⟨rfl, rfl, rfl⟩, rfl, rfl, rfl, rfl, rfl⟩
  | clearFlags _ =>
    refine .inr ⟨rfl, rfl, ⟨rfl, rfl, rfl⟩, ⟨rfl, rfl, rfl⟩, ?_, rfl, rfl, rfl, rfl⟩
    unfold clearReported
    split <;> rfl
  | store x hx => exact .inr ⟨hx, rfl, ⟨rfl, rfl, rfl⟩, ⟨rfl, rfl, rfl⟩, rfl, rfl, rfl, rfl, rfl⟩
  | braking _ =>
    exact .inr ⟨by simp, by simp, ⟨by simp [brakingExpired], by simp [brakingExpired], by simp [brakingExpired]⟩,
      putDrive_units _ _, by simp, by simp, by simp, by simp, by simp⟩
  | update p hrun => simp [hinit] at hrun
  | enterRun hrun => simp [hinit] at hrun
  | leaveRun hrun => simp [hinit] at hrun
  | failsafeValues hrun => simp [hinit] at hrun
  | enterSetup hrun _ => simp [hinit] at hrun
  | leaveSetup hrun => simp [hinit] at hrun
  | winch hf => simp [hf.loaded hs] at hl
  | encoder a b _ ht => simp [hs.rampTick, hl] at ht
  | entry id i e t hrun _ _ _ => exact absurd hinit hrun
  | restore hrun => simp [hinit] at hrun
  | clearProtect hrun _ _ => exact absurd hinit hrun
  | conversion x hp => exact absurd (hs.scanner hl) hp
  | period _ hp => simp [hs.period, hl] at hp
  | cueTick ht => simp [hs.cueTick, hl] at ht
  | budget _ ht => simp [hs.budget, hl] at ht
  | sample v n ht => simp [hs.sampleTick, hl] at ht

theorem Move.startUp {c : Instr} {s t : State} (h : Move c s t) (hs : StartUp s) : StartUp t := by
  have hs6 := h.s6 hs.s6
  by_cases hl : s.store.loaded = true
  · rcases h.parts with ⟨v, a, b, _, _, hn, _⟩ | hp
    · simp [hl] at hn
    · exact (hp.keeps (fun _ _ h => h.unitsRun) (hs.unitsRun hl)).startUp hs6
  · have hl : s.store.loaded = false := by simpa using hl
    rcases h.rest hs hl with ⟨v, a, b, hheld, rfl⟩ | hr
    · exact (loadCompleted_unitsRun hheld v a b).startUp hs6
    · exact hs.of_rest hl hr hs6

theorem startUp_resetLeaving (k : ResetKind) (d : Bool) (s : State) : StartUp (resetLeaving k d s) := by
  cases k <;> constructor <;> simp [resetLeaving, resetPart, linkAfterReset, storeAfterReset, driveAfterReset,
    winchReset, winchAfterReset, lightsAfterReset, budgetAfterReset, steeringAfterReset, scannerAfterReset,
    timerAfterReset]

/-- Settles O56: while every unit runs each part keeps it running, and before load complete nothing starts one. -/
theorem startUpIsKept : Obligations.StartUpIsKept :=
  fun _ _ => step_keeps (fun _ _ h => { h with }) (fun _ _ _ hm => hm.startUp) fun k d s _ => startUp_resetLeaving k d s

end Sys2Proof.Machine


/-! The winch's own events (R89, R97, R98, R105 to R111): what they leave of WCH, of INL's flags and of LTC's kept values. -/

namespace Sys2Proof.Machine

/-! ## Kept values after a list of events (R121) -/

theorem keptAfter_append (ms ns : List (LevelSource × Bool)) (k : Vector Bool 33) :
    keptAfter (ms ++ ns) k = keptAfter ns (keptAfter ms k) := by
  induction ms generalizing k with
  | nil => rfl
  | cons m ms ih => exact ih _

theorem lightEvents_kept (ms : List LightMsg) (s : State) :
    (lightEvents ms s).lights.kept = keptAfter (ms.flatMap (·.sets)) s.lights.kept := by
  induction ms generalizing s with
  | nil => rfl
  | cons m ms ih =>
    rw [lightEvents_cons, ih, List.flatMap_cons, keptAfter_append, lightEvent, putLights_lights, lightsEvent_kept]

/-- The sets of a change of WCH's three sources. -/
def winchSets (old new : WinchState) : List (LevelSource × Bool) :=
  (if winchMoves old = winchMoves new then [] else [(.winchMoving, winchMoves new)])
    ++ (if winchFrees old = winchFrees new then [] else [(.winchFree, winchFrees new)])
    ++ (if (old == .fault) = (new == .fault) then [] else [(.winchFault, new == .fault)])

theorem winchSources_sets (old new : WinchState) : (winchSources old new).flatMap (·.sets) = winchSets old new := by
  have h : winchSources old new =
      if (winchSets old new).isEmpty then [] else [{ sets := winchSets old new, fired := none }] := rfl
  rw [h]
  split
  · next hempty => rw [List.isEmpty_iff.mp hempty]; rfl
  · simp

theorem keptAfter_ite (p : Prop) [Decidable p] (l m : LevelSource) (v : Bool) (k : Vector Bool 33) :
    keptValue (keptAfter (if p then [] else [(l, v)]) k) m = if ¬p ∧ m = l then v else keptValue k m := by
  split
  · next h => simp [h, keptAfter]
  · next h => simp [h, keptAfter, keptValue_set]

theorem winchSets_moving (old new : WinchState) (k : Vector Bool 33) :
    keptValue (keptAfter (winchSets old new) k) .winchMoving =
      if winchMoves old = winchMoves new then keptValue k .winchMoving else winchMoves new := by
  simp only [winchSets, keptAfter_append, keptAfter_ite]
  by_cases h : winchMoves old = winchMoves new <;> simp [h]

theorem winchSets_free (old new : WinchState) (k : Vector Bool 33) :
    keptValue (keptAfter (winchSets old new) k) .winchFree =
      if winchFrees old = winchFrees new then keptValue k .winchFree else winchFrees new := by
  simp only [winchSets, keptAfter_append, keptAfter_ite]
  by_cases h : winchFrees old = winchFrees new <;> simp [h]

theorem winchSets_fault (old new : WinchState) (k : Vector Bool 33) :
    keptValue (keptAfter (winchSets old new) k) .winchFault =
      if (old == .fault) = (new == .fault) then keptValue k .winchFault else new == .fault := by
  simp only [winchSets, keptAfter_append, keptAfter_ite]
  by_cases h : (old == .fault) = (new == .fault) <;> simp [h]

/-- The sets of the events that a WCH step has delivered. -/
def WinchStep.sets (x : WinchStep) : List (LevelSource × Bool) := x.msgs.flatMap (·.sets)

theorem onWinchEvent_kept (f : WinchContext → Winch → WinchStep) (s : State) :
    (onWinchEvent f s).lights.kept = keptAfter (f (winchContext s) s.winch).sets s.lights.kept := by
  rw [onWinchEvent, putWinch, lightEvents_kept]
  rfl

section Steps

variable (c : WinchContext) (w : Winch) (x : WinchStep)

@[simp] theorem winchBegin_sets : (winchBegin w).sets = [] := rfl
@[simp] theorem onWinch_sets (f : Winch → Winch) : (onWinch f x).sets = x.sets := rfl
@[simp] theorem refile_sets : (refile c x).sets = x.sets := rfl
@[simp] theorem retarget_sets : (retarget c x).sets = x.sets := rfl

@[simp] theorem enterWinch_sets (st : WinchState) (d : Direction) :
    (enterWinch c st d x).sets = x.sets ++ winchSets x.winch.state st := by
  simp [WinchStep.sets, enterWinch, winchSources_sets]

@[simp] theorem enterWinch_state (st : WinchState) (d : Direction) : (enterWinch c st d x).winch.state = st := rfl
@[simp] theorem refile_state : (refile c x).winch.state = x.winch.state := rfl
@[simp] theorem retarget_state : (retarget c x).winch.state = x.winch.state := rfl

theorem tryRelease_sets :
    (tryRelease c x).sets = x.sets ++ winchSets x.winch.state (tryRelease c x).winch.state := by
  have hself (st : WinchState) : winchSets st st = [] := by simp [winchSets]
  by_cases hidle : x.winch.state = .idle
  · rw [tryRelease_idle c x hidle]
    split <;> simp [hself]
  · rw [tryRelease_other c hidle, hself, List.append_nil]

theorem winchSets_self (st : WinchState) : winchSets st st = [] := by simp [winchSets]

/-- Entry to IDLE, as the sets of its two state changes. -/
theorem toIdle_sets :
    (toIdle c x).sets = x.sets ++ winchSets x.winch.state .idle ++ winchSets .idle (toIdle c x).winch.state := by
  rw [toIdle, tryRelease_sets]
  simp

/-! ## Faults (R106) -/

theorem winchFaulted_again {x : WinchStep} (h : x.winch.state = .fault) (cause : FaultCause) :
    winchFaulted c cause x = onWinch (fun w => { w with further := true }) x := if_pos h

/-- WCH as FAULT is entered. -/
def faultedWinch (cause : FaultCause) : Winch :=
  { w with state := .fault, direction := .none, clutchWidth := engagedWidth c w, duty := 0, target := 0, filed := 0
           cause := cause, further := false, clutchTimer := stopTimer w.clutchTimer
           stallTimer := stopTimer w.stallTimer, noMotionTimer := stopTimer w.noMotionTimer }

theorem winchFaulted_winch {x : WinchStep} (h : x.winch.state ≠ .fault) (cause : FaultCause) :
    (winchFaulted c cause x).winch = faultedWinch c x.winch cause := by
  simp only [winchFaulted, if_neg h]
  rw [enterWinch_engaged c x (st := .fault) rfl]
  rfl

theorem winchFaulted_flags {x : WinchStep} (h : x.winch.state ≠ .fault) (cause : FaultCause) :
    (winchFaulted c cause x).flags = x.flags ++ [.winchFault] := by
  simp only [winchFaulted, if_neg h]
  rfl

theorem winchFaulted_sets {x : WinchStep} (h : x.winch.state ≠ .fault) (cause : FaultCause) :
    (winchFaulted c cause x).sets = x.sets ++ winchSets x.winch.state .fault := by
  have hsets : (winchFaulted c cause x).sets = (enterWinch c .fault .none x).sets := by
    simp only [winchFaulted, if_neg h]
    rfl
  rw [hsets, enterWinch_sets]

end Steps

/-- WINCH_FAULT's kept value after the events of an entry to FAULT. -/
theorem kept_of_fault {old : WinchState} (h : old ≠ .fault) (k : Vector Bool 33) :
    keptValue (keptAfter (winchSets old .fault) k) .winchFault = true := by
  rw [winchSets_fault, if_neg (by simp [h])]
  rfl

/-! ## WCH's event, block by block -/

theorem onWinchEvent_inputs_eq (f : WinchContext → Winch → WinchStep) (s : State) :
    (onWinchEvent f s).inputs = (setFlags (f (winchContext s) s.winch).flags s).inputs := by
  simp only [onWinchEvent, putWinch, lightEvents_inputs]
  rfl

/-- A budget of which the demands alone have changed. -/
def DemandsAlone (b b' : Budget) : Prop := b' = { b with demand := b'.demand }

theorem DemandsAlone.after {b b' b'' : Budget} (k : DemandsAlone b' b'') (h : DemandsAlone b b') : DemandsAlone b b'' := by
  unfold DemandsAlone at *
  rw [k, h]

theorem fileClaim_alone (c : Fin 4) (filed evaluated : Nat) (b : Budget) :
    DemandsAlone b (fileClaim c filed evaluated b) := fileClaim_eq ..

theorem lightEvents_alone (ms : List LightMsg) (s : State) : DemandsAlone s.budget (lightEvents ms s).budget := by
  induction ms generalizing s with
  | nil => rfl
  | cons m ms ih => exact (ih _).after (fileClaim_alone ..)

theorem onWinchEvent_alone (f : WinchContext → Winch → WinchStep) (s : State) :
    DemandsAlone s.budget (onWinchEvent f s).budget :=
  (lightEvents_alone _ _).after (fileClaim_alone ..)

theorem putDrive_alone (x : Drive) (s : State) : DemandsAlone s.budget (putDrive x s).budget :=
  (lightEvents_alone _ _).after (fileClaim_alone ..)

/-- Demands other than LIGHTS' stand while LTC takes its events. -/
theorem lightEvents_demand (ms : List LightMsg) (s : State) {c : Fin 4} (hc : c ≠ 3) :
    (lightEvents ms s).budget.demand[c] = s.budget.demand[c] := by
  induction ms generalizing s with
  | nil => rfl
  | cons m ms ih =>
    rw [lightEvents_cons, ih, lightEvent, putLights_budget]
    have hne : ¬(3 : Nat) = c.val := fun h => hc (Fin.ext h.symm)
    unfold fileClaim
    split <;> simp [hne]

/-- One event of WCH: its state, LTC's and INL's, and demands (R157, R174). -/
theorem onWinchEvent_eq (f : WinchContext → Winch → WinchStep) (s : State) :
    onWinchEvent f s =
      { s with winch := (onWinchEvent f s).winch, lights := (onWinchEvent f s).lights
               inputs := (onWinchEvent f s).inputs
               budget := { s.budget with demand := (onWinchEvent f s).budget.demand } } :=
  State.ext_fields (by simp) (by simp) (by simp) (by simp) (by simp) (by simp) rfl rfl (by simp) (by simp)
    (onWinchEvent_alone f s) rfl (by simp) (by simp)

/-! ## The BRAKING timer and the winch's three timers (R82, R105, R107, R108) -/

theorem exec_brakingTimerExpiry {s : State} (h : s.drive.brakingTimer.running = true) :
    exec .brakingTimerExpiry s = .next (brakingExpired s) := congrArg Host.Outcome.next (if_pos h)

/-- The event of the timer of a fault cause: its expiry, with that timer's fields put to rest first. -/
theorem winchFaulted_expiry {s : State} {cause : FaultCause} {g : Winch → Winch}
    {f : WinchContext → Winch → WinchStep} (hf : f = fun c w => winchFaulted c cause (winchBegin (g w)))
    (hg : ∀ w, g w = { w with clutchTimer := (g w).clutchTimer, stallTimer := (g w).stallTimer
                              noMotionTimer := (g w).noMotionTimer }) :
    (onWinchEvent f s).winch.line = s.winch.line ∧ (onWinchEvent f s).winch.homed = s.winch.homed
      ∧ (onWinchEvent f s).winch.command = s.winch.command ∧ (onWinchEvent f s).winch.state = .fault
      ∧ (s.winch.state ≠ .fault →
          (onWinchEvent f s).winch = faultedWinch (winchContext s) (g s.winch) cause
            ∧ (onWinchEvent f s).inputs = raiseFlag .winchFault s.inputs
            ∧ keptValue (onWinchEvent f s).lights.kept .winchFault = true)
      ∧ (s.winch.state = .fault →
          (onWinchEvent f s).winch.further = true ∧ (onWinchEvent f s).winch.cause = s.winch.cause
            ∧ (onWinchEvent f s).inputs = s.inputs ∧ (onWinchEvent f s).lights = s.lights) := by
  subst hf
  have hstate : (g s.winch).state = s.winch.state := by rw [hg]
  by_cases h : s.winch.state = .fault
  · have hagain := winchFaulted_again (winchContext s) (x := winchBegin (g s.winch)) (hstate.trans h) cause
    have hsilent := onWinchEvent_silent (f := fun c w => winchFaulted c cause (winchBegin (g w))) (s := s)
      (w := { g s.winch with further := true }) hagain (by rw [hg])
    rw [hsilent, hg]
    exact ⟨rfl, rfl, rfl, h, fun k => absurd h k, fun _ => ⟨rfl, rfl, rfl, rfl⟩⟩
  · have hx : (winchBegin (g s.winch)).winch.state ≠ .fault := by rw [winchBegin_winch, hstate]; exact h
    have hwinch : (onWinchEvent (fun c w => winchFaulted c cause (winchBegin (g w))) s).winch =
        faultedWinch (winchContext s) (g s.winch) cause := by
      rw [onWinchEvent_winch, winchFaulted_winch _ hx]
      rfl
    refine ⟨?_, ?_, ?_, ?_, fun _ => ⟨hwinch, ?_, ?_⟩, fun k => absurd k h⟩
    · rw [hwinch, hg]; rfl
    · rw [hwinch, hg]; rfl
    · rw [hwinch, hg]; rfl
    · rw [hwinch]; rfl
    · rw [onWinchEvent_inputs_eq, winchFaulted_flags _ hx]
      rfl
    · rw [onWinchEvent_kept, winchFaulted_sets _ hx]
      simpa using kept_of_fault (by simpa [hstate] using h) _

/-- Settles O38: BRAKING's fall is one event of LTC, and each winch timer's expiry is `winchFaulted` with its cause. -/
theorem timerExpiriesStop : Obligations.TimerExpiriesStop := by
  refine ⟨fun s h => ⟨_, exec_brakingTimerExpiry h, ?_, fun hb => ?_, fun c hc => ?_⟩, fun s c cause h => ?_⟩
  · exact State.ext_fields (by simp) (by simp) (by simp) (by simp) (by simp) (by simp [brakingExpired, stopTimer])
      (by simp) rfl (by simp) (by simp) (putDrive_alone _ _) (by simp) (by simp) (by simp)
  · rw [brakingExpired, putDrive, lightEvents_kept]
    simp [driveMsgs, hb, keptAfter, keptValue_set]
  · rw [brakingExpired, putDrive, lightEvents_demand _ _ hc]
    simp [fileClaim]
  · obtain ⟨f, g, hexec, hf, hg⟩ : ∃ (f : WinchContext → Winch → WinchStep) (g : Winch → Winch),
        exec c s = .next (onWinchEvent f s)
          ∧ f = (fun c w => winchFaulted c cause (winchBegin (g w)))
          ∧ ∀ w, g w = { w with clutchTimer := (g w).clutchTimer, stallTimer := (g w).stallTimer
                                noMotionTimer := (g w).noMotionTimer } := by
      rcases h with ⟨rfl, rfl, hr⟩ | ⟨rfl, rfl, hr⟩ | ⟨rfl, rfl, hr⟩
      · exact ⟨stallExpired, fun w => { w with stallTimer := stopTimer w.stallTimer },
          congrArg Host.Outcome.next (if_pos hr), rfl, fun _ => rfl⟩
      · exact ⟨noMotionExpired, fun w => { w with noMotionTimer := stopTimer w.noMotionTimer },
          congrArg Host.Outcome.next (if_pos hr), rfl, fun _ => rfl⟩
      · exact ⟨clutchExpired, fun w => { w with clutchTimer := stopTimer w.clutchTimer },
          congrArg Host.Outcome.next (if_pos hr), rfl, fun _ => rfl⟩
    obtain ⟨hline, hhomed, hcommand, hstate, hnew, hagain⟩ := winchFaulted_expiry (s := s) hf hg
    refine ⟨_, hexec, onWinchEvent_eq f s, hline, hhomed, hcommand, hstate, fun hs => ?_, hagain⟩
    obtain ⟨hwinch, hinputs, hkept⟩ := hnew hs
    rw [hwinch]
    refine ⟨rfl, rfl, rfl, rfl, rfl, rfl, rfl, rfl, rfl, ?_, hinputs, hkept⟩
    rw [hg]
    rfl

end Sys2Proof.Machine


/-! WINCH_CLEAR (R111), band decoding (R36, R37) and the encoder (R97, R98, R110). -/

namespace Sys2Proof.Machine

/-! ## WINCH_CLEAR (R111) -/

/-- WCH with its fault record cleared. -/
def unfaulted (w : Winch) : Winch := { w with cause := .none, further := false }

theorem winchCleared_winch (c : WinchContext) (w : Winch) :
    (winchCleared c w).winch =
      if c.engaged then
        (if releaseDue c w then releasedWinch c (idleWinch c (unfaulted w)) else idleWinch c (unfaulted w))
      else engagingWinch c (unfaulted w) := by
  unfold winchCleared
  dsimp only
  split
  · exact toIdle_winch c _
  · simp only [refile, onWinch_winch]
    rw [enterWinch_engaged c _ (st := .clutchIn) rfl, winchDemand_resting c rfl]
    rfl

theorem winchCleared_flags (c : WinchContext) (w : Winch) : (winchCleared c w).flags = [] := by
  unfold winchCleared
  dsimp only
  split
  · exact (toIdle_quiet c _).flags
  · rfl

/-- WCH's state after a clear is none of the states in which WINCH_FAULT is true. -/
theorem winchCleared_kept (c : WinchContext) {w : Winch} (h : w.state = .fault) (k : Vector Bool 33) :
    keptValue (keptAfter (winchCleared c w).sets k) .winchFault = false := by
  have hresting (st : WinchState) (hst : st ≠ .fault) (k : Vector Bool 33) :
      keptValue (keptAfter (winchSets .fault st) k) .winchFault = false := by
    rw [winchSets_fault, if_neg (by simp [hst])]
    simpa using hst
  have hidle (x : WinchStep) : (toIdle c x).winch.state ≠ .fault := by
    rw [toIdle_winch]
    split <;> exact WinchState.noConfusion
  unfold winchCleared
  dsimp only
  split
  · rw [toIdle_sets, keptAfter_append, winchSets_fault, if_pos (by simp [hidle])]
    simpa [h] using hresting .idle (by decide) k
  · simpa [h] using hresting .clutchIn (by decide) k

theorem clearAllowed_iff (c : WinchContext) (w : Winch) :
    clearAllowed c w = true ↔
      w.state = .fault ∧ w.command = 0 ∧ (w.cause = .hot → w.temp < (c.record.tempWarn : Int)) := by
  simp [clearAllowed, and_assoc, imp_iff_not_or]

/-- Settles O30: the entry to IDLE or to CLUTCH_IN of an accepted clear. -/
theorem winchClearAction : Obligations.WinchClearAction := by
  intro s allowed release hs hr hallowed hrelease
  have hiff : clearAllowed (winchContext (putReceiver receiverHunting s)) s.winch = true ↔ allowed :=
    (clearAllowed_iff _ _).trans hallowed.symm
  have hdue : releaseDue (winchContext s) s.winch = true ↔ release := (releaseDue_iff _ _).trans hrelease.symm
  refine ⟨fun hno => ?_, fun ha => ?_⟩
  · exact (exec_action_past (a := .winchClear) rfl rfl hs hr).trans
      (congrArg _ ((if_neg fun k => hno (hiff.mp k)).trans (answer_hunting ..)))
  · have hfault := (hallowed.mp ha).1
    refine ⟨_, (exec_action_past (a := .winchClear) rfl rfl hs hr).trans (congrArg _ (if_pos (hiff.mpr ha))), ?_⟩
    rw [show ∀ x : State, (answerAction .done x).winch = x.winch from fun _ => rfl, onWinchEvent_winch,
      answerAction_lights, onWinchEvent_kept]
    have hwinch : (winchCleared (winchContext (putReceiver receiverHunting s)) s.winch).winch =
        if inputActive s 1 = true then
          (if releaseDue (winchContext s) s.winch = true then
            releasedWinch (winchContext s) (idleWinch (winchContext s) (unfaulted s.winch))
           else idleWinch (winchContext s) (unfaulted s.winch))
        else engagingWinch (winchContext s) (unfaulted s.winch) := winchCleared_winch (winchContext s) s.winch
    rw [putReceiver_winch]
    refine ⟨?_, ?_, ?_, winchCleared_kept _ hfault _, ?_⟩
    · exact State.ext_fields (by simp) (by simp) (answered_link_of_unmoved _ _ (by simp)) (by simp) (by simp) (by simp)
        (onWinchEvent_winch ..) rfl (by simp) (by simp) rfl (onWinchEvent_inputs (winchCleared_flags _ _)) (by simp)
        (by simp)
    · rw [hwinch]
      split
      · split <;> rfl
      · rfl
    · rw [hwinch]
      split
      · split <;> rfl
      · rfl
    · refine ⟨(winchCleared_count _ _).line, (winchCleared_count _ _).homed, fun hin hno => ?_, fun hin hyes => ?_,
        fun hin => ?_, fun hidle => ?_⟩ <;> rw [hwinch]
      · rw [if_pos hin, if_neg fun k => hno (hdue.mp k)]
        rfl
      · rw [if_pos hin, if_pos (hdue.mpr hyes)]
        rfl
      · rw [if_neg (by simp [hin])]
        rfl
      · rw [hwinch] at hidle
        by_cases hin : inputActive s 1 = true
        · rw [if_pos hin, if_pos hin]
          by_cases hd : release
          · rw [if_pos (hdue.mpr hd)]
            rfl
          · rw [if_pos hin, if_neg fun k => hd (hdue.mp k)] at hidle
            exact absurd rfl hidle
        · rw [if_neg hin, if_neg hin]
          rfl

/-! ## Bands (R36, R37) -/

/-- A pattern's top bits agree with a raw value's exactly when they do bit by bit. -/
theorem bandMatches_iff {e : BandEntry} (h : bandInRange e = true) {x : Nat} (hx : x < 4096) :
    bandMatches x e = true ↔ ∀ j : Fin 6, j.val < e.width → x.testBit (11 - j.val) = e.pattern.testBit (5 - j.val) := by
  simp only [bandInRange, between, Bool.and_eq_true, decide_eq_true_eq] at h
  obtain ⟨⟨-, hpattern⟩, hone, hsix⟩ := h
  simp only [bandMatches, beq_iff_eq]
  constructor
  · intro heq j hj
    have hbit := congrArg (Nat.testBit · (e.width - 1 - j.val)) heq
    simp only [Nat.testBit_div_two_pow] at hbit
    rwa [show e.width - 1 - j.val + (12 - e.width) = 11 - j.val by omega,
      show e.width - 1 - j.val + (6 - e.width) = 5 - j.val by omega] at hbit
  · intro hbits
    refine Nat.eq_of_testBit_eq fun i => ?_
    rw [Nat.testBit_div_two_pow, Nat.testBit_div_two_pow]
    by_cases hi : i < e.width
    · have hbit := hbits ⟨e.width - 1 - i, by omega⟩ (by simp only; omega)
      rwa [show 11 - (e.width - 1 - i) = i + (12 - e.width) by omega,
        show 5 - (e.width - 1 - i) = i + (6 - e.width) by omega] at hbit
    · have hlow : (4096 : Nat) ≤ 2 ^ (i + (12 - e.width)) :=
        Nat.pow_le_pow_right (n := 2) (by decide) (show 12 ≤ i + (12 - e.width) by omega)
      have hpat : (64 : Nat) ≤ 2 ^ (i + (6 - e.width)) :=
        Nat.pow_le_pow_right (n := 2) (by decide) (show 6 ≤ i + (6 - e.width) by omega)
      rw [Nat.testBit_lt_two_pow (by omega), Nat.testBit_lt_two_pow (by omega)]

/-- The first match is the first entry that names the slot and matches. -/
theorem firstMatch_eq_find (slot : BandSlot) (x : Nat) (l : List BandEntry) :
    firstMatch slot x l = (l.find? fun e => e.slot == some slot && bandMatches x e).map (·.band) := by
  induction l with
  | nil => rfl
  | cons e l ih =>
    rw [firstMatch, List.find?_cons, ih]
    cases e.slot == some slot && bandMatches x e <;> rfl

/-- Settles O32: the bit-by-bit form of the match, and the first match as the first hit in index order. -/
theorem bandsByFirstMatch : Obligations.BandsByFirstMatch := by
  intro t raw slot e present hit hv hraw hhit
  have hmatch (n : Fin 16) (c : Fin 10) :
      (t.band[n].slot == some slot && bandMatches raw[c] t.band[n]) = true ↔ hit n c := by
    rw [Bool.and_eq_true, beq_iff_eq, bandMatches_iff ((validTables_of_tablesValid hv).band n) (hraw c), hhit]
  refine ⟨fun h => by rw [slotBand, h], fun c h => ⟨fun hno => ?_, fun n hn hfirst => ?_⟩⟩
  · have hfind : firstMatch slot raw[c] t.band.toList = none := by
      rw [firstMatch_eq_find, Option.map_eq_none_iff, List.find?_eq_none]
      intro b hb
      obtain ⟨i, hi, rfl⟩ := List.getElem_of_mem hb
      exact fun k => hno ⟨i, by simpa using hi⟩ ((hmatch _ c).mp k)
    simp only [slotBand, h, hfind]
  · have hfind : firstMatch slot raw[c] t.band.toList = some t.band[n].band := by
      rw [firstMatch_eq_find]
      have hsome : (t.band.toList.find? fun b => b.slot == some slot && bandMatches raw[c] b) = some t.band[n] :=
        List.find?_eq_some_iff_getElem.mpr ⟨(hmatch n c).mpr hn, n, by simp, rfl, fun j hj => by
          rw [Bool.not_eq_eq_eq_not, Bool.not_true, ← Bool.not_eq_true]
          exact fun k => hfirst ⟨j, by omega⟩ hj ((hmatch ⟨j, by omega⟩ c).mp k)⟩
      rw [hsome]
      rfl
    simp only [slotBand, h, hfind]

end Sys2Proof.Machine


/-! The encoder (R97, R98, R110). -/

namespace Sys2Proof.Machine

/-! ## One step of the encoder pair (R97) -/

theorem encoderStep_eq (w : Winch) (a b : Level) :
    encoderStep w a b = if (a, b) = payOutNext (w.enca, w.encb) then 1
      else if (w.enca, w.encb) = payOutNext (a, b) then -1 else 0 := by
  unfold encoderStep
  cases a <;> cases b <;> cases w.enca <;> cases w.encb <;> rfl

theorem beyondEnd_iff (n : Int) : Config.lineEndstop < (n.natAbs : Int) ↔ 65535 < n.natAbs :=
  Nat.cast_lt (α := Int) (m := 65535)

theorem not_counted_iff (d n : Int) :
    d = 0 ∨ Config.lineEndstop < (n.natAbs : Int) ↔ ¬(d ≠ 0 ∧ n.natAbs ≤ 65535) := by
  rw [beyondEnd_iff, not_and_or, not_not, not_le]

section Counted

variable (c : WinchContext) (w : Winch)

/-- A pay-out step that reaches the line end. -/
theorem lineEndStep_reached {d : Int} {w : Winch} (hd : 0 < d) (h : lineEndReached c w = true) :
    lineEndStep c d w =
      if w.state = .payOut then
        toRampDown c { winch := w, msgs := [{ sets := [], fired := some .lineEnd }], flags := [.lineEnd] }
      else { winch := w, msgs := [{ sets := [], fired := some .lineEnd }], flags := [.lineEnd] } :=
  if_pos (by simp [hd, h])

theorem lineEndStep_short {d : Int} {w : Winch} (h : ¬(0 < d ∧ lineEndReached c w = true)) :
    lineEndStep c d w = winchBegin w := if_neg (by simpa using h)

theorem lineEndReached_iff (w : Winch) :
    lineEndReached c w = true ↔ w.homed = true ∧ w.line = (c.record.maxLine : Int) := by simp [lineEndReached]

theorem homeMissed_iff (w : Winch) :
    homeMissed c w = true ↔ w.state = .haulIn ∧ w.homed = true ∧ w.line < -(c.record.homeAllowance : Int) := by
  simp [homeMissed, and_assoc]

/-- A line end is beyond no home. -/
theorem homeMissed_of_lineEnd {w : Winch} (h : lineEndReached c w = true) : homeMissed c w = false := by
  rw [← Bool.not_eq_true, homeMissed_iff]
  rintro ⟨-, -, hline⟩
  rw [lineEndReached_iff] at h
  omega

/-- WCH with its encoder reference replaced. -/
def paired (a b : Level) (w : Winch) : Winch := { w with enca := a, encb := b }

theorem winchEncoder_counted {a b : Level} {w : Winch}
    (h : encoderStep w a b ≠ 0 ∧ (w.line + encoderStep w a b).natAbs ≤ 65535) :
    winchEncoder c a b w = winchCounted c (encoderStep w a b) (paired a b w) :=
  if_neg (by rw [not_counted_iff]; exact not_not.mpr h)

theorem winchEncoder_ignored {a b : Level} {w : Winch}
    (h : ¬(encoderStep w a b ≠ 0 ∧ (w.line + encoderStep w a b).natAbs ≤ 65535)) :
    winchEncoder c a b w = winchBegin (paired a b w) := if_pos ((not_counted_iff ..).mpr h)

@[simp] theorem winchFaulted_pair (cause : FaultCause) (x : WinchStep) :
    (winchFaulted c cause x).winch.enca = x.winch.enca ∧ (winchFaulted c cause x).winch.encb = x.winch.encb := by
  unfold winchFaulted
  split <;> exact ⟨rfl, rfl⟩

@[simp] theorem lineEndStep_pair (d : Int) :
    (lineEndStep c d w).winch.enca = w.enca ∧ (lineEndStep c d w).winch.encb = w.encb := by
  by_cases h : 0 < d ∧ lineEndReached c w = true
  · rw [lineEndStep_reached c h.1 h.2]
    split
    · rw [toRampDown_winch]
      exact ⟨rfl, rfl⟩
    · exact ⟨rfl, rfl⟩
  · rw [lineEndStep_short c h]
    exact ⟨rfl, rfl⟩

theorem winchEncoder_pair (a b : Level) :
    (winchEncoder c a b w).winch.enca = a ∧ (winchEncoder c a b w).winch.encb = b := by
  by_cases h : encoderStep w a b ≠ 0 ∧ (w.line + encoderStep w a b).natAbs ≤ 65535
  · rw [winchEncoder_counted c h, winchCounted_eq]
    split
    · simp [countedWinch, paired]
    · simp [countedWinch, paired]
  · rw [winchEncoder_ignored c h]
    exact ⟨rfl, rfl⟩

end Counted

/-- The encoder's event with WCH's context, in the terms of R97's sum. -/
theorem encoder_counted {s : State} {a b : Level}
    (h : encoderStep s.winch a b ≠ 0 ∧ (s.winch.line + encoderStep s.winch a b).natAbs ≤ 65535) :
    winchEncoder (winchContext s) a b s.winch =
      if homeMissed (winchContext s) (countedWinch (winchContext s) (encoderStep s.winch a b) (paired a b s.winch)) then
        winchFaulted (winchContext s) .homeMiss
          (lineEndStep (winchContext s) (encoderStep s.winch a b)
            (countedWinch (winchContext s) (encoderStep s.winch a b) (paired a b s.winch)))
      else lineEndStep (winchContext s) (encoderStep s.winch a b)
        (countedWinch (winchContext s) (encoderStep s.winch a b) (paired a b s.winch)) := by
  rw [winchEncoder_counted _ h, winchCounted_eq]

/-- Settles O40: the three ends of an encoder step, each named by `encoder_counted`; the line count's changes over
every command are `exec_line`. -/
theorem encoderAndLineCount : Obligations.EncoderAndLineCount := by
  refine ⟨fun s a b d counted lineEnd miss hticking hd hcounted hend hmiss => ?_, fun c s t h hne => exec_line h hne⟩
  have hstep : encoderStep s.winch a b = d := (encoderStep_eq ..).trans hd.symm
  have hc : counted = true ↔ encoderStep s.winch a b ≠ 0 ∧ (s.winch.line + encoderStep s.winch a b).natAbs ≤ 65535 := by
    rw [hcounted, hstep, decide_eq_true_eq]
  have hexec := (exec_encoderCount a b s).trans (congrArg _ (if_pos hticking))
  have hwinch := onWinchEvent_winch (fun c w => winchEncoder c a b w) s
  obtain ⟨hpaira, hpairb⟩ := winchEncoder_pair (winchContext s) s.winch a b
  refine ⟨_, hexec, onWinchEvent_eq _ s, by rw [hwinch, hpaira], by rw [hwinch, hpairb],
    by rw [hwinch, winchEncoder_homed], ?_, fun he => ?_, fun hm => ?_, fun hne hnm => ?_⟩
  · rw [hwinch, winchEncoder_line, hstep]
    simp only [hc, hstep, not_counted_iff, ite_not]
  · obtain ⟨hcc, hone, hhomed, hmax⟩ := hend.mp he
    have hreached : lineEndReached (winchContext s) (countedWinch (winchContext s) 1 (paired a b s.winch)) = true :=
      (lineEndReached_iff _ _).mpr ⟨hhomed, hmax⟩
    have hev := encoder_counted (hc.mp hcc)
    rw [hstep, hone, homeMissed_of_lineEnd _ hreached, if_neg Bool.false_ne_true,
      lineEndStep_reached _ (by decide) hreached] at hev
    rw [onWinchEvent_inputs_eq, hwinch, hev]
    by_cases hpay : s.winch.state = .payOut
    · rw [if_pos hpay, if_pos (show (countedWinch _ 1 (paired a b s.winch)).state = .payOut from hpay), (toRampDown_quiet _ _).flags,
        toRampDown_winch]
      exact ⟨rfl, rfl⟩
    · rw [if_neg hpay, if_neg (show ¬(countedWinch _ 1 (paired a b s.winch)).state = .payOut from hpay)]
      exact ⟨rfl, rfl⟩
  · obtain ⟨hcc, hhaul, hhomed, hlow⟩ := hmiss.mp hm
    have hmissed : homeMissed (winchContext s) (countedWinch (winchContext s) d (paired a b s.winch)) = true :=
      (homeMissed_iff _ _).mpr ⟨hhaul, hhomed, hlow⟩
    have hshort : ¬(0 < d ∧ lineEndReached (winchContext s) (countedWinch (winchContext s) d (paired a b s.winch)) = true) :=
      fun k => by rw [homeMissed_of_lineEnd _ k.2] at hmissed; cases hmissed
    have hev := encoder_counted (hc.mp hcc)
    rw [hstep, if_pos hmissed, lineEndStep_short _ hshort] at hev
    have hmoving : (winchBegin (countedWinch (winchContext s) d (paired a b s.winch))).winch.state ≠ .fault := by
      rw [winchBegin_winch, show (countedWinch _ d (paired a b s.winch)).state = .haulIn from hhaul]
      decide
    rw [onWinchEvent_inputs_eq, hwinch, hev, winchFaulted_flags _ hmoving, winchFaulted_winch _ hmoving]
    exact ⟨rfl, rfl, rfl, rfl⟩
  · have hnoLine (hcc : counted = true) :
        ¬(0 < d ∧ lineEndReached (winchContext s) (countedWinch (winchContext s) d (paired a b s.winch)) = true) := by
      rintro ⟨hpos, hreached⟩
      obtain ⟨hhomed, hmax⟩ := (lineEndReached_iff _ _).mp hreached
      have hone : d = 1 := by
        rcases encoderStep_cases s.winch a b with h | h | h <;> rw [hstep] at h <;> omega
      exact hne (hend.mpr ⟨hcc, hone, hhomed, by rw [← hone]; exact hmax⟩)
    have hnoMiss (hcc : counted = true) :
        homeMissed (winchContext s) (countedWinch (winchContext s) d (paired a b s.winch)) = false := by
      rw [← Bool.not_eq_true, homeMissed_iff]
      exact fun ⟨h₁, h₂, h₃⟩ => hnm (hmiss.mpr ⟨hcc, h₁, h₂, h₃⟩)
    by_cases hcc : counted = true
    · have hev := encoder_counted (hc.mp hcc)
      rw [hstep, hnoMiss hcc, if_neg Bool.false_ne_true, lineEndStep_short _ (hnoLine hcc)] at hev
      rw [onWinchEvent_silent (f := fun c w => winchEncoder c a b w) hev rfl]
      refine ⟨rfl, rfl, rfl, ?_⟩
      simp only [hcc, true_and]
      rfl
    · rw [onWinchEvent_silent (f := fun c w => winchEncoder c a b w)
        (winchEncoder_ignored _ fun k => hcc (hc.mpr k)) rfl]
      refine ⟨rfl, rfl, rfl, ?_⟩
      simp only [hcc]
      rfl

end Sys2Proof.Machine


/-! The ramp tick (R89). -/

namespace Sys2Proof.Machine

section Ramp

variable (c : WinchContext) (w : Winch)

theorem hauling_iff (st : WinchState) : hauling st = true ↔ st = .haulIn ∨ st = .payOut := by
  cases st <;> simp [hauling]

theorem winchMoves_iff (st : WinchState) : winchMoves st = true ↔ st = .haulIn ∨ st = .payOut ∨ st = .rampDown := by
  cases st <;> simp [winchMoves]

theorem rampDuty_eq (step duty target : Nat) :
    rampDuty step duty target =
      if duty ≤ target then min target (duty + step) else max target (duty - step) := by
  unfold rampDuty
  split <;> split <;> omega

/-- WCH between the ramp and its timers: a stopped RAMP_DOWN has gone to IDLE (R94). -/
def rampedWinch : Winch :=
  if w.state = .rampDown ∧ (rampMove c w).duty = 0 then (toIdle c (winchBegin (rampMove c w))).winch else rampMove c w

theorem winchTick_winch :
    (winchTick c w).winch =
      { rampTimers c (rampedWinch c w) with filed := winchDemand c (rampedWinch c w) } := by
  have htick (y : WinchStep) (hy : (if w.state = .rampDown ∧ (rampMove c w).duty = 0
        then toIdle c (winchBegin (rampMove c w)) else winchBegin (rampMove c w)) = y) :
      winchTick c w = refile c (onWinch (rampTimers c) y) := congrArg (fun y => refile c (onWinch (rampTimers c) y)) hy
  by_cases h : w.state = .rampDown ∧ (rampMove c w).duty = 0
  · rw [htick _ (if_pos h), rampedWinch, if_pos h]
    rfl
  · rw [htick _ (if_neg h), rampedWinch, if_neg h]
    rfl

theorem winchTick_flags : (winchTick c w).flags = [] := by
  unfold winchTick
  dsimp only
  split
  · exact (toIdle_quiet c _).flags
  · rfl

variable {w}

theorem rampedWinch_moving (h : w.state ≠ .rampDown ∨ (rampMove c w).duty ≠ 0) : rampedWinch c w = rampMove c w :=
  if_neg fun k => h.elim (fun e => e k.1) (fun e => e k.2)

theorem rampedWinch_stopped (h : w.state = .rampDown) (hd : (rampMove c w).duty = 0) :
    rampedWinch c w =
      if releaseDue c w then releasedWinch c (idleWinch c (rampMove c w)) else idleWinch c (rampMove c w) := by
  rw [rampedWinch, if_pos ⟨h, hd⟩, toIdle_winch]
  rfl

/-- What entry to IDLE leaves of the ramp: the duty and the timers that it sets next. -/
theorem rampedWinch_kept :
    (rampedWinch c w).duty = (rampMove c w).duty ∧ (rampedWinch c w).noMotionTimer = w.noMotionTimer
      ∧ (rampedWinch c w).stallTimer = w.stallTimer := by
  by_cases h : w.state = .rampDown ∧ (rampMove c w).duty = 0
  · rw [rampedWinch_stopped c h.1 h.2]
    split <;> exact ⟨rfl, rfl, rfl⟩
  · rw [rampedWinch, if_neg h]
    exact ⟨rfl, rfl, rfl⟩

theorem rampedWinch_target : (rampedWinch c w).target = targetDuty c w := by
  by_cases h : w.state = .rampDown ∧ (rampMove c w).duty = 0
  · rw [rampedWinch_stopped c h.1 h.2, targetDuty_resting c (by rw [h.1]; rfl)]
    split <;> rfl
  · rw [rampedWinch, if_neg h]
    rfl

theorem rampedWinch_demand : winchDemand c (rampedWinch c w) = winchDemand c w := by
  by_cases h : w.state = .rampDown ∧ (rampMove c w).duty = 0
  · rw [rampedWinch_stopped c h.1 h.2, winchDemand_resting c (w := w) (by rw [h.1]; rfl)]
    split <;> exact winchDemand_resting c rfl
  · rw [rampedWinch, if_neg h]
    rfl

end Ramp

/-- A release is due, in the terms of the part's state (R102). -/
theorem releaseDue_winchContext (s : State) :
    releaseDue (winchContext s) s.winch = true ↔ s.winch.request = true ∧ s.link.run = .run
      ∧ s.protection.state ≠ .cutoff ∧ s.winch.releaseBlock = false := releaseDue_iff _ _

theorem exec_rampTick {s : State} (h : s.winch.ticking = true) : exec .rampTick s = .next (onWinchEvent winchTick s) :=
  congrArg Host.Outcome.next (if_pos h)

/-- Settles O39: `rampedWinch` is the ramp and the entry to IDLE; the timers and the demand follow from it. -/
theorem rampTick : Obligations.RampTick := by
  intro s base slow uncapped target duty hticking hbase hslow huncapped htarget hduty
  have huncap : uncappedTarget (winchContext s) s.winch = uncapped := by
    rw [huncapped, hslow, hbase]
    rfl
  have hmove : targetDuty (winchContext s) s.winch = target := by
    simp only [htarget, targetDuty, hauling_iff, huncap]
    rfl
  have hramp : (rampMove (winchContext s) s.winch).duty = duty := by
    rw [hduty, ← rampDuty_eq, ← hmove]
    simp only [rampMove, winchMoves_iff]
    rfl
  obtain ⟨hkeptDuty, hkeptMotion, hkeptStall⟩ := rampedWinch_kept (winchContext s) (w := s.winch)
  rw [hramp] at hkeptDuty
  have hwinch := (onWinchEvent_winch winchTick s).trans (winchTick_winch (winchContext s) s.winch)
  refine ⟨_, exec_rampTick hticking, ?_, ?_, ?_, fun h => ?_, fun h hd => ?_, ?_, ?_, ?_, ?_, ?_⟩
  · have hinputs := onWinchEvent_inputs (winchTick_flags (winchContext s) s.winch)
    conv_lhs => rw [onWinchEvent_eq, hinputs]
  · rw [hwinch, ← hmove, ← rampedWinch_target]
    rfl
  · rw [hwinch, ← hkeptDuty]
    rfl
  · rw [hwinch, rampedWinch_moving _ (by rwa [hramp])]
    exact ⟨rfl, rfl⟩
  · rw [hwinch, rampedWinch_stopped _ h (hramp.trans hd)]
    by_cases hdue : releaseDue (winchContext s) s.winch = true
    · rw [if_pos hdue, if_pos ((releaseDue_winchContext s).mp hdue)]
      exact ⟨rfl, rfl⟩
    · rw [if_neg hdue, if_neg fun k => hdue ((releaseDue_winchContext s).mpr k)]
      exact ⟨rfl, rfl⟩
  · rw [hwinch, ← hkeptDuty, ← hkeptMotion]
    rfl
  · rw [hwinch, ← hkeptDuty, ← hkeptStall]
    rfl
  · rw [hwinch]
    refine (rampedWinch_demand (winchContext s)).trans ?_
    simp only [winchDemand, hauling_iff, huncap]
    rfl
  · rw [onWinchEvent_winch, (winchTick_count _ _).line]
  · rw [onWinchEvent_winch, (winchTick_count _ _).homed]

end Sys2Proof.Machine


/-! CHANNELS in RUN and SETUP, and FAILSAFE entry: the one function update at every block (R15, R17, R39, R75 to R83,
R90, R93 to R96, R101 to R103). -/

namespace Sys2Proof.Machine

/-! ## What WCH reads while an event passes through the other blocks -/

theorem winchContext_congr {s t : State} (htables : t.tables = s.tables) (hrun : t.link.run = s.link.run)
    (hprot : t.protection = s.protection) (hgrant : t.budget.grant = s.budget.grant)
    (hlines : t.inputs.lines = s.inputs.lines) : winchContext t = winchContext s := by
  simp [winchContext, grantOf, inputActive, lineActive, htables, hrun, hprot, hgrant, hlines]

theorem functionUpdate_winch_eq (r : FunctionRecord) (s : State) :
    (functionUpdate r s).winch = (winchUpdate (winchContext s) r s.winch).winch := by
  have hcontext : winchContext (driveUpdate r (steeringTakesUpdate r { s with record := r })) = winchContext s :=
    winchContext_congr (by simp) (by simp) (by simp) (by simp [driveUpdate, steeringTakesUpdate]) (by simp)
  simp [functionUpdate, winchTakesUpdate, hcontext]

/-- What WCH reads at a change of the run state. -/
theorem deliverRun_winch_eq (n : RunState) (s : State) :
    (deliverRun n s).winch = (winchRunChange { winchContext s with run := n } s.winch).winch := by
  have hcontext : winchContext (driveCompute (putRun n s)) = winchContext (putRun n s) :=
    winchContext_congr (by simp) (by simp) (by simp) (by simp [driveCompute]) (by simp)
  simp only [deliverRun, lightEvent_winch, onWinchEvent_winch, driveCompute_winch, hcontext]
  rfl

theorem deliverProtection_winch_eq (p : Protection) (s : State) :
    (deliverProtection p s).winch = (winchProtChange { winchContext s with prot := p.state } s.winch).winch := by
  have hcontext : winchContext (driveCompute (setFlag .protChanged { s with protection := p })) =
      winchContext (setFlag .protChanged { s with protection := p }) :=
    winchContext_congr (by simp) (by simp) (by simp) (by simp [driveCompute]) (by simp)
  simp only [deliverProtection, lightEvent_winch, onWinchEvent_winch, driveCompute_winch, hcontext]
  rfl

/-! ## Forced stops (R96) -/

section Halts

variable (c : WinchContext) (w : Winch)

theorem releaseDue_outside {c : WinchContext} (h : c.run ≠ .run ∨ c.prot = .cutoff) (w : Winch) :
    releaseDue c w = false := by
  rw [← Bool.not_eq_true, releaseDue_iff]
  rintro ⟨-, hrun, hprot, -⟩
  exact h.elim (· hrun) hprot

/-- WCH with its command at 0. -/
def commandless : Winch := { w with command := 0 }

/-- WCH after a halt that returns a released clutch. -/
def haltedWinch : Winch :=
  if hauling w.state then rampingWinch c (commandless w)
  else if released w.state then
    (if c.engaged then idleWinch c (engagingWinch c (commandless w)) else engagingWinch c (commandless w))
  else commandless w

theorem winchHalt_winch_returns {c : WinchContext} (h : c.run ≠ .run ∨ c.prot = .cutoff) :
    (winchHalt c true w).winch = haltedWinch c w := by
  unfold winchHalt haltedWinch
  simp only [Bool.and_true]
  split
  · exact toRampDown_winch c _
  · split
    · rw [toClutchIn_winch, releaseDue_outside h]
      rfl
    · rfl

theorem winchHalt_winch_stays : (winchHalt c false w).winch =
    if hauling w.state then rampingWinch c (commandless w) else commandless w := by
  unfold winchHalt
  simp only [Bool.and_false]
  split
  · exact toRampDown_winch c _
  · rfl

theorem hauling_not_released {st : WinchState} (h : hauling st = true) : released st = false := by
  cases st <;> simp_all [hauling, released]

/-- A halt leaves no state in which the drum is driven by command or the clutch is released. -/
theorem haltedWinch_rests : hauling (haltedWinch c w).state = false ∧ released (haltedWinch c w).state = false := by
  unfold haltedWinch
  split
  · exact ⟨rfl, rfl⟩
  · next hh =>
    split
    · split <;> exact ⟨rfl, rfl⟩
    · next hr => exact ⟨eq_false_of_ne_true hh, eq_false_of_ne_true hr⟩

theorem haltedWinch_hauling {w : Winch} (h : hauling w.state = true) :
    haltedWinch c w = rampingWinch c (commandless w) := if_pos h

theorem haltedWinch_released {w : Winch} (h : released w.state = true) :
    haltedWinch c w =
      if c.engaged then idleWinch c (engagingWinch c (commandless w)) else engagingWinch c (commandless w) := by
  have hno : ¬hauling w.state = true := fun k => by rw [hauling_not_released k] at h; cases h
  rw [haltedWinch, if_neg hno, if_pos h]

/-! ## A function update at WCH (R90, R101) -/

/-- WCH with a function update's record, command and request. -/
def informed (r : FunctionRecord) : Winch :=
  evaluateRequest c { w with record := r, command := if c.run = .run then r.winch else 0 }

theorem winchUpdate_eq (r : FunctionRecord) :
    winchUpdate c r w = refile c (actOnCommand c (actOnRequest c (winchBegin (informed c w r)))) := rfl

theorem refile_winch (x : WinchStep) : (refile c x).winch = { x.winch with filed := winchDemand c x.winch } := rfl

theorem actOnRequest_engaged {x : WinchStep} (h : released x.winch.state = false) : actOnRequest c x = tryRelease c x :=
  if_neg (by simp [h])

theorem actOnRequest_present {x : WinchStep} (h : released x.winch.state = true) (hr : x.winch.request = true) :
    actOnRequest c x = x := (if_pos h).trans (if_pos hr)

theorem actOnRequest_withdrawn {x : WinchStep} (h : released x.winch.state = true) (hr : x.winch.request = false) :
    actOnRequest c x = toClutchIn c x := (if_pos h).trans (if_neg (by simp [hr]))

theorem tryRelease_not_due {x : WinchStep} (h : releaseDue c x.winch = false) : tryRelease c x = x := by
  by_cases hidle : x.winch.state = .idle
  · rw [tryRelease_idle c x hidle, h]
    rfl
  · exact tryRelease_other c hidle

/-- The states in which WCH heeds no command (Table 5-4). -/
def heedsNoCommand : WinchState → Bool
  | .clutchOut => true
  | .freespool => true
  | .clutchIn => true
  | .fault => true
  | _ => false

theorem actOnCommand_heedless {x : WinchStep} (h : heedsNoCommand x.winch.state = true) : actOnCommand c x = x := by
  unfold actOnCommand
  cases hst : x.winch.state <;> simp_all [heedsNoCommand]

theorem startAllowed_iff (w : Winch) :
    startAllowed c w = true ↔ c.run = .run ∧ c.prot ≠ .cutoff ∧ w.request = false := by
  simp [startAllowed, and_assoc]

/-- No start from rest: the command is 0, or its start is not allowed (R93). -/
theorem actOnCommand_stays {x : WinchStep} (h : x.winch.state = .idle ∨ x.winch.state = .rampDown)
    (hin : 0 < x.winch.command → haulAllowed c x.winch = false)
    (hout : x.winch.command < 0 → payAllowed c x.winch = false) : actOnCommand c x = x := by
  unfold actOnCommand
  rcases h with h | h <;> simp only [h]
  · rw [if_neg (by simpa using hin), if_neg (by simpa using hout)]
  · rw [if_neg (fun k => by simp_all), if_neg (fun k => by simp_all)]

end Halts

end Sys2Proof.Machine


/-! CHANNELS in RUN and SETUP, and what the winch makes of it (R15, R16, R90, R93 to R95, R101 to R103). -/

namespace Sys2Proof.Machine

/-! ## A processed frame with a function update (R8, R15) -/

/-- LNK as a function update in RUN or SETUP finds it: the receiver in HUNT, and in RUN the hold timer afresh. -/
def heldAt (s : State) : State :=
  { s with link := { s.link with
      receiver := receiverHunting
      hold := if s.link.run = .run then startTimer s.tables.link.holdTime s.link.hold else s.link.hold } }

/-- A frame's work apart from telemetry, with the link that its telemetry leaves. -/
theorem exec_channels_handled {s : State} {p : List Byte} (hs : Listening s) (hp : p.length = 16)
    (hr : s.link.run ≠ .init) : ∃ l : Link,
      exec (.channels p) s = .next { channelsHandled p (putReceiver receiverHunting s) with link := l }
        ∧ l.run = (channelsHandled p (putReceiver receiverHunting s)).link.run
        ∧ l.hold = (channelsHandled p (putReceiver receiverHunting s)).link.hold
        ∧ l.recovery = (channelsHandled p (putReceiver receiverHunting s)).link.recovery :=
  ⟨_, (exec_channels hs hp).trans (congrArg _ (channelsFrame_eq hp hr)), channelsFrame_run hp hr,
    channelsFrame_hold hp hr, channelsFrame_recovery hp hr⟩

/-- A frame that RUN or SETUP normalizes. -/
abbrev Updates (s : State) (p : List Byte) : Prop :=
  (s.link.run = .run ∧ receiverFailsafe p = false) ∨ s.link.run = .setup

theorem channelsHandled_updates {s : State} {p : List Byte} (h : Updates s p) :
    channelsHandled p (putReceiver receiverHunting s) = handToMapper p (heldAt s) := by
  rcases h with ⟨hr, hf⟩ | hr
  · have hr' : (putReceiver receiverHunting s).link.run = .run := hr
    simp only [channelsHandled, hr', hf]
    simp [heldAt, hr, restartHold, putReceiver]
  · have hr' : (putReceiver receiverHunting s).link.run = .setup := hr
    simp only [channelsHandled, hr']
    simp [heldAt, hr, putReceiver]

theorem exec_channels_update {s : State} {p : List Byte} {r : FunctionRecord} (hs : Listening s) (hp : p.length = 16)
    (h : Updates s p) (hrec : r = normalize s.tables (rawChannels p) s.record) : ∃ l : Link,
      exec (.channels p) s = .next { functionUpdate r (heldAt s) with link := l }
        ∧ l.run = s.link.run ∧ l.hold = (heldAt s).link.hold ∧ l.recovery = s.link.recovery := by
  have hinit : s.link.run ≠ .init := by
    rcases h with ⟨hr, -⟩ | hr <;> rw [hr] <;> decide
  have hhand : handToMapper p (heldAt s) = functionUpdate r (heldAt s) := by rw [hrec]; rfl
  obtain ⟨l, hexec, hrun, hhold, hrecovery⟩ := exec_channels_handled hs hp hinit
  rw [channelsHandled_updates h, hhand, functionUpdate_link] at hrun hhold hrecovery
  rw [channelsHandled_updates h, hhand] at hexec
  exact ⟨l, hexec, hrun, hhold, hrecovery⟩

/-- The winch after a frame that RUN normalizes. -/
theorem heldAt_winch (r : FunctionRecord) (s : State) :
    (functionUpdate r (heldAt s)).winch = (winchUpdate (winchContext s) r s.winch).winch := by
  rw [functionUpdate_winch_eq]
  rfl

/-! ## Starting and stopping (Table 5-4, R93 to R95) -/

section Command

variable (c : WinchContext)

theorem haulAllowed_iff (w : Winch) : haulAllowed c w = true ↔ startAllowed c w = true ∧ c.homeActive = false := by
  simp [haulAllowed]

theorem payAllowed_iff (w : Winch) :
    payAllowed c w = true ↔ startAllowed c w = true ∧ ¬(w.homed = true ∧ (c.record.maxLine : Int) ≤ w.line) := by
  simp [payAllowed, imp_iff_not_or]

theorem toHauling_winch (st : WinchState) (d : Direction) (x : WinchStep) :
    (toHauling c st d x).winch.state = st ∧ (toHauling c st d x).winch.direction = d
      ∧ (toHauling c st d x).winch.duty = x.winch.duty := ⟨rfl, rfl, rfl⟩

theorem actOnCommand_hauls {x : WinchStep}
    (h : x.winch.state = .idle ∨ (x.winch.state = .rampDown ∧ x.winch.direction = .haulIn))
    (hw : 0 < x.winch.command) (ha : haulAllowed c x.winch = true) :
    actOnCommand c x = toHauling c .haulIn .haulIn x := by
  unfold actOnCommand
  rcases h with h | ⟨h, hd⟩
  · simp [h, hw, ha]
  · simp [h, hd, hw, ha]

theorem actOnCommand_pays {x : WinchStep}
    (h : x.winch.state = .idle ∨ (x.winch.state = .rampDown ∧ x.winch.direction = .payOut))
    (hw : x.winch.command < 0) (ha : payAllowed c x.winch = true) :
    actOnCommand c x = toHauling c .payOut .payOut x := by
  have hneg : ¬0 < x.winch.command := by omega
  unfold actOnCommand
  rcases h with h | ⟨h, hd⟩
  · simp [h, hw, ha, hneg]
  · simp [h, hd, hw, ha, hneg]

/-- A command against the ramp's direction leaves RAMP_DOWN as it is (R95). -/
theorem actOnCommand_against {x : WinchStep} (h : x.winch.state = .rampDown)
    (hd : (0 < x.winch.command ∧ x.winch.direction = .payOut) ∨ (x.winch.command < 0 ∧ x.winch.direction = .haulIn)) :
    actOnCommand c x = x := by
  unfold actOnCommand
  rcases hd with ⟨hw, hd⟩ | ⟨hw, hd⟩
  · have hneg : ¬x.winch.command < 0 := by omega
    simp [h, hd, hneg]
  · have hpos : ¬0 < x.winch.command := by omega
    simp [h, hd, hpos]

theorem actOnCommand_haulIn {x : WinchStep} (h : x.winch.state = .haulIn) :
    actOnCommand c x = if 0 < x.winch.command then retarget c x else toRampDown c x := by simp [actOnCommand, h]

theorem actOnCommand_payOut {x : WinchStep} (h : x.winch.state = .payOut) :
    actOnCommand c x = if x.winch.command < 0 then retarget c x else toRampDown c x := by simp [actOnCommand, h]

theorem actOnCommand_duty (x : WinchStep) : (actOnCommand c x).winch.duty = x.winch.duty := by
  unfold actOnCommand
  dsimp only
  split <;> (try split) <;> (try split) <;> rfl

theorem actOnCommand_line (x : WinchStep) : (actOnCommand c x).winch.line = x.winch.line := (actOnCommand_count c x).line

end Command

/-- With the request absent, a winch that is not released comes to the command at once. -/
theorem winchUpdate_absent {c : WinchContext} {r : FunctionRecord} {w : Winch} (hreq : freespoolRequest c.record r = false)
    (hw : released w.state = false) :
    winchUpdate c r w = refile c (actOnCommand c (winchBegin (informed c w r))) := by
  have hdue : releaseDue c (informed c w r) = false := by
    simp [releaseDue, informed, evaluateRequest, hreq]
  rw [winchUpdate_eq, actOnRequest_engaged c (x := winchBegin (informed c w r)) hw,
    tryRelease_not_due c (x := winchBegin (informed c w r)) hdue]

/-- Settles O41: with the request absent, a function update in RUN is `actOnCommand` on the stored command. -/
theorem winchCommandInRun : Obligations.WinchCommandInRun := by
  intro p s w free hs hp hr hf hw hreq hstate hfree
  obtain ⟨l, hexec, -⟩ := exec_channels_update hs hp (.inl ⟨hr, hf⟩) rfl
  have hreleased : released s.winch.state = false := by
    rcases hstate with h | h | h | h <;> rw [h] <;> rfl
  let x := winchBegin (informed (winchContext s) s.winch (normalize s.tables (rawChannels p) s.record))
  have hwinch := (heldAt_winch (normalize s.tables (rawChannels p) s.record) s).trans
    (congrArg WinchStep.winch (winchUpdate_absent (c := winchContext s) hreq hreleased))
  have hcommand : x.winch.command = w := (if_pos hr).trans hw.symm
  have hstart : startAllowed (winchContext s) x.winch = true ↔ free := by
    rw [startAllowed_iff, hfree]
    exact ⟨fun h => h.2.1, fun h => ⟨hr, h, hreq⟩⟩
  refine ⟨_, hexec, ?duty, ?command, ?line, fun h hpos ha hin => ?haul, fun h hneg ha hend => ?pay, fun h hno => ?stays,
    fun h hd => ?against, fun h => ?haulIn, fun h => ?payOut⟩ <;> simp only [hwinch]
  case duty => exact actOnCommand_duty _ x
  case command => exact ((refile_quiet _ _).after (actOnCommand_quiet _ x)).command.trans hcommand
  case line => exact actOnCommand_line _ x
  case haul =>
    rw [actOnCommand_hauls _ (x := x) h (hcommand ▸ hpos) ((haulAllowed_iff _ _).mpr ⟨hstart.mpr ha, hin⟩)]
    exact ⟨rfl, rfl⟩
  case pay =>
    rw [actOnCommand_pays _ (x := x) h (hcommand ▸ hneg) ((payAllowed_iff _ _).mpr ⟨hstart.mpr ha, hend⟩)]
    exact ⟨rfl, rfl⟩
  case stays =>
    have hstays : actOnCommand (winchContext s) x = x := by
      refine actOnCommand_stays _ h (fun hpos => ?_) fun hneg => ?_
      · rw [← Bool.not_eq_true, haulAllowed_iff, hstart]
        rintro ⟨ha, hin⟩
        rw [hcommand] at hpos
        rcases hno with h0 | h0 | ⟨-, h0⟩ | ⟨h0, -⟩
        · omega
        · exact h0 ha
        · exact absurd h0 (by simp [show inputActive s 0 = false from hin])
        · omega
      · rw [← Bool.not_eq_true, payAllowed_iff, hstart]
        rintro ⟨ha, hend⟩
        rw [hcommand] at hneg
        rcases hno with h0 | h0 | ⟨h0, -⟩ | ⟨-, h0⟩
        · omega
        · exact h0 ha
        · omega
        · exact hend h0
    rw [hstays]
    exact ⟨rfl, rfl⟩
  case against =>
    rw [actOnCommand_against _ (x := x) h (by rw [hcommand]; exact hd)]
    exact ⟨h, rfl⟩
  case haulIn =>
    rw [actOnCommand_haulIn _ (x := x) h, hcommand]
    split
    · exact ⟨h, rfl⟩
    · exact ⟨rfl, rfl⟩
  case payOut =>
    rw [actOnCommand_payOut _ (x := x) h, hcommand]
    split
    · exact ⟨h, rfl⟩
    · exact ⟨rfl, rfl⟩

end Sys2Proof.Machine


/-! CHANNELS in RUN and SETUP at every block, the throttle path, and FAILSAFE entry (R15, R17, R39, R75 to R83). -/

namespace Sys2Proof.Machine

/-! ## The demands alone change in the budget (R157) -/

theorem putSteering_alone (x : Steering) (s : State) : DemandsAlone s.budget (putSteering x s).budget :=
  (lightEvents_alone _ _).after (fileClaim_alone ..)

theorem putLights_alone (x : Lights) (s : State) : DemandsAlone s.budget (putLights x s).budget := fileClaim_alone ..

theorem functionUpdate_alone (r : FunctionRecord) (s : State) : DemandsAlone s.budget (functionUpdate r s).budget :=
  (putLights_alone _ _).after ((onWinchEvent_alone _ _).after ((putDrive_alone _ _).after (putSteering_alone _ _)))

/-! ## The function update in RUN and SETUP (R39) -/

/-- A function update leaves the blocks that the record does not reach. -/
theorem functionUpdate_eq (r : FunctionRecord) (s : State) (l : Link) :
    { functionUpdate r s with link := l } =
      { s with link := l, record := r, steering := (functionUpdate r s).steering, drive := (functionUpdate r s).drive
               winch := (functionUpdate r s).winch, lights := (functionUpdate r s).lights
               budget := (functionUpdate r s).budget } :=
  State.ext_fields (by simp) (by simp) rfl (by simp) rfl rfl rfl rfl (by simp) (by simp) rfl (by simp) (by simp) (by simp)

/-- Settles O12: `functionUpdate` on the state whose hold timer RUN has started afresh. -/
theorem channelsInRunAndSetup : Obligations.ChannelsInRunAndSetup := by
  refine ⟨fun p s r hs hp h hrec => ?_, fun p s r m hs hp h hrec hm => ?_⟩
  · obtain ⟨l, hexec, hrun, hhold, hrecovery⟩ := exec_channels_update hs hp h hrec
    have htakes := steeringUpdate_takes s.tables r s.steering
    obtain ⟨hwinchRecord, hwinchCommand, -⟩ := winchUpdate_quiet (winchContext s) r s.winch
    have hkept {x : LevelSource} {v : Bool} (hv : (x, v) ∈ updateSources s.tables.steer.indicatorThreshold r) :
        keptValue (functionUpdate r (heldAt s)).lights.kept x = v := functionUpdate_kept r _ hv
    refine ⟨_, hexec, functionUpdate_eq r (heldAt s) l, ?_, ?_, ?_, hrun, hrecovery, hhold, ?_, ?_, ?_,
      functionUpdate_scene r _, hkept (by simp [updateSources]), hkept (by simp [updateSources]),
      fun b => ⟨hkept (aux1Band_mem_updateSources _ r b), hkept (aux2Band_mem_updateSources _ r b)⟩,
      functionUpdate_alone r (heldAt s)⟩
    · exact (congrArg Steering.record (functionUpdate_steering r _)).trans htakes.record
    · rw [functionUpdate_drive]; rfl
    · exact (congrArg Winch.record (heldAt_winch r s)).trans hwinchRecord
    · exact (congrArg Winch.command (heldAt_winch r s)).trans hwinchCommand
    · exact (congrArg Steering.active (functionUpdate_steering r _)).trans htakes.active
    · rw [functionUpdate_drive]
  · obtain ⟨l, hexec, -⟩ := exec_channels_update hs hp h hrec
    have hmode : requestedFor s.tables.steer.modeMap r.steerSelBand s.steering.requested = m :=
      (requestedFor_eq _ _ _).trans hm.symm
    have htakes := steeringUpdate_takes s.tables r s.steering
    have hsteering : (functionUpdate r (heldAt s)).steering = steeringUpdate s.tables r s.steering :=
      functionUpdate_steering r _
    refine ⟨_, hexec, ?_⟩
    simp only [hsteering]
    refine ⟨htakes.requested.trans hmode, htakes.mode, fun hst hne => ?_, fun hst he => ?_, fun hst => ?_, htakes.corner⟩
    · exact steeringUpdate_other_targets hst (hmode ▸ hne)
    · obtain ⟨hsteady, -, htarget⟩ := steeringUpdate_same_targets hst (hmode.trans he)
      exact ⟨hsteady, he ▸ htarget⟩
    · obtain ⟨halign, -, htarget⟩ := steeringUpdate_align_targets (t := s.tables) (r := r) hst
      exact ⟨halign, htarget⟩

/-! ## The throttle path (R76 to R81) -/

theorem throttleT1_eq (r : DriveRecord) (p : ProtState) {v a : Int}
    (ha : a = (if 0 ≤ v then (v * r.forwardLimit).tdiv 1000 else (v * r.reverseLimit).tdiv 1000)) :
    throttleT1 r p v = if p = .limit ∧ (r.limitForwardCap : Int) < a then (r.limitForwardCap : Int) else a := by
  have hlimits : (if 0 < v then (v * r.forwardLimit).tdiv 1000
      else if v < 0 then (v * r.reverseLimit).tdiv 1000 else 0) = a := by
    rw [ha]
    rcases lt_trichotomy v 0 with h | h | h
    · rw [if_neg (by omega), if_pos h, if_neg (by omega)]
    · subst h
      simp
    · rw [if_pos h, if_pos (by omega)]
  simp only [throttleT1, hlimits]

theorem driveZeroed_run (p : ProtState) : driveZeroed .run p = decide (p = .cutoff) := by cases p <;> rfl

theorem reverseOf_iff (r : DriveRecord) (t2 : Int) : reverseOf r t2 = true ↔ t2 < -(r.reverseThreshold : Int) :=
  decide_eq_true_iff

theorem throttleFall_iff (r : DriveRecord) (previous new : Int) :
    throttleFall r previous new = true ↔
      (new = 0 ∨ (0 < new ∧ 0 < previous) ∨ (new < 0 ∧ previous < 0)) ∧ new.natAbs + r.brakeDelta ≤ previous.natAbs := by
  have hsign : new = 0 ∨ new.sign = previous.sign ↔ new = 0 ∨ (0 < new ∧ 0 < previous) ∨ (new < 0 ∧ previous < 0) := by
    rcases lt_trichotomy new 0 with h | h | h
    · have hne : new ≠ 0 := by omega
      simp [Int.sign_eq_neg_one_of_neg h, h, hne, eq_comm (a := (-1 : Int)), Int.sign_eq_neg_one_iff_neg, not_lt.mpr h.le]
    · simp [h]
    · have hne : new ≠ 0 := by omega
      simp [Int.sign_eq_one_of_pos h, h, hne, eq_comm (a := (1 : Int)), Int.sign_eq_one_iff_pos, not_lt.mpr h.le]
  simp only [throttleFall, Bool.and_eq_true, Bool.or_eq_true, beq_iff_eq, decide_eq_true_eq, hsign]

/-- DRV after a frame that RUN normalizes. -/
theorem heldAt_drive (r : FunctionRecord) (s : State) :
    (functionUpdate r (heldAt s)).drive =
      { throttlePath s.tables.drive s.link.run s.protection.state (grantOf s 1) { s.drive with record := r } with
        s6Active := true, s6Width := auxWidth r.aux2 } := functionUpdate_drive r _

/-- Settles O13: `throttlePath` in RUN, and its throttle fall. -/
theorem throttlePathInRun : Obligations.ThrottlePathInRun := by
  refine ⟨fun p s v a ceiling hs hp hr hf hv ha hceiling => ?_, fun p s hs hp hr hf => ?_⟩
  · obtain ⟨l, hexec, -⟩ := exec_channels_update hs hp (.inl ⟨hr, hf⟩) rfl
    have ht1 := throttleT1_eq s.tables.drive s.protection.state ha
    refine ⟨_, hexec, ?_⟩
    simp only [heldAt_drive, throttlePath, hr, driveZeroed_run, ← hv, ← ht1]
    refine ⟨trivial, rfl, ?_, ?_, rfl, reverseOf_iff _ _, rfl⟩
    · rw [hceiling]
      simp only [throttleT2, decide_eq_true_eq]
      rfl
    · simp only [driveDemand, decide_eq_true_eq]
  · obtain ⟨l, hexec, -⟩ := exec_channels_update hs hp (.inl ⟨hr, hf⟩) rfl
    refine ⟨_, hexec, ?_⟩
    simp only [heldAt_drive, throttlePath]
    refine ⟨fun h₁ h₂ => ?_, fun h => ?_⟩
    · have hfall := (throttleFall_iff _ _ _).mpr ⟨h₁, h₂⟩
      exact ⟨by rw [hfall, Bool.or_true], if_pos hfall⟩
    · have hno := mt (throttleFall_iff _ _ _).mp h
      exact ⟨by rw [eq_false_of_ne_true hno, Bool.or_false], if_neg hno⟩

end Sys2Proof.Machine


/-! FAILSAFE entry (R17, R41, R96), and the clutch handshake at a function update (R101 to R103). -/

namespace Sys2Proof.Machine

/-! ## WCH at FAILSAFE entry -/

/-- Outside RUN a function update finds no command to act on and no release to make. -/
theorem winchUpdate_outside {c : WinchContext} (hc : c.run ≠ .run) (r : FunctionRecord) {w : Winch}
    (hh : hauling w.state = false) (hr : released w.state = false) :
    (winchUpdate c r w).winch = { evaluateRequest c { w with record := r, command := 0 } with filed := 0 } := by
  have hinformed : informed c w r = evaluateRequest c { w with record := r, command := 0 } := by
    rw [informed, if_neg hc]
  have hstays (x : WinchStep) (hx : x.winch.state = w.state) (h0 : x.winch.command = 0) : actOnCommand c x = x := by
    cases hst : w.state <;> rw [hst] at hx hh hr
    case haulIn => cases hh
    case payOut => cases hh
    case idle => exact actOnCommand_stays c (.inl hx) (fun k => by omega) (fun k => by omega)
    case rampDown => exact actOnCommand_stays c (.inr hx) (fun k => by omega) (fun k => by omega)
    case clutchOut => cases hr
    case freespool => cases hr
    case clutchIn => exact actOnCommand_heedless c (by rw [hx]; rfl)
    case fault => exact actOnCommand_heedless c (by rw [hx]; rfl)
  rw [winchUpdate_eq, actOnRequest_engaged c (x := winchBegin (informed c w r)) hr,
    tryRelease_not_due c (releaseDue_outside (.inl hc) _), hinformed, hstays _ rfl rfl, refile_winch,
    winchDemand_resting c (by exact hh)]
  rfl

/-- WCH's context once the run state is FAILSAFE. -/
def failsafeContext (s : State) : WinchContext := { winchContext s with run := .failsafe }

/-- The state in which FNM applies its failsafe values. -/
def failsafeBegun (s : State) : State :=
  deliverRun .failsafe (setFlag .failsafeEntered (restartHold (putRecovery 0 s)))

theorem enterFailsafe_eq (s : State) :
    enterFailsafe s = functionUpdate (failsafeRecord s.tables.func s.record) (failsafeBegun s) := by
  simp [enterFailsafe, applyFailsafe, failsafeBegun]

theorem failsafeBegun_winch (s : State) : (failsafeBegun s).winch = haltedWinch (failsafeContext s) s.winch := by
  have hcontext : { winchContext (setFlag .failsafeEntered (restartHold (putRecovery 0 s))) with run := RunState.failsafe }
      = failsafeContext s := rfl
  rw [failsafeBegun, deliverRun_winch_eq, hcontext, winchRunChange_halts (by simp [failsafeContext]),
    show ((failsafeContext s).run == .failsafe) = true from rfl,
    winchHalt_winch_returns _ (.inl (by simp [failsafeContext]))]
  rfl

theorem failsafeBegun_context (s : State) : winchContext (failsafeBegun s) = failsafeContext s := by
  have hlines : (failsafeBegun s).inputs.lines = s.inputs.lines := by simp [failsafeBegun, setFlag, raiseFlag]
  have hgrant : (failsafeBegun s).budget.grant = s.budget.grant := by
    simp only [failsafeBegun, deliverRun, lightEvent, putLights_grant, onWinchEvent_grant, driveCompute, putDrive_grant]
    rfl
  have htables : (failsafeBegun s).tables = s.tables := by simp [failsafeBegun]
  have hprot : (failsafeBegun s).protection = s.protection := by simp [failsafeBegun]
  have hrun : (failsafeBegun s).link.run = .failsafe := by simp [failsafeBegun]
  simp [failsafeContext, winchContext, grantOf, inputActive, lineActive, hlines, hgrant, htables, hprot, hrun]

/-- WCH after FAILSAFE entry: halted, with the failsafe record. -/
theorem enterFailsafe_winch (s : State) :
    (enterFailsafe s).winch =
      { evaluateRequest (failsafeContext s)
          { haltedWinch (failsafeContext s) s.winch with record := failsafeRecord s.tables.func s.record, command := 0 }
        with filed := 0 } := by
  obtain ⟨hh, hr⟩ := haltedWinch_rests (failsafeContext s) s.winch
  rw [enterFailsafe_eq, functionUpdate_winch_eq, failsafeBegun_context, failsafeBegun_winch,
    winchUpdate_outside (by simp [failsafeContext]) _ hh hr]

/-! ## FAILSAFE entry at every block (R17) -/

theorem failsafeOf_eq (e : FuncEntry) (v : Int) :
    failsafeOf e v = if e.failsafe = .preset then e.failsafeValue else v := by
  unfold failsafeOf
  cases e.failsafe <;> rfl

theorem exec_holdTimerExpiry {s : State} (h : s.link.hold.running = true) :
    exec .holdTimerExpiry s = .next (holdExpired s) := congrArg Host.Outcome.next (if_pos h)

theorem holdExpired_run {s : State} (h : s.link.run = .run) : holdExpired s = enterFailsafe s := by
  simp only [holdExpired, h]

/-- The two ways into FAILSAFE are `enterFailsafe`, of a part whose link alone may differ. -/
theorem exec_enterFailsafe {s : State} {c : Instr} (hr : s.link.run = .run)
    (hc : (c = .holdTimerExpiry ∧ s.link.hold.running = true)
      ∨ (∃ p, c = .channels p ∧ p.length = 16 ∧ receiverFailsafe p = true ∧ Listening s)) :
    ∃ k l : Link, exec c s = .next { enterFailsafe { s with link := k } with link := l }
      ∧ l.run = .failsafe ∧ l.recovery = 0
      ∧ ∃ x : Timer, l.hold = startTimer s.tables.link.holdTime x ∧ s.link.hold.starts ≤ x.starts := by
  rcases hc with ⟨rfl, hrunning⟩ | ⟨p, rfl, hp, hf, hs⟩
  · refine ⟨s.link, (enterFailsafe s).link, ?_, ?_⟩
    · rw [exec_holdTimerExpiry hrunning, holdExpired_run hr]
    · rw [enterFailsafe_link]
      exact ⟨rfl, rfl, _, rfl, le_rfl⟩
  · obtain ⟨l, hexec, hrun, hhold, hrecovery⟩ := exec_channels_handled hs hp (by rw [hr]; decide)
    have hr' : (putReceiver receiverHunting s).link.run = .run := hr
    have hhandled : channelsHandled p (putReceiver receiverHunting s) =
        enterFailsafe (restartHold (putReceiver receiverHunting s)) := by
      simp only [channelsHandled, hr', hf]
      rfl
    rw [hhandled, enterFailsafe_link] at hrun hhold hrecovery
    rw [hhandled] at hexec
    exact ⟨_, l, hexec, hrun, hrecovery, _, hhold, Nat.le_succ _⟩

theorem enterFailsafe_drive (s : State) : (enterFailsafe s).drive.t2 = 0 ∧ (enterFailsafe s).drive.filed = 0 := by
  have hzero : driveZeroed (failsafeBegun s).link.run (failsafeBegun s).protection.state = true := by
    simp [failsafeBegun, driveZeroed]
  rw [enterFailsafe_eq, functionUpdate_drive]
  exact ⟨if_pos hzero, if_pos hzero⟩

theorem enterFailsafe_inputs (s : State) : (enterFailsafe s).inputs = raiseFlag .failsafeEntered s.inputs := by
  rw [enterFailsafe_eq, functionUpdate_inputs, failsafeBegun, deliverRun_inputs]
  rfl

/-- Settles O14: `enterFailsafe`, block by block. -/
theorem failsafeEntry : Obligations.FailsafeEntry := by
  intro s c hr hc
  obtain ⟨k, l, hexec, hrun, hrecovery, x, hhold, hstarts⟩ := exec_enterFailsafe hr hc
  have hwinch := enterFailsafe_winch { s with link := k }
  have hrecord : (enterFailsafe { s with link := k }).record = failsafeRecord s.tables.func s.record := by
    rw [enterFailsafe_eq, functionUpdate_record]
  have hinputs := enterFailsafe_inputs { s with link := k }
  obtain ⟨ht2, hfiled⟩ := enterFailsafe_drive { s with link := k }
  have hframe := State.eq_of_untouched (s := s) (t := { enterFailsafe { s with link := k } with link := l })
    (by simp) (by simp) (by simp) (by simp) (by simp) (by simp)
  obtain ⟨hh, hre⟩ := haltedWinch_rests (failsafeContext { s with link := k }) s.winch
  generalize enterFailsafe { s with link := k } = e at hexec hwinch hrecord hinputs ht2 hfiled hframe
  refine ⟨_, hexec, hframe, hrun, hrecovery, congrArg Timer.running hhold, congrArg Timer.length hhold,
    (Nat.lt_succ_of_le hstarts).trans_eq (congrArg Timer.starts hhold).symm, hinputs, ?_, ht2, hfiled,
    congrArg Winch.command hwinch, (congrArg (fun w => hauling w.state) hwinch).trans hh,
    (congrArg (fun w => released w.state) hwinch).trans hre, fun hm => ?_⟩
  · simp only [hrecord, failsafeRecord, failsafeOf_eq]
  · rw [haltedWinch_hauling (failsafeContext { s with link := k }) hm] at hwinch
    exact ⟨congrArg Winch.state hwinch, (congrArg Winch.duty hwinch).trans rfl⟩

end Sys2Proof.Machine


/-! The input lines: one sample, one accepted transition, and the home and clutch switches at the winch (R99, R102, R104,
R171, R172, R175). -/

namespace Sys2Proof.Machine

/-! ## An event of a line (R172, R175) -/

section Events

variable (n : Fin 4) (active : Bool) (s : State)

theorem winchHomeEvent_flags (c : WinchContext) (w : Winch) : (winchHomeEvent c w).flags = [] := by
  unfold winchHomeEvent
  dsimp only
  split
  · exact (toIdle_quiet c _).flags
  · rfl

theorem winchLineEvent_flags (c : WinchContext) (w : Winch) : (winchLineEvent n active c w).flags = [] := by
  have hengaged : (winchEngaged c w).flags = [] := by
    unfold winchEngaged
    split
    · exact (toIdle_quiet c _).flags
    · rfl
  have hdisengaged : (winchDisengaged c w).flags = [] := by
    unfold winchDisengaged
    split <;> rfl
  unfold winchLineEvent
  split
  · split
    · exact winchHomeEvent_flags c w
    · rfl
  · split
    · split
      · exact hengaged
      · exact hdisengaged
    · rfl

theorem lineEvent_inputs : (lineEvent n active s).inputs = edgeAtEvent n active s.inputs := by
  simp only [lineEvent, lightEvent_inputs]
  exact onWinchEvent_inputs (winchLineEvent_flags n active _ _)

theorem edgeAtEvent_context : winchContext { s with inputs := edgeAtEvent n active s.inputs } = winchContext s := by
  simp [winchContext, inputActive, edgeAtEvent_lineActive, grantOf]

theorem lineEvent_winch_eq :
    (lineEvent n active s).winch = (winchLineEvent n active (winchContext s) s.winch).winch := by
  simp only [lineEvent, lightEvent_winch, onWinchEvent_winch, edgeAtEvent_context]

theorem lineEvent_alone : DemandsAlone s.budget (lineEvent n active s).budget :=
  (putLights_alone _ _).after (onWinchEvent_alone _ { s with inputs := edgeAtEvent n active s.inputs })

theorem lineEvent_eq :
    lineEvent n active s =
      { s with winch := (lineEvent n active s).winch, lights := (lineEvent n active s).lights
               inputs := (lineEvent n active s).inputs
               budget := { s.budget with demand := (lineEvent n active s).budget.demand } } :=
  State.ext_fields (by simp) (by simp) (by simp) (by simp) (by simp) (by simp) rfl rfl (by simp) (by simp)
    (lineEvent_alone n active s) rfl (by simp) (by simp)

/-- IN2 and IN3 do not reach the winch. -/
theorem winchLineEvent_aside {n : Fin 4} (h₀ : n ≠ 0) (h₁ : n ≠ 1) (c : WinchContext) (w : Winch) :
    winchLineEvent n active c w = winchBegin w := by simp [winchLineEvent, h₀, h₁]

end Events

/-! ## One sample (R171) -/

section Sample

variable {n : Fin 4} {v : Level} {s : State}

/-- A sample that the debounce lets through. -/
abbrev AcceptsSample (s : State) (n : Fin 4) (v : Level) : Prop :=
  v ≠ s.inputs.lines[n].level ∧ s.tables.input[n].debounce ≤ s.inputs.lines[n].runCount

theorem sampleLine_counts {d : Nat} {v : Level} {l : Line} (h : v ≠ l.level) (hc : l.runCount < d) :
    sampleLine d v l = ({ l with runCount := l.runCount + 1 }, false) :=
  (if_neg h).trans (if_neg (by omega))

theorem sampleLine_accepts {d : Nat} {v : Level} {l : Line} (h : v ≠ l.level) (hc : d ≤ l.runCount) :
    sampleLine d v l = ({ l with level := v, runCount := 0 }, true) := (if_neg h).trans (if_pos (by omega))

theorem takeSample_same (h : v = s.inputs.lines[n].level) :
    takeSample v n s = putLine n { s.inputs.lines[n] with runCount := 0 } s := by
  simp [takeSample, sampleLine, h]

theorem takeSample_counts (h : v ≠ s.inputs.lines[n].level)
    (hc : s.inputs.lines[n].runCount < s.tables.input[n].debounce) :
    takeSample v n s = putLine n { s.inputs.lines[n] with runCount := s.inputs.lines[n].runCount + 1 } s := by
  simp only [takeSample, sampleLine_counts h hc]
  rfl

/-- A line at which a level has been accepted. -/
def settledLine (n : Fin 4) (v : Level) (s : State) : State :=
  putLine n { s.inputs.lines[n] with level := v, runCount := 0 } s

theorem takeSample_accepts (h : AcceptsSample s n v) :
    takeSample v n s = lineEvent n (v == s.tables.input[n].active) (settledLine n v s) := by
  have hactive : inputActive (settledLine n v s) n = (v == s.tables.input[n].active) := by
    simp [inputActive, lineActive, settledLine, putLine]
  simp only [takeSample, sampleLine_accepts h.1 h.2, if_true, ← hactive]
  rfl

/-- A sample without an accepted transition reaches the lines alone. -/
theorem takeSample_quiet (h : ¬AcceptsSample s n v) : ∃ l, takeSample v n s = putLine n l s := by
  by_cases hv : v = s.inputs.lines[n].level
  · exact ⟨_, takeSample_same hv⟩
  · exact ⟨_, takeSample_counts hv (not_le.mp fun hc => h ⟨hv, hc⟩)⟩

theorem takeSample_alone (v : Level) (n : Fin 4) (s : State) : DemandsAlone s.budget (takeSample v n s).budget := by
  by_cases h : AcceptsSample s n v
  · rw [takeSample_accepts h]
    exact lineEvent_alone _ _ (settledLine n v s)
  · obtain ⟨l, hl⟩ := takeSample_quiet h
    rw [hl]
    rfl

theorem putLine_line_same (l : Line) : (putLine n l s).inputs.lines[n] = l := by simp [putLine]

theorem putLine_line_other {m : Fin 4} (h : n ≠ m) (l : Line) : (putLine n l s).inputs.lines[m] = s.inputs.lines[m] := by
  have hn : n.val ≠ m.val := fun e => h (Fin.ext e)
  simp [putLine, hn]

end Sample

/-! ## The edge flag and the edge arm (R175) -/

section Edge

variable (n : Fin 4) (x : Inputs)

theorem edgeAtEvent_line_other {m : Fin 4} (h : n ≠ m) (active : Bool) :
    (edgeAtEvent n active x).lines[m] = x.lines[m] := by
  have hn : n.val ≠ m.val := fun e => h (Fin.ext e)
  unfold edgeAtEvent
  split <;> [split; skip]
  · rfl
  · rfl
  · simp [hn]

theorem edgeAtEvent_flag_other {m : Fin 4} (h : n ≠ m) (active : Bool) :
    (edgeAtEvent n active x).flags[11 + m.val] = x.flags[11 + m.val] := by
  have hn : 11 + n.val ≠ 11 + m.val := fun e => h (Fin.ext (by omega))
  unfold edgeAtEvent
  split <;> [split; skip]
  · exact Vector.getElem_set_ne (flagIndex (.edge n)).isLt (by omega) hn
  · rfl
  · rfl

theorem edgeAtEvent_active : (edgeAtEvent n true x).lines = x.lines := by
  unfold edgeAtEvent
  rw [if_pos rfl]
  split <;> rfl

theorem edgeAtEvent_flag :
    (edgeAtEvent n true x).flags[11 + n.val] = (x.lines[n].armed || x.flags[11 + n.val]) := by
  unfold edgeAtEvent
  rw [if_pos rfl]
  by_cases h : x.lines[n].armed = true
  · rw [if_pos h, h]
    simp [raiseFlag, flagIndex]
  · rw [if_neg h, eq_false_of_ne_true h]
    rfl

theorem edgeAtEvent_inactive :
    edgeAtEvent n false x = { x with lines := x.lines.set n.val { x.lines[n] with armed := true } } := rfl

end Edge

end Sys2Proof.Machine


/-! The sample tick (R171), with the home switch (R99) and the clutch switch (R102 to R104). -/

namespace Sys2Proof.Machine

/-! ## The four lines, each on its own (R171) -/

theorem takeSamples_eq (v : Vector Level 4) (s : State) :
    takeSamples v s = takeSample v[3] 3 (takeSample v[2] 2 (takeSample v[1] 1 (takeSample v[0] 0 s))) := by
  simp [takeSamples, List.finRange_succ]

/-- What the sample of another line leaves of line `n`. -/
structure OtherLine (n : Fin 4) (s t : State) : Prop where
  line : t.inputs.lines[n] = s.inputs.lines[n]
  flag : t.inputs.flags[11 + n.val] = s.inputs.flags[11 + n.val]
  tables : t.tables = s.tables
  count : n = 0 → CountKept s.winch t.winch

theorem OtherLine.refl (n : Fin 4) (s : State) : OtherLine n s s := ⟨rfl, rfl, rfl, fun _ => .refl _⟩

theorem OtherLine.after {n : Fin 4} {s t u : State} (k : OtherLine n t u) (h : OtherLine n s t) : OtherLine n s u :=
  ⟨k.line.trans h.line, k.flag.trans h.flag, k.tables.trans h.tables, fun hn => (k.count hn).after (h.count hn)⟩

theorem takeSample_otherLine {m n : Fin 4} (h : m ≠ n) (v : Level) (s : State) : OtherLine n s (takeSample v m s) := by
  by_cases ha : AcceptsSample s m v
  · rw [takeSample_accepts ha]
    refine ⟨?_, ?_, by simp [settledLine, putLine], fun hn => ?_⟩
    · rw [lineEvent_inputs, edgeAtEvent_line_other m _ h]
      exact putLine_line_other h _
    · rw [lineEvent_inputs, edgeAtEvent_flag_other m _ h]
      rfl
    · exact lineEvent_count (fun k => h (k.1.trans hn.symm)) (settledLine m v s)
  · obtain ⟨l, hl⟩ := takeSample_quiet ha
    rw [hl]
    exact ⟨putLine_line_other h l, rfl, rfl, fun _ => .refl _⟩

/-- The sample of line `n` stands between samples of other lines. -/
theorem takeSamples_around (v : Vector Level 4) (n : Fin 4) (s : State) :
    ∃ u, OtherLine n s u ∧ OtherLine n (takeSample v[n] n u) (takeSamples v s) := by
  rw [takeSamples_eq]
  match n with
  | 0 =>
    exact ⟨_, .refl _ _, (takeSample_otherLine (by decide) _ _).after
      ((takeSample_otherLine (by decide) _ _).after (takeSample_otherLine (by decide) _ _))⟩
  | 1 =>
    exact ⟨_, takeSample_otherLine (by decide) _ _,
      (takeSample_otherLine (by decide) _ _).after (takeSample_otherLine (by decide) _ _)⟩
  | 2 =>
    exact ⟨_, (takeSample_otherLine (by decide) _ _).after (takeSample_otherLine (by decide) _ _),
      takeSample_otherLine (by decide) _ _⟩
  | 3 =>
    exact ⟨_, (takeSample_otherLine (by decide) _ _).after
      ((takeSample_otherLine (by decide) _ _).after (takeSample_otherLine (by decide) _ _)), .refl _ _⟩

theorem takeSamples_alone (v : Vector Level 4) (s : State) : DemandsAlone s.budget (takeSamples v s).budget := by
  rw [takeSamples_eq]
  exact (takeSample_alone _ _ _).after
    ((takeSample_alone _ _ _).after ((takeSample_alone _ _ _).after (takeSample_alone _ _ _)))

theorem takeSamples_frame (v : Vector Level 4) (s : State) :
    takeSamples v s =
      { s with winch := (takeSamples v s).winch, lights := (takeSamples v s).lights, inputs := (takeSamples v s).inputs
               budget := { s.budget with demand := (takeSamples v s).budget.demand } } :=
  State.ext_fields (by simp) (by simp) (by simp) (by simp) (by simp) (by simp) rfl rfl (by simp) (by simp)
    (takeSamples_alone v s) rfl (by simp) (by simp)

/-- An accepted level: the line, its edge flag and its arm. -/
theorem takeSample_settles {n : Fin 4} {v : Level} {s : State} (h : AcceptsSample s n v) :
    (takeSample v n s).inputs.lines[n].level = v ∧ (takeSample v n s).inputs.lines[n].runCount = 0
      ∧ (v = s.tables.input[n].active →
          (takeSample v n s).inputs.flags[11 + n.val] = (s.inputs.lines[n].armed || s.inputs.flags[11 + n.val])
            ∧ (takeSample v n s).inputs.lines[n].armed = s.inputs.lines[n].armed
            ∧ (n = 0 → (takeSample v n s).winch.line = 0 ∧ (takeSample v n s).winch.homed = true))
      ∧ (v ≠ s.tables.input[n].active → (takeSample v n s).inputs.lines[n].armed = true) := by
  have hline : (settledLine n v s).inputs.lines[n] = { s.inputs.lines[n] with level := v, runCount := 0 } :=
    putLine_line_same _
  rw [takeSample_accepts h]
  by_cases hv : v = s.tables.input[n].active
  · rw [beq_iff_eq.mpr hv, lineEvent_inputs, edgeAtEvent_active, edgeAtEvent_flag, hline]
    refine ⟨rfl, rfl, fun _ => ⟨rfl, rfl, fun hn => ?_⟩, fun hno => absurd hv hno⟩
    subst hn
    exact lineEvent_homes _
  · rw [beq_eq_false_iff_ne.mpr hv, lineEvent_inputs, edgeAtEvent_inactive]
    exact ⟨by simp [settledLine, putLine], by simp [settledLine, putLine], fun k => absurd k hv, fun _ => by simp⟩

theorem exec_sampleTick {s : State} (h : s.inputs.ticking = true) (i₀ i₁ i₂ i₃ : Level) :
    exec (.sampleTick i₀ i₁ i₂ i₃) s = .next (takeSamples #v[i₀, i₁, i₂, i₃] s) :=
  congrArg Host.Outcome.next (if_pos h)

/-! ## The home switch (R99) -/

section Home

variable (c : WinchContext) (w : Winch)

/-- WCH homed, its drum stopped. -/
def homedWinch : Winch :=
  { w with line := 0, homed := true, duty := 0, noMotionTimer := stopTimer w.noMotionTimer
           stallTimer := stopTimer w.stallTimer }

theorem tryRelease_msgs {x : WinchStep} (h : x.winch.state = .idle) :
    (tryRelease c x).msgs = x.msgs ++ if releaseDue c x.winch then winchSources .idle .clutchOut else [] := by
  rw [tryRelease_idle c x h]
  split
  · simp [onWinch, enterWinch, h]
  · simp

theorem toIdle_msgs (x : WinchStep) :
    (toIdle c x).msgs = x.msgs ++ winchSources x.winch.state .idle
      ++ if releaseDue c x.winch then winchSources .idle .clutchOut else [] := by
  rw [toIdle, tryRelease_msgs c rfl]
  rfl

theorem winchHomeEvent_elsewhere {w : Winch} (h : w.state ≠ .haulIn) :
    winchHomeEvent c w =
      { winch := { w with line := 0, homed := true }, msgs := [{ sets := [], fired := some .homeSeen }], flags := [] } :=
  if_neg h

theorem winchHomeEvent_hauling {w : Winch} (h : w.state = .haulIn) :
    (winchHomeEvent c w).winch =
        (if releaseDue c w then releasedWinch c (idleWinch c (homedWinch w)) else idleWinch c (homedWinch w))
      ∧ (winchHomeEvent c w).msgs =
        { sets := [], fired := some .homeSeen } :: winchSources .haulIn .idle
          ++ if releaseDue c w then winchSources .idle .clutchOut else [] := by
  unfold winchHomeEvent
  dsimp only
  rw [if_pos h, toIdle_winch, toIdle_msgs]
  refine ⟨rfl, ?_⟩
  simp only [onWinch, h]
  rfl

/-- The changes of WCH's sources at the home event. -/
def homeSources : List (List (LevelSource × Bool)) :=
  if w.state = .haulIn then
    (if releaseDue c w then [[(.winchMoving, false)], [(.winchFree, true)]] else [[(.winchMoving, false)]])
  else []

theorem winchHomeEvent_msgs :
    (winchHomeEvent c w).msgs =
      { sets := [], fired := some .homeSeen } :: (homeSources c w).map fun m => { sets := m, fired := none } := by
  unfold homeSources
  by_cases h : w.state = .haulIn
  · rw [(winchHomeEvent_hauling c h).2, if_pos h]
    split <;> rfl
  · rw [winchHomeEvent_elsewhere c h, if_neg h]
    rfl

end Home

/-- LTC after a list of events. -/
theorem lightEvents_lights (ms : List LightMsg) (s : State) :
    (lightEvents ms s).lights = ms.foldl (fun x m => lightsEvent s.tables (grantOf s 3) false m x) s.lights := by
  induction ms generalizing s with
  | nil => rfl
  | cons m ms ih =>
    rw [lightEvents_cons, ih, lightEvent, putLights_lights, putLights_tables]
    simp [grantOf]

theorem onWinchEvent_lights (f : WinchContext → Winch → WinchStep) (s : State) :
    (onWinchEvent f s).lights =
      (f (winchContext s) s.winch).msgs.foldl (fun x m => lightsEvent s.tables (grantOf s 3) false m x) s.lights := by
  rw [onWinchEvent, putWinch, lightEvents_lights]
  simp [grantOf, setFlags]

theorem lineEvent_lights (n : Fin 4) (active : Bool) (s : State) :
    (lineEvent n active s).lights =
      lightsEvent s.tables (grantOf s 3) false (lineLightMsg n active)
        ((winchLineEvent n active (winchContext s) s.winch).msgs.foldl
          (fun x m => lightsEvent s.tables (grantOf s 3) false m x) s.lights) := by
  rw [lineEvent, lightEvent, putLights_lights, onWinchEvent_lights, edgeAtEvent_context]
  simp [grantOf]

/-! ## The sample tick (R171, R99) -/

theorem takeSample_winch_aside {n : Fin 4} (h₀ : n ≠ 0) (h₁ : n ≠ 1) (v : Level) (s : State) :
    (takeSample v n s).winch = s.winch := by
  by_cases h : AcceptsSample s n v
  · rw [takeSample_accepts h, lineEvent_winch_eq, winchLineEvent_aside _ h₀ h₁]
    rfl
  · obtain ⟨l, hl⟩ := takeSample_quiet h
    rw [hl]
    rfl

theorem takeSample_winch_quiet {n : Fin 4} {v : Level} {s : State} (h : ¬AcceptsSample s n v) :
    (takeSample v n s).winch = s.winch ∧ (takeSample v n s).lights = s.lights := by
  obtain ⟨l, hl⟩ := takeSample_quiet h
  rw [hl]
  exact ⟨rfl, rfl⟩

theorem OtherLine.accepts_iff {n : Fin 4} {s t : State} (h : OtherLine n s t) (v : Level) :
    AcceptsSample t n v ↔ AcceptsSample s n v := by
  unfold AcceptsSample
  rw [h.line, h.tables]

/-- WCH reads of the lines at an accepted transition of IN0 what it read before but for the home switch. -/
theorem settledLine_release (n : Fin 4) (v : Level) (s : State) :
    releaseDue (winchContext (settledLine n v s)) s.winch = true ↔ s.winch.request = true ∧ s.link.run = .run
      ∧ s.protection.state ≠ .cutoff ∧ s.winch.releaseBlock = false := releaseDue_iff _ _

/-- Settles O51: each line between the samples of the others; IN0's event first, with WCH's home event. -/
theorem sampleTick : Obligations.SampleTick := by
  refine ⟨fun s in0 in1 in2 in3 samples hticking hsamples => ?_,
    fun s in0 in1 in2 in3 release event hticking hactive hne hdeb hquiet hrelease hevent => ?_⟩
  · subst hsamples
    refine ⟨_, exec_sampleTick hticking .., takeSamples_frame _ s, fun n => ?_⟩
    generalize #v[in0, in1, in2, in3] = v
    obtain ⟨u, before, behind⟩ := takeSamples_around v n s
    rw [behind.line, behind.flag, ← before.line, ← before.flag, ← before.tables]
    refine ⟨fun h => ?_, fun h hc => ?_, fun h hc => ?_⟩
    · rw [takeSample_same h]
      exact putLine_line_same _
    · rw [takeSample_counts h (Nat.lt_of_succ_lt_succ hc)]
      exact putLine_line_same _
    · obtain ⟨hlevel, hrun, hactive, hinactive⟩ := takeSample_settles (n := n) (s := u) ⟨h, Nat.le_of_succ_le_succ hc⟩
      refine ⟨hlevel, hrun, fun hv => ?_, hinactive⟩
      obtain ⟨hflag, harm, hhome⟩ := hactive hv
      refine ⟨fun ha => by rw [hflag, ha]; rfl, fun ha => by rw [hflag, ha]; rfl, harm, fun hn => ?_⟩
      rw [(behind.count hn).line, (behind.count hn).homed]
      exact hhome hn
  · have haccepts : AcceptsSample s 0 in0 := ⟨hne, hdeb⟩
    have hfirst : takeSample in0 0 s = lineEvent 0 true (settledLine 0 in0 s) := by
      have h := takeSample_accepts haccepts
      rwa [show (in0 == s.tables.input[(0 : Fin 4)].active) = true from beq_iff_eq.mpr hactive] at h
    have hquiet1 : ¬AcceptsSample (takeSample in0 0 s) 1 in1 := by
      rw [(takeSample_otherLine (by decide) in0 s).accepts_iff]
      exact fun k => hquiet.elim k.1 (not_lt.mpr k.2)
    have hwinch : (takeSamples #v[in0, in1, in2, in3] s).winch =
        (winchHomeEvent (winchContext (settledLine 0 in0 s)) s.winch).winch := by
      rw [takeSamples_eq, takeSample_winch_aside (by decide) (by decide), takeSample_winch_aside (by decide) (by decide)]
      refine (takeSample_winch_quiet hquiet1).1.trans ?_
      rw [hfirst, lineEvent_winch_eq]
      rfl
    have hdue := (settledLine_release 0 in0 s).trans hrelease.symm
    refine ⟨_, homeSources (winchContext (settledLine 0 in0 s)) s.winch, exec_sampleTick hticking .., fun h => ?_,
      fun h hno => ?_, fun h hyes => ?_, fun hquiet2 hquiet3 => ?_⟩
    · rw [hwinch, winchHomeEvent_elsewhere _ h]
      exact ⟨if_neg h, rfl⟩
    · rw [hwinch, (winchHomeEvent_hauling _ h).1, homeSources, if_pos h, if_neg fun k => hno (hdue.mp k),
        if_neg fun k => hno (hdue.mp k), idleWinch, engagedWidth_engaged _ (by rw [homedWinch, h]; rfl)]
      exact ⟨rfl, rfl⟩
    · rw [hwinch, (winchHomeEvent_hauling _ h).1, homeSources, if_pos h, if_pos (hdue.mpr hyes),
        if_pos (hdue.mpr hyes)]
      exact ⟨rfl, rfl⟩
    · have hother2 : ¬AcceptsSample (takeSample in1 1 (takeSample in0 0 s)) 2 in2 := by
        rw [(takeSample_otherLine (by decide) in1 _).accepts_iff, (takeSample_otherLine (by decide) in0 s).accepts_iff]
        exact fun k => hquiet2.elim k.1 (not_lt.mpr k.2)
      have hother3 : ¬AcceptsSample (takeSample in2 2 (takeSample in1 1 (takeSample in0 0 s))) 3 in3 := by
        rw [(takeSample_otherLine (by decide) in2 _).accepts_iff, (takeSample_otherLine (by decide) in1 _).accepts_iff,
          (takeSample_otherLine (by decide) in0 s).accepts_iff]
        exact fun k => hquiet3.elim k.1 (not_lt.mpr k.2)
      have hlights : (takeSamples #v[in0, in1, in2, in3] s).lights = (lineEvent 0 true (settledLine 0 in0 s)).lights := by
        rw [takeSamples_eq]
        exact (takeSample_winch_quiet hother3).2.trans
          ((takeSample_winch_quiet hother2).2.trans ((takeSample_winch_quiet hquiet1).2.trans (by rw [hfirst])))
      have hevents : event = fun m x => lightsEvent s.tables s.budget.grant[3] false m x := by
        funext m x
        exact hevent m x
      rw [hlights, lineEvent_lights, hevents]
      simp only [winchLineEvent, if_true]
      rw [show (settledLine 0 in0 s).winch = s.winch from rfl, winchHomeEvent_msgs, List.foldl_cons, List.foldl_map]
      rfl

end Sys2Proof.Machine


/-! The clutch handshake (R101 to R104). -/

namespace Sys2Proof.Machine

/-! ## The freespool request stands through WCH's operations (R101) -/

/-- What the operations of an update leave of the request. -/
structure RequestKept (v w : Winch) : Prop where
  request : w.request = v.request
  block : w.releaseBlock = v.releaseBlock

theorem RequestKept.refl (w : Winch) : RequestKept w w := ⟨rfl, rfl⟩

theorem RequestKept.after {u v w : Winch} (k : RequestKept v w) (h : RequestKept u v) : RequestKept u w :=
  ⟨k.request.trans h.request, k.block.trans h.block⟩

section Requests

variable (c : WinchContext) (x : WinchStep)

theorem refile_request : RequestKept x.winch (refile c x).winch := ⟨rfl, rfl⟩

theorem toHauling_request (st : WinchState) (d : Direction) : RequestKept x.winch (toHauling c st d x).winch := ⟨rfl, rfl⟩

theorem toRampDown_request : RequestKept x.winch (toRampDown c x).winch := ⟨rfl, rfl⟩

theorem tryRelease_request : RequestKept x.winch (tryRelease c x).winch := by
  unfold tryRelease
  split <;> exact ⟨rfl, rfl⟩

theorem toIdle_request : RequestKept x.winch (toIdle c x).winch := (tryRelease_request c _).after ⟨rfl, rfl⟩

theorem toClutchIn_request : RequestKept x.winch (toClutchIn c x).winch := by
  unfold toClutchIn
  dsimp only
  split
  · exact (toIdle_request c _).after ⟨rfl, rfl⟩
  · exact ⟨rfl, rfl⟩

theorem actOnRequest_request : RequestKept x.winch (actOnRequest c x).winch := by
  unfold actOnRequest
  split <;> [split; skip]
  · exact .refl _
  · exact toClutchIn_request c x
  · exact tryRelease_request c x

theorem actOnCommand_request : RequestKept x.winch (actOnCommand c x).winch := by
  unfold actOnCommand
  dsimp only
  split <;> (try split) <;> (try split) <;> exact ⟨rfl, rfl⟩

theorem winchUpdate_request (r : FunctionRecord) (w : Winch) : RequestKept (informed c w r) (winchUpdate c r w).winch :=
  (refile_request c _).after ((actOnCommand_request c _).after (actOnRequest_request c (winchBegin (informed c w r))))

end Requests

theorem freespoolRequest_iff (r : WinchRecord) (f : FunctionRecord) :
    freespoolRequest r f = true ↔ (r.freespoolSource = some .aux1 ∧ f.aux1Band = some r.freespoolBand)
      ∨ (r.freespoolSource = some .aux2 ∧ f.aux2Band = some r.freespoolBand) := by
  unfold freespoolRequest
  cases h : r.freespoolSource with
  | none => simp
  | some x => cases x <;> simp

/-! ## A function update in RUN at a winch at rest (R101 to R103) -/

section Handshake

variable {c : WinchContext} {w : Winch} {r : FunctionRecord}

theorem informed_present (hc : c.run = .run) (h : freespoolRequest c.record r = true) :
    informed c w r = { w with record := r, command := r.winch, request := true } := by
  simp [informed, evaluateRequest, hc, h]

theorem informed_absent (hc : c.run = .run) (h : freespoolRequest c.record r = false) :
    informed c w r = { w with record := r, command := r.winch, request := false, releaseBlock := false } := by
  simp [informed, evaluateRequest, hc, h]

theorem winchUpdate_releases (hc : c.run = .run) (h : freespoolRequest c.record r = true) (hst : w.state = .idle)
    (hprot : c.prot ≠ .cutoff) (hblock : w.releaseBlock = false) :
    (winchUpdate c r w).winch =
      { w with state := .clutchOut, direction := .none, record := r, command := r.winch, request := true
               clutchWidth := c.record.releasePosition, clutchTimer := startTimer c.record.clutchTimeout w.clutchTimer
               filed := 0 } := by
  have hdue : releaseDue c (informed c w r) = true := by
    rw [releaseDue_iff, informed_present hc h]
    exact ⟨rfl, hc, hprot, hblock⟩
  have hreleased : (actOnRequest c (winchBegin (informed c w r))).winch = releasedWinch c (informed c w r) := by
    rw [actOnRequest_engaged c (by rw [winchBegin_winch, show (informed c w r).state = .idle from hst]; rfl),
      tryRelease_winch_idle c (winchBegin (informed c w r)) hst, winchBegin_winch, if_pos hdue]
  rw [winchUpdate_eq, actOnCommand_heedless c (by rw [hreleased]; rfl), refile_winch, hreleased,
    winchDemand_resting c rfl, informed_present hc h]
  rfl

/-- A request that is not acted on: WCH stays as it is, with the record stored. -/
theorem winchUpdate_waits (hc : c.run = .run) (h : freespoolRequest c.record r = true)
    (hst : (w.state = .idle ∧ (c.prot = .cutoff ∨ w.releaseBlock = true)) ∨ w.state = .clutchOut ∨ w.state = .freespool) :
    (winchUpdate c r w).winch = { w with record := r, command := r.winch, request := true, filed := 0 } := by
  have hinformed := informed_present (w := w) hc h
  have hstays : actOnCommand c (actOnRequest c (winchBegin (informed c w r))) = winchBegin (informed c w r) := by
    rcases hst with ⟨hidle, hno⟩ | hst
    · have hdue : releaseDue c (informed c w r) = false := by
        rw [← Bool.not_eq_true, releaseDue_iff, hinformed]
        rintro ⟨-, -, hprot, hblock⟩
        rcases hno with hno | hno
        · exact hprot hno
        · rw [show w.releaseBlock = false from hblock] at hno
          cases hno
      have hstart : startAllowed c (informed c w r) = false := by
        rw [← Bool.not_eq_true, startAllowed_iff, hinformed]
        rintro ⟨-, -, hreq⟩
        cases hreq
      rw [actOnRequest_engaged c (by rw [winchBegin_winch, show (informed c w r).state = .idle from hidle]; rfl),
        tryRelease_not_due c hdue]
      exact actOnCommand_stays c (.inl hidle) (fun _ => by rw [haulAllowed, winchBegin_winch, hstart]; rfl)
        (fun _ => by rw [payAllowed, winchBegin_winch, hstart]; rfl)
    · rw [actOnRequest_present c (by rcases hst with hst | hst <;> simp [informed, evaluateRequest, hst, released])
        (by rw [winchBegin_winch, hinformed])]
      exact actOnCommand_heedless c (by rcases hst with hst | hst <;> simp [informed, evaluateRequest, hst, heedsNoCommand])
  have hresting : hauling (informed c w r).state = false := by
    rcases hst with ⟨hst, -⟩ | hst | hst <;> simp [informed, evaluateRequest, hst, hauling]
  rw [winchUpdate_eq, hstays, refile_winch, winchBegin_winch, winchDemand_resting c hresting, hinformed]

theorem actOnRequest_returns (hst : released w.state = true) (hc : c.run = .run)
    (h : freespoolRequest c.record r = false) :
    (actOnRequest c (winchBegin (informed c w r))).winch =
      if c.engaged then idleWinch c (engagingWinch c (informed c w r)) else engagingWinch c (informed c w r) := by
  have hdue : releaseDue c (informed c w r) = false := by
    rw [← Bool.not_eq_true, releaseDue_iff, informed_absent hc h]
    rintro ⟨hreq, -⟩
    cases hreq
  rw [actOnRequest_withdrawn c (x := winchBegin (informed c w r)) hst (by rw [winchBegin_winch, informed_absent hc h]),
    toClutchIn_winch, winchBegin_winch, hdue]
  rfl

theorem winchUpdate_engages (hst : released w.state = true) (hc : c.run = .run)
    (h : freespoolRequest c.record r = false) (he : c.engaged = false) :
    (winchUpdate c r w).winch =
      { w with state := .clutchIn, direction := .none, record := r, command := r.winch, request := false
               releaseBlock := false, clutchWidth := c.record.engagePosition
               clutchTimer := startTimer c.record.clutchTimeout w.clutchTimer, filed := 0 } := by
  have hreturns := actOnRequest_returns hst hc h
  rw [he] at hreturns
  rw [winchUpdate_eq, actOnCommand_heedless c (by rw [hreturns]; rfl), refile_winch, hreturns,
    winchDemand_resting c rfl, if_neg Bool.false_ne_true, engagingWinch, engagedWidth_released c (by exact hst),
    informed_absent hc h]

/-- WCH back in IDLE from a release, with no command to act on. -/
theorem winchUpdate_reengaged (hst : released w.state = true) (hc : c.run = .run)
    (h : freespoolRequest c.record r = false) (he : c.engaged = true) (h0 : r.winch = 0) :
    (winchUpdate c r w).winch = { idleWinch c (engagingWinch c (informed c w r)) with filed := 0 } := by
  have hreturns := actOnRequest_returns hst hc h
  rw [if_pos he] at hreturns
  have hcommand : (idleWinch c (engagingWinch c (informed c w r))).command = 0 := by
    rw [informed_absent hc h]
    exact h0
  rw [winchUpdate_eq, actOnCommand_stays c (.inl (by rw [hreturns]; rfl)) (fun k => by rw [hreturns] at k; omega)
    (fun k => by rw [hreturns] at k; omega), refile_winch, hreturns, winchDemand_resting c rfl]

theorem winchUpdate_clutchIn (hst : w.state = .clutchIn) :
    (winchUpdate c r w).winch = { informed c w r with filed := 0 } := by
  have hstate : (winchBegin (informed c w r)).winch.state = .clutchIn := hst
  rw [winchUpdate_eq, actOnRequest_engaged c (by rw [hstate]; rfl), tryRelease_other c (by rw [hstate]; decide),
    actOnCommand_heedless c (by rw [hstate]; rfl), refile_winch, winchDemand_resting c (by rw [hstate]; rfl)]
  rfl

end Handshake

/-! ## The clutch switch (R102, R104) -/

section Switch

variable (c : WinchContext) {w : Winch}

theorem winchEngaged_engaging (h : w.state = .clutchIn) :
    (winchEngaged c w).winch = if releaseDue c w then releasedWinch c (idleWinch c w) else idleWinch c w := by
  rw [winchEngaged, if_pos h, toIdle_winch]
  rfl

theorem winchEngaged_other (h : w.state ≠ .clutchIn) : winchEngaged c w = winchBegin w := if_neg h

theorem winchDisengaged_released (h : w.state = .clutchOut) :
    (winchDisengaged c w).winch =
      { w with state := .freespool, direction := .none, clutchTimer := stopTimer w.clutchTimer, filed := 0 } := by
  rw [winchDisengaged, if_pos h, refile_winch, enterWinch_winch, winchDemand_resting c rfl]
  simp only [winchBegin_winch, h]
  rfl

theorem winchDisengaged_other (h : w.state ≠ .clutchOut) : winchDisengaged c w = winchBegin w := if_neg h

end Switch

/-- WCH with another line count and homed. -/
def recounted (line : Int) (homed : Bool) (w : Winch) : Winch := { w with line := line, homed := homed }

/-- A sample of IN0 homes a winch that is not hauling in, and does no more. -/
theorem takeSample_home_winch (v : Level) {s : State} (h : s.winch.state ≠ .haulIn) :
    (takeSample v 0 s).winch =
      { s.winch with line := (takeSample v 0 s).winch.line, homed := (takeSample v 0 s).winch.homed } := by
  by_cases ha : AcceptsSample s 0 v
  · rw [takeSample_accepts ha, lineEvent_winch_eq, show (settledLine 0 v s).winch = s.winch from rfl]
    unfold winchLineEvent
    rw [if_pos rfl]
    split
    · rw [winchHomeEvent_elsewhere _ h]
    · rfl
  · rw [(takeSample_winch_quiet ha).1]

theorem takeSamples_clutch {s : State} {v : Vector Level 4} (h : AcceptsSample s 1 v[1]) :
    ∃ c : WinchContext, c.record = s.tables.winch ∧ c.run = s.link.run ∧ c.prot = s.protection.state
      ∧ (takeSamples v s).winch =
          (if v[1] = s.tables.input[1].active then winchEngaged c (takeSample v[0] 0 s).winch
           else winchDisengaged c (takeSample v[0] 0 s).winch).winch := by
  refine ⟨winchContext (settledLine 1 v[1] (takeSample v[0] 0 s)), ?_, ?_, ?_, ?_⟩
  · simp [winchContext, settledLine, putLine]
  · simp [winchContext, settledLine, putLine]
  · simp [winchContext, settledLine, putLine]
  · have haccepts := ((takeSample_otherLine (m := 0) (n := 1) (by decide) v[0] s).accepts_iff v[1]).mpr h
    rw [takeSamples_eq, takeSample_winch_aside (n := 3) (by decide) (by decide),
      takeSample_winch_aside (n := 2) (by decide) (by decide),
      takeSample_accepts haccepts, lineEvent_winch_eq, takeSample_tables]
    simp only [winchLineEvent, beq_iff_eq]
    rfl

/-- Settles O60: the request at a function update, the two events of the clutch switch, and FAILSAFE entry. -/
theorem clutchHandshake : Obligations.ClutchHandshake := by
  refine ⟨fun p s r w present hs hp hr hf hrec hw hpresent => ?update, fun s in0 in1 in2 in3 release hticking hne hdeb
    hrelease => ?switch, fun s hr hhold hst => ?failsafe⟩
  case update =>
    subst hw
    obtain ⟨l, hexec, -⟩ := exec_channels_update hs hp (.inl ⟨hr, hf⟩) hrec
    have hreq : freespoolRequest s.tables.winch r = true ↔ present := (freespoolRequest_iff _ _).trans hpresent.symm
    have hno {q : Prop} (h : ¬present) (k : freespoolRequest s.tables.winch r = false → q) : q :=
      k (eq_false_of_ne_true (mt hreq.mp h))
    obtain ⟨hrequest, hblock⟩ := winchUpdate_request (winchContext s) r s.winch
    refine ⟨_, hexec, ?_⟩
    simp only [heldAt_winch]
    refine ⟨?_, ?_, fun h hpr hprot hbl => ?_, fun h hpr hstop => ?_, fun h hpr => ?_, fun h hpr he => ?_,
      fun h hpr he h0 => ?_, fun h => ?_⟩
    · rw [hrequest]
      exact hreq
    · rw [hblock]
      exact (Bool.and_eq_true _ _).to_iff.trans (and_congr_right fun _ => hreq)
    · exact winchUpdate_releases hr (hreq.mpr hpr) h hprot hbl
    · exact winchUpdate_waits hr (hreq.mpr hpr) (.inl ⟨h, hstop⟩)
    · exact winchUpdate_waits hr (hreq.mpr hpr) (.inr h)
    · exact hno hpr fun k => winchUpdate_engages ((released_iff _).mpr h.symm) hr k he
    · refine hno hpr fun k => ?_
      have hreleased := (released_iff _).mpr h.symm
      rw [winchUpdate_reengaged hreleased hr k he h0]
      exact ⟨rfl, (engagedWidth_released (winchContext s) (w := informed (winchContext s) s.winch r) hreleased), rfl, rfl⟩
    · rw [winchUpdate_clutchIn h, informed, if_pos (show (winchContext s).run = .run from hr)]
      rfl
  case switch =>
    obtain ⟨c, hrecord, hrun, hprot, hwinch⟩ := takeSamples_clutch (v := #v[in0, in1, in2, in3]) (s := s) ⟨hne, hdeb⟩
    have hhome (h : s.winch.state ≠ .haulIn) : ∃ line homed,
        (takeSample in0 0 s).winch = recounted line homed s.winch :=
      ⟨_, _, takeSample_home_winch in0 h⟩
    have hon (h : in1 = s.tables.input[1].active) :
        (takeSamples #v[in0, in1, in2, in3] s).winch = (winchEngaged c (takeSample in0 0 s).winch).winch := hwinch.trans (congrArg WinchStep.winch (if_pos h))
    have hoff (h : in1 ≠ s.tables.input[1].active) :
        (takeSamples #v[in0, in1, in2, in3] s).winch = (winchDisengaged c (takeSample in0 0 s).winch).winch := hwinch.trans (congrArg WinchStep.winch (if_neg h))
    have hdue (line : Int) (homed : Bool) :
        releaseDue c (recounted line homed s.winch) = true ↔ release := by
      rw [releaseDue_iff, hrun, hprot]
      exact hrelease.symm
    refine ⟨_, exec_sampleTick hticking .., fun hi hst => ?out, fun ha hst hnot => ?idle, fun ha hst hyes => ?again,
      fun hhaul hout hin => ?other, fun h => ?stays⟩
    case out =>
      obtain ⟨line, homed, hu⟩ := hhome (by rw [hst]; decide)
      rw [hoff hi, hu, winchDisengaged_released c (w := recounted line homed s.winch) hst]
      rfl
    case idle =>
      obtain ⟨line, homed, hu⟩ := hhome (by rw [hst]; decide)
      rw [hon ha, hu, winchEngaged_engaging c (w := recounted line homed s.winch) hst,
        if_neg fun k => hnot ((hdue line homed).mp k)]
      exact ⟨rfl, rfl, engagedWidth_engaged c (w := recounted line homed s.winch) (by rw [recounted, hst]; rfl)⟩
    case again =>
      obtain ⟨line, homed, hu⟩ := hhome (by rw [hst]; decide)
      rw [hon ha, hu, winchEngaged_engaging c (w := recounted line homed s.winch) hst,
        if_pos ((hdue line homed).mpr hyes), ← hrecord]
      exact ⟨rfl, rfl, rfl⟩
    case other =>
      obtain ⟨line, homed, hu⟩ := hhome hhaul
      by_cases ha : in1 = s.tables.input[1].active
      · rw [hon ha, hu, winchEngaged_other c (w := recounted line homed s.winch) hin]
        rfl
      · rw [hoff ha, hu, winchDisengaged_other c (w := recounted line homed s.winch) hout]
        rfl
    case stays =>
      rcases h with ⟨ha, hst⟩ | ⟨hi, hst⟩
      · obtain ⟨line, homed, hu⟩ := hhome (by rw [hst]; decide)
        rw [hon ha, hu,
          winchEngaged_other c (w := recounted line homed s.winch) (by rw [recounted, hst]; decide)]
        rfl
      · obtain ⟨line, homed, hu⟩ := hhome (by rw [hst]; decide)
        rw [hoff hi, hu,
          winchDisengaged_other c (w := recounted line homed s.winch) (by rw [recounted, hst]; decide)]
        rfl
  case failsafe =>
    have hreleased := (released_iff _).mpr hst.symm
    have hwidth : engagedWidth (failsafeContext s) (commandless s.winch) = s.tables.winch.engagePosition :=
      engagedWidth_released _ hreleased
    refine ⟨_, (exec_holdTimerExpiry hhold).trans (congrArg _ (holdExpired_run hr)), ?_⟩
    rw [enterFailsafe_winch, haltedWinch_released _ hreleased]
    by_cases he : inputActive s 1 = true
    · rw [if_pos he, if_pos (show (failsafeContext s).engaged = true from he)]
      exact ⟨rfl, hwidth, fun _ => rfl, fun h => by rw [he] at h; cases h⟩
    · rw [if_neg he, if_neg (show ¬(failsafeContext s).engaged = true from he)]
      exact ⟨rfl, hwidth, fun h => absurd h he, fun _ => rfl⟩

end Sys2Proof.Machine


/-! Accepted writes and what each owner makes of them (R22, R23, R46, R74, R88). -/

namespace Sys2Proof.Machine

/-! ## An accepted SETUP_WRITE (Table 1-5) -/

theorem tableIdOf_facts {n : Nat} (h₁ : 1 ≤ n) (h₂ : n ≤ 16) : ∃ x, tableIdOf n = some x
    ∧ entryCount x = entriesByTable.getD (n - 1) 0 ∧ entryLength x = lengthsByTable.getD (n - 1) 0
    ∧ (setupClass x = true ↔ n ∉ runtimeIds) := by
  interval_cases n <;> exact ⟨_, rfl, rfl, rfl, by decide⟩

theorem entryLength_le (x : TableId) : entryLength x ≤ 31 := by cases x <;> decide

/-- What the checks of Table 1-5 have passed when none refuses. -/
structure Unrefused (s : State) (p : List Byte) (id : TableId) : Prop where
  run : s.link.run ≠ .init
  idle : storeInFlight s.store ≠ true
  table : tableIdOf (u8At p 0) = some id
  index : u8At p 1 < entryCount id
  length : p.length = 2 + entryLength id
  setup : setupClass id = true → s.link.run = .setup
  allowed : entryAllowed s (u8At p 1) (p.drop 2) id = true

theorem unrefused {s : State} {p : List Byte} (h : writeRefusal s p = none) : ∃ id, Unrefused s p id := by
  unfold writeRefusal at h
  split at h; · cases h
  next hrun =>
  split at h; · cases h
  next hidle =>
  split at h; · cases h
  next hshort =>
  split at h; · cases h
  next htable =>
  obtain ⟨id, hid, hcount, hlength, hclass⟩ := tableIdOf_facts (n := u8At p 0) (by omega) (by omega)
  split at h; · cases h
  next hindex =>
  split at h; · cases h
  next hlong =>
  split at h; · cases h
  next hstate =>
  split at h; · cases h
  next hallowed =>
  refine ⟨id, hrun, hidle, hid, by omega, by omega, fun hc => ?_, ?_⟩
  · by_contra hno
    exact hstate ⟨hclass.mp hc, hno⟩
  · simpa [payloadAllowed, hid] using hallowed

theorem judgeWrite_accepts {s : State} {p : List Byte} {id : TableId} {t : Tables} (h : Unrefused s p id)
    (ht : tablesWith s.tables id (u8At p 1) (p.drop 2) = some t) : judgeWrite s p = .accept id (u8At p 1) t := by
  have hlen := h.length
  have hindex := h.index
  have hnot : ¬(setupClass id = true ∧ s.link.run ≠ .setup) := fun k => k.2 (h.setup k.1)
  unfold judgeWrite
  rw [if_neg h.run, if_neg h.idle, if_neg (by omega), h.table]
  dsimp only
  rw [if_neg (by omega), if_neg (by omega), judgeEntry, if_neg hnot, ht]

/-- An accepted write: the entry in force, the owner's reaction, the DONE answer. -/
theorem exec_accepted {c : Instr} {s : State} {p : List Byte} {t : Tables} (hf : frameOf c = some (0x42, p))
    (h : Accepted s p t) : ∃ id, Unrefused s p id ∧ tablesWith s.tables id (u8At p 1) (p.drop 2) = some t
      ∧ exec c s =
        .next (answer Config.kindSetupWrite .done (entryWritten id (u8At p 1) t (putReceiver receiverHunting s))) := by
  obtain ⟨hs, hw, ha⟩ := h
  obtain ⟨id, hun⟩ := unrefused hw
  have ht : tablesWith s.tables id (u8At p 1) (p.drop 2) = some t := by simpa [ownerAccepts, hun.table] using ha
  have hlen : p.length ≤ 48 := by rw [hun.length]; have := entryLength_le id; omega
  refine ⟨id, hun, ht, (exec_listening hf hlen hs).trans (congrArg _ ?_)⟩
  have hjudge : judgeWrite (putReceiver receiverHunting s) p = .accept id (u8At p 1) t :=
    judgeWrite_accepts (s := putReceiver receiverHunting s) ⟨hun.run, hun.idle, hun.table, hun.index, hun.length, hun.setup, hun.allowed⟩ ht
  exact (show dispatch 0x42 p (putReceiver receiverHunting s) = setupWriteFrame p (putReceiver receiverHunting s) from rfl).trans
    (by rw [setupWriteFrame, hjudge])

/-- An accepted write of a record or an entry whose frame names its table. -/
theorem exec_acceptedEntry {c : Instr} {s : State} {b i : Byte} {e : List Byte} {t : Tables} {id : TableId}
    (hf : frameOf c = some (0x42, b :: i :: e)) (hid : tableIdOf b.toNat = some id) (h : Accepted s (b :: i :: e) t) :
    i.toNat < entryCount id ∧ (setupClass id = true → s.link.run = .setup)
      ∧ exec c s = .next (answer Config.kindSetupWrite .done (entryWritten id i.toNat t (putReceiver receiverHunting s))) := by
  obtain ⟨x, hun, -, hexec⟩ := exec_accepted hf h
  obtain rfl : id = x := Option.some.inj (hid.symm.trans hun.table)
  exact ⟨hun.index, hun.setup, hexec⟩

theorem answer_rewritten (s : State) (t : Tables) :
    answer Config.kindSetupWrite .done (putTables t (putReceiver receiverHunting s)) = s.rewritten t := rfl

/-! ## FUNC, CURVE, BAND, GEOM, CORNER, LINK and BUDGET -/

/-- The owners that make nothing of a write. -/
theorem entryWritten_plain {id : TableId} (h : id ∈ [TableId.func, .curve, .band, .geom, .corner, .link, .budget])
    (i : Nat) (t : Tables) (s : State) : entryWritten id i t s = putTables t s := by
  simp only [List.mem_cons, List.not_mem_nil, or_false] at h
  rcases h with rfl | rfl | rfl | rfl | rfl | rfl | rfl <;> rfl

theorem exec_acceptedPlain {c : Instr} {s : State} {p : List Byte} {t : Tables} (hf : frameOf c = some (0x42, p))
    (hplain : u8At p 0 ∈ [1, 2, 3, 5, 6, 14, 16]) (h : Accepted s p t) : exec c s = .next (s.rewritten t) := by
  obtain ⟨id, hun, -, hexec⟩ := exec_accepted hf h
  have hmem : id ∈ [TableId.func, .curve, .band, .geom, .corner, .link, .budget] := by
    have hid := hun.table
    simp only [List.mem_cons, List.not_mem_nil, or_false] at hplain
    rcases hplain with h | h | h | h | h | h | h <;> rw [h] at hid <;> obtain rfl := Option.some.inj hid <;> decide
  rw [hexec, entryWritten_plain hmem, answer_rewritten]

/-! ## STEER, DRIVE and WINCH (R46, R59, R74, R88) -/

theorem putSteering_same_status {x : Steering} {s : State} (h : s.steering.status = x.status) :
    putSteering x s = { s with steering := x, budget := fileClaim 0 s.steering.filed x.filed s.budget } := by
  rw [putSteering, if_pos h]
  rfl

/-- One event of DRV: its state, LTC's, and demands (R157). -/
theorem putDrive_eq (x : Drive) (s : State) :
    putDrive x s = { s with drive := x, lights := (putDrive x s).lights
                            budget := { s.budget with demand := (putDrive x s).budget.demand } } :=
  State.ext_fields (by simp) (by simp) (by simp) (by simp) (by simp) (by simp) (by simp) rfl (by simp) (by simp)
    (putDrive_alone x s) (by simp) (by simp) (by simp)

/-- An event at which WCH delivers nothing. -/
theorem onWinchEvent_begun {f : WinchContext → Winch → WinchStep} {s : State}
    (hmsgs : (f (winchContext s) s.winch).msgs = []) (hflags : (f (winchContext s) s.winch).flags = []) :
    onWinchEvent f s =
      { s with winch := (f (winchContext s) s.winch).winch
               budget := fileClaim 2 s.winch.filed (f (winchContext s) s.winch).winch.filed s.budget } := by
  rw [onWinchEvent, putWinch, hmsgs, hflags]
  rfl

theorem steerDemand_eq (r : SteerRecord) (x : Steering) :
    steerDemand r x = if x.active = true then
      (x.corners.toList.map fun k => if k.position = k.target then r.holdingCurrent else r.movingCurrent).sum else 0 := by
  have hcorner : (fun k : Corner => if cornerMoving k then r.movingCurrent else r.holdingCurrent) =
      fun k => if k.position = k.target then r.holdingCurrent else r.movingCurrent := by
    funext k
    by_cases h : k.position = k.target <;> simp [cornerMoving, h]
  rw [steerDemand, hcorner]

/-- Outside RUN, DRV computes a throttle at rest (R78). -/
theorem throttlePath_outside {rs : RunState} (h : rs ≠ .run) (r : DriveRecord) (p : ProtState) (g : Nat) (x : Drive) :
    (throttlePath r rs p g x).t2 = 0 ∧ (throttlePath r rs p g x).filed = 0
      ∧ (throttlePath r rs p g x).s4Width = r.neutral ∧ (throttlePath r rs p g x).reverse = false := by
  have hz : driveZeroed rs p = true := by simp [driveZeroed, h]
  have ht2 : (throttlePath r rs p g x).t2 = 0 := if_pos hz
  refine ⟨ht2, if_pos hz, ?_, ?_⟩
  · rw [show (throttlePath r rs p g x).s4Width = throttleWidth r (throttlePath r rs p g x).t2 from rfl, ht2]
    simp [throttleWidth, roundDiv]
  · rw [show (throttlePath r rs p g x).reverse = reverseOf r (throttlePath r rs p g x).t2 from rfl, ht2]
    simp [reverseOf]

/-- WCH takes a new record at rest outside RUN. -/
theorem winchWritten_resting {c : WinchContext} {w : Winch} (hc : c.run ≠ .run)
    (h : w.state = .idle ∨ w.state = .clutchIn ∨ w.state = .fault) :
    winchWritten c w = winchBegin { evaluateRequest c { w with clutchWidth := c.record.engagePosition } with
                                    target := 0, filed := 0 } := by
  have hposition : positionFor c.record w.state = c.record.engagePosition := by
    rcases h with h | h | h <;> rw [h] <;> rfl
  have hreleased : released w.state = false := by rcases h with h | h | h <;> rw [h] <;> rfl
  have hhauling : hauling w.state = false := by rcases h with h | h | h <;> rw [h] <;> rfl
  unfold winchWritten
  dsimp only
  rw [hposition, actOnRequest_engaged c (by exact hreleased), tryRelease_not_due c (releaseDue_outside (.inl hc) _)]
  simp only [refile, retarget, onWinch, winchBegin]
  rw [targetDuty_resting c (by exact hhauling), winchDemand_resting c (by exact hhauling)]

/-- Settles O17: each owner's reaction, over the entry put in force. -/
theorem ownersTakeTheirRecords : Obligations.OwnersTakeTheirRecords := by
  refine ⟨fun s i e p t => ⟨fun h hp _ => ?_, fun h => ?_, fun h => ?_⟩, fun s i e t => ⟨fun h => ?steer, fun h => ?drive,
    fun h hst => ?winch⟩⟩
  · exact exec_acceptedPlain rfl (by simp only [List.mem_cons, List.not_mem_nil, or_false] at hp ⊢; omega) h
  · exact exec_acceptedPlain rfl (by simp [u8At]) h
  · exact exec_acceptedPlain rfl (by simp [u8At]) h
  case steer =>
    obtain ⟨-, -, hexec⟩ := exec_acceptedEntry (c := .steerRecordWrite i e) (id := .steer) rfl rfl h
    have hput : entryWritten .steer i.toNat t (putReceiver receiverHunting s) = _ :=
      putSteering_same_status (x := steerFile t.steer s.steering) (s := putTables t (putReceiver receiverHunting s)) rfl
    rw [hput] at hexec
    exact ⟨_, hexec, rfl, steerDemand_eq t.steer s.steering, fileClaim_alone ..⟩
  case drive =>
    obtain ⟨-, hsetup, hexec⟩ := exec_acceptedEntry (c := .driveRecordWrite i e) (id := .drive) rfl rfl h
    have hrun : s.link.run ≠ .run := by rw [hsetup rfl]; decide
    obtain ⟨ht2, hfiled, hwidth, -⟩ := throttlePath_outside hrun t.drive s.protection.state (grantOf s 1) s.drive
    have hput : entryWritten .drive i.toNat t (putReceiver receiverHunting s) = _ :=
      putDrive_eq (throttlePath t.drive s.link.run s.protection.state (grantOf s 1) s.drive)
        (putTables t (putReceiver receiverHunting s))
    rw [hput] at hexec
    exact ⟨_, hexec, rfl, ht2, hfiled, hwidth, rfl, rfl, rfl, rfl⟩
  case winch =>
    obtain ⟨-, hsetup, hexec⟩ := exec_acceptedEntry (c := .winchRecordWrite i e) (id := .winch) rfl rfl h
    let c := winchContext (putTables t (putReceiver receiverHunting s))
    have hrun : c.run ≠ .run := by rw [show c.run = s.link.run from rfl, hsetup rfl]; decide
    have hwritten := winchWritten_resting hrun hst
    have hput : entryWritten .winch i.toNat t (putReceiver receiverHunting s) = _ :=
      onWinchEvent_begun (f := winchWritten) (s := putTables t (putReceiver receiverHunting s))
        ((congrArg WinchStep.msgs hwritten).trans rfl) ((congrArg WinchStep.flags hwritten).trans rfl)
    rw [hput] at hexec
    exact ⟨_, hexec, rfl, (congrArg WinchStep.winch hwritten).trans rfl, fileClaim_alone ..⟩

end Sys2Proof.Machine


/-! The capacity check of the active cue list (R126), and accepted writes of LAMP, SCENE, CUE, SCAN, PROTECT and INPUT
entries (R118, R119, R131, R142, R143, R170). -/

namespace Sys2Proof.Machine

/-! ## The capacity check (R126) -/

section Capacity

variable (cues : Vector CueEntry 16)

theorem victimOf_mem {l : List CueInstance} {v : CueInstance} (h : victimOf cues l = some v) : v ∈ l := by
  induction l generalizing v with
  | nil => cases h
  | cons i rest ih =>
    unfold victimOf at h
    split at h
    · cases h
      exact List.mem_cons_self
    · next u hu =>
      split at h <;> cases h
      · exact List.mem_cons_self
      · exact List.mem_cons_of_mem _ (ih hu)

/-- The victim is the oldest of the lowest priority. -/
theorem victimOf_oldest {older younger : List CueInstance} {v : CueInstance}
    (hold : ∀ x ∈ older, cues[v.cue].priority < cues[x.cue].priority)
    (hyoung : ∀ x ∈ younger, cues[v.cue].priority ≤ cues[x.cue].priority) :
    victimOf cues (older ++ v :: younger) = some v := by
  induction older with
  | nil =>
    rw [List.nil_append, victimOf]
    split
    · rfl
    · next u hu => exact if_pos (hyoung u (victimOf_mem cues hu))
  | cons x older ih =>
    rw [List.cons_append, victimOf, ih fun y hy => hold y (List.mem_cons_of_mem _ hy)]
    exact if_neg (not_le.mpr (hold x List.mem_cons_self))

/-- With two of no cue in the list, the victim alone leaves it. -/
theorem filter_victim {older younger : List CueInstance} {v : CueInstance}
    (h : ((older ++ v :: younger).map (·.cue)).Nodup) :
    (older ++ v :: younger).filter (fun i => i.cue != v.cue) = older ++ younger := by
  rw [List.map_append, List.map_cons, List.nodup_middle, List.nodup_cons, ← List.map_append] at h
  have hother (x : CueInstance) (hx : x ∈ older ++ younger) : (x.cue != v.cue) = true :=
    bne_iff_ne.mpr fun e => h.1 (e ▸ List.mem_map.mpr ⟨x, hx, rfl⟩)
  rw [List.filter_append, List.filter_cons_of_neg (by simp), ← List.filter_append]
  exact List.filter_eq_self.mpr hother

variable {cues} {k : Fin 16} {r : Roster}

theorem admitCue_room (h : r.active.length < 8) :
    admitCue cues k r =
      { active := r.active ++ [newInstance cues k], started := k :: r.started, changed := true } := if_pos h

theorem admitCue_full (h : 8 ≤ r.active.length) {older younger : List CueInstance} {v : CueInstance}
    (hnodup : (r.active.map (·.cue)).Nodup) (hr : r.active = older ++ v :: younger)
    (hold : ∀ x ∈ older, cues[v.cue].priority < cues[x.cue].priority)
    (hyoung : ∀ x ∈ younger, cues[v.cue].priority ≤ cues[x.cue].priority) :
    admitCue cues k r =
      if cues[v.cue].priority < cues[k].priority then
        { active := older ++ younger ++ [newInstance cues k], started := k :: r.started, changed := true }
      else r := by
  have hvictim : victimOf cues r.active = some v := by rw [hr, victimOf_oldest cues hold hyoung]
  have hfilter : r.active.filter (fun i => i.cue != v.cue) = older ++ younger := by
    rw [hr] at hnodup ⊢
    exact filter_victim hnodup
  have hno : ¬r.active.length < Config.maxInstances := not_lt.mpr h
  rw [admitCue, if_neg hno, hvictim, ← hfilter]

theorem startCue_idle (kept : Vector Bool 33) (chained : Bool) (h : cues[k].enabled = false) :
    startCue cues kept chained k r = r := if_pos (by rw [h]; rfl)

theorem startCue_admits (kept : Vector Bool 33) (he : cues[k].enabled = true) (ha : isActive k r.active = false) :
    startCue cues kept false k r = admitCue cues k r :=
  (if_neg (by rw [he]; decide)).trans ((if_neg (by rw [ha]; decide)).trans (if_neg (by simp)))

theorem isActive_iff (l : List CueInstance) : isActive k l = true ↔ k ∈ l.map (·.cue) := by
  simp [isActive]

theorem isActive_filter (l : List CueInstance) : isActive k (l.filter fun x => x.cue != k) = false := by
  simp [isActive]

end Capacity

/-! ## LAMP, SCENE and CUE (R118, R119, R131) -/

/-- The list after a CUE write: what is left, and the cue asked again where its WHILE source is true. -/
def rewrittenRoster (k : Fin 16) (x : Lights) : Roster :=
  { active := x.active.filter fun i => i.cue != k, started := [], changed := true }

theorem lightsCueWritten_stays {t : Tables} {k : Fin 16} {x : Lights} (g : Nat)
    (h : ¬(t.cue[k].enabled = true ∧ t.cue[k].mode = .whileTrue ∧ triggerTrue x.kept t.cue[k] = true)) :
    lightsCueWritten t g k x = compose t g { x with active := x.active.filter fun i => i.cue != k } := by
  unfold lightsCueWritten
  dsimp only
  split
  · next hw =>
    simp only [Bool.and_eq_true, beq_iff_eq] at hw
    rw [startCue_idle _ _ (eq_false_of_ne_true fun he => h ⟨he, hw⟩)]
  · rfl

theorem lightsCueWritten_starts {t : Tables} {k : Fin 16} {x : Lights} (g : Nat)
    (h : t.cue[k].enabled = true ∧ t.cue[k].mode = .whileTrue ∧ triggerTrue x.kept t.cue[k] = true) :
    lightsCueWritten t g k x = compose t g { x with active := (admitCue t.cue k (rewrittenRoster k x)).active } := by
  obtain ⟨he, hw⟩ := h
  have hadmit : startCue t.cue x.kept false k (rewrittenRoster k x) = admitCue t.cue k (rewrittenRoster k x) :=
    startCue_admits _ he (isActive_filter _)
  unfold lightsCueWritten
  dsimp only
  rw [if_pos (by rw [hw.1, hw.2]; rfl), ← hadmit]
  rfl

theorem composed_level (t : Tables) (g : Nat) (x : Lights) (o : Fin 12) :
    (compose t g x).levels[o] = composedLevel t x.scene x.active o := tab_get _ o

/-- What one composition leaves of LTC, over a list of its own. -/
theorem composed_frame {s : State} {t : Tables} {l : List CueInstance} {x : Lights}
    (h : x = compose t (grantOf s 3) { s.lights with active := l }) :
    x.active = l ∧ x.scene = s.lights.scene ∧ x.kept = s.lights.kept ∧ x.grantUsed = s.budget.grant[3]
      ∧ ∀ o : Fin 12, x.levels[o] = composedLevel t s.lights.scene x.active o := by
  refine ⟨by rw [h]; rfl, by rw [h]; rfl, by rw [h]; rfl, by rw [h]; rfl, fun o => ?_⟩
  rw [h]
  exact composed_level t (grantOf s 3) _ o

/-- What an accepted LAMP or SCENE write leaves. -/
theorem recomposed_frame (s : State) (t : Tables) {u : State}
    (hu : u = answer Config.kindSetupWrite .done (recompose (putTables t (putReceiver receiverHunting s)))) :
    u = { s.rewritten t with lights := u.lights, budget := u.budget } ∧ u.lights.active = s.lights.active
      ∧ u.lights.grantUsed = s.budget.grant[3]
      ∧ ∀ o : Fin 12, u.lights.levels[o] = composedLevel t s.lights.scene s.lights.active o := by
  have hlights : u.lights = compose t (grantOf s 3) s.lights := by rw [hu]; rfl
  refine ⟨by rw [hu]; rfl, by rw [hlights]; rfl, by rw [hlights]; rfl, fun o => ?_⟩
  rw [hlights]
  exact composed_level t (grantOf s 3) s.lights o

/-- Settles O18: one composition under the new entry, over the list that the capacity check leaves. -/
theorem lightTableWrites : Obligations.LightTableWrites := by
  intro s i e t
  refine ⟨fun h => ?_, fun h => ?_, fun h k left fresh starts hi hleft hfresh hstarts => ?_⟩
  · obtain ⟨-, -, hexec⟩ := exec_acceptedEntry (c := .lampWrite i e) (id := .lamp) rfl rfl h
    exact ⟨_, hexec, recomposed_frame s t rfl⟩
  · obtain ⟨-, -, hexec⟩ := exec_acceptedEntry (c := .sceneWrite i e) (id := .scene) rfl rfl h
    exact ⟨_, hexec, recomposed_frame s t rfl⟩
  · obtain ⟨-, -, hexec⟩ := exec_acceptedEntry (c := .cueWrite i e) (id := .cue) rfl rfl h
    have hwritten : entryWritten .cue i.toNat t (putReceiver receiverHunting s) =
        cueWritten k (putTables t (putReceiver receiverHunting s)) := by
      rw [hi]
      exact dif_pos k.isLt
    rw [hwritten] at hexec
    have hcond : (t.cue[k].enabled = true ∧ t.cue[k].mode = .whileTrue ∧ triggerTrue s.lights.kept t.cue[k] = true) ↔
        starts := by rw [hstarts, triggerTrue_iff]
    obtain ⟨u, hu⟩ : ∃ u, u = answer Config.kindSetupWrite .done
        (cueWritten k (putTables t (putReceiver receiverHunting s))) := ⟨_, rfl⟩
    have hframe : u = { s.rewritten t with lights := u.lights, budget := u.budget } := by rw [hu]; rfl
    have hput : u.lights = lightsCueWritten t (grantOf s 3) k s.lights := by rw [hu]; rfl
    rw [← hu] at hexec
    clear hu
    by_cases hs : starts
    · have hlights := hput.trans (lightsCueWritten_starts (t := t) (k := k) (x := s.lights) (grantOf s 3) (hcond.mpr hs))
      have hactive : (rewrittenRoster k s.lights).active = left := hleft.symm
      have hfresh' : newInstance t.cue k = fresh := hfresh.symm
      obtain ⟨hlist, hscene, hkept, hgrant, hlevels⟩ := composed_frame hlights
      refine ⟨u, hexec, hframe, hscene, hkept, hgrant, hlevels, fun hno => absurd hs hno, fun _ hroom => hlist.trans ?_,
        fun _ hfull hnodup older younger v hsplit hold hyoung =>
          ⟨fun hlt => hlist.trans ?_, fun hle => hlist.trans ?_⟩⟩
      · rw [admitCue_room (by rwa [hactive]), ← hactive, ← hfresh']
      · rw [admitCue_full (by rwa [hactive]) (by rwa [hactive]) (by rwa [hactive]) hold hyoung, if_pos hlt, ← hfresh']
      · rw [admitCue_full (by rwa [hactive]) (by rwa [hactive]) (by rwa [hactive]) hold hyoung,
          if_neg (not_lt.mpr hle), ← hactive]
    · have hlights := hput.trans (lightsCueWritten_stays (t := t) (k := k) (x := s.lights) (grantOf s 3) (mt hcond.mp hs))
      obtain ⟨hlist, hscene, hkept, hgrant, hlevels⟩ := composed_frame hlights
      exact ⟨u, hexec, hframe, hscene, hkept, hgrant, hlevels, fun _ => hlist.trans hleft.symm, fun k => absurd k hs,
        fun k => absurd k hs⟩

/-! ## SCAN, PROTECT and INPUT (R142, R143, R150, R170) -/

theorem wakeScanner_eq (s : State) :
    wakeScanner s = { s with scanner := { s.scanner with
      pass := if s.scanner.pass = none then startPass s.tables.scan else s.scanner.pass } } := by
  unfold wakeScanner
  split
  · next p hp =>
    rw [if_neg (by rw [hp]; simp)]
  · next hp =>
    rw [if_pos hp]
    rfl

/-- An active level replaced turns the line's logical value. -/
theorem inputActive_putTables {s : State} {t : Tables} {n : Fin 4} (h : t.input[n].active ≠ s.tables.input[n].active) :
    inputActive (putTables t s) n = !inputActive s n := by
  have hflip (l a b : Level) (hab : a ≠ b) : (l == a) = !(l == b) := by
    cases l <;> cases a <;> cases b <;> first | rfl | exact absurd rfl hab
  exact hflip _ _ _ h

/-- Settles O19: the scanner, the cap, and the events of the line whose entry was replaced. -/
theorem senseTableWrites : Obligations.SenseTableWrites := by
  intro s i e t
  refine ⟨fun h => ?_, fun h => ?_, fun n hi h => ?_⟩
  · obtain ⟨-, -, hexec⟩ := exec_acceptedEntry (c := .scanWrite i e) (id := .scan) rfl rfl h
    rw [hexec, show entryWritten .scan i.toNat t (putReceiver receiverHunting s) =
      wakeScanner (putTables t (putReceiver receiverHunting s)) from rfl, wakeScanner_eq]
    rfl
  · obtain ⟨-, -, hexec⟩ := exec_acceptedEntry (c := .protectWrite i e) (id := .protect) rfl rfl h
    exact hexec
  · obtain ⟨-, -, hexec⟩ := exec_acceptedEntry (c := .inputWrite i e) (id := .input) rfl rfl h
    have hwritten : entryWritten .input i.toNat t (putReceiver receiverHunting s) =
        lineRewritten s.tables.input[n].active n (putTables t (putReceiver receiverHunting s)) := by
      rw [hi]
      exact dif_pos n.isLt
    rw [hwritten] at hexec
    refine ⟨fun hsame => ?_, fun hnew => ?_⟩
    · rw [hexec, lineRewritten, if_pos (show (putTables t (putReceiver receiverHunting s)).tables.input[n].active = _ from hsame)]
      rfl
    · have hevent : lineRewritten s.tables.input[n].active n (putTables t (putReceiver receiverHunting s)) =
          lineEvent n (!inputActive s n) (putTables t (putReceiver receiverHunting s)) := by
        rw [lineRewritten, if_neg (show ¬(putTables t (putReceiver receiverHunting s)).tables.input[n].active = _ from hnew)]
        exact congrArg (fun a => lineEvent n a _) (inputActive_putTables (s := s) hnew)
      rw [hevent] at hexec
      obtain ⟨u, hu⟩ : ∃ u, u = lineEvent n (!inputActive s n) (putTables t (putReceiver receiverHunting s)) := ⟨_, rfl⟩
      have hturned : inputActive u n = !inputActive s n := by
        rw [hu, lineEvent_inputActive]
        exact inputActive_putTables hnew
      have hinputs : u.inputs = edgeAtEvent n (!inputActive s n) s.inputs := by
        rw [hu, lineEvent_inputs]
        rfl
      have hhome : (!inputActive s n) = true → n = 0 → u.winch.line = 0 ∧ u.winch.homed = true := by
        intro ha hn
        subst hn
        rw [hu, ha]
        exact lineEvent_homes _
      have hframe : u = { putTables t (putReceiver receiverHunting s) with
          winch := u.winch, lights := u.lights, inputs := u.inputs
          budget := { s.budget with demand := u.budget.demand } } := by rw [hu]; exact lineEvent_eq ..
      rw [← hu] at hexec
      clear hu hevent
      refine ⟨_, hexec, ?_, hturned, ?_⟩
      · rw [hframe]
        rfl
      · rw [show inputActive (answer Config.kindSetupWrite .done u) n = inputActive u n from rfl, hturned, answer_inputs,
          answer_winch, hinputs]
        cases ha : !inputActive s n
        · rw [edgeAtEvent_inactive]
          exact ⟨by simp, by simp, nofun, fun _ => by simp, nofun⟩
        · rw [edgeAtEvent_active, edgeAtEvent_flag]
          exact ⟨rfl, rfl, fun _ harm => by rw [harm]; rfl, nofun, fun _ => hhome ha⟩

end Sys2Proof.Machine

/-! # Sitting 5: the invariants at the reset state (O55)

Every invariant is a structure of facts about one closed state, so each field is decided there. -/

namespace Sys2Proof.Machine

theorem recordsSound_reset : RecordsSound State.reset where
  valid := defaultTables_valid
  record := recordAfterReset_inRange
  steering := recordAfterReset_inRange
  drive := recordAfterReset_inRange
  winch := recordAfterReset_inRange

theorem startUp_reset : StartUp State.reset := by constructor <;> decide

theorem linkSound_reset : LinkSound State.reset := by constructor <;> decide

theorem receiverSound_reset : ReceiverSound State.reset.link.receiver := by constructor <;> decide

theorem not_carries_reset {n : Notice} : ¬carries n State.reset.link.reply := fun ⟨_, h, _⟩ => nomatch h

theorem noticesSound_reset : NoticesSound State.reset where
  softReset := iff_of_false (by decide) not_carries_reset
  reported := iff_of_false (fun h => h rfl) not_carries_reset
  subset := nofun

theorem storeSound_reset : StoreSound State.reset := by constructor <;> decide

theorem throttleSound_reset : ThrottleSound State.reset := by constructor <;> decide

theorem winchSound_reset : WinchSound State.reset := by constructor <;> decide

theorem cueListSound_reset : CueListSound State.reset := by constructor <;> decide

theorem cuesFollowSources_reset : CuesFollowSources State.reset where
  resting := fun _ => rfl
  whileTrue := nofun

theorem levelsSound_reset : LevelsSound State.reset := by constructor <;> decide

theorem sourcesFollowOwners_reset : SourcesFollowOwners State.reset := by constructor <;> decide

theorem claimsFiled_reset : ClaimsFiled State.reset := by constructor <;> decide

theorem steeringSound_reset : SteeringSound State.reset := by constructor <;> decide

theorem scannerSound_reset : ScannerSound State.reset where
  valid := defaultTables_valid
  counts := nofun
  standing := nofun
  values := fun q => by cases q <;> decide

theorem protectionSound_reset : ProtectionSound State.reset := by constructor <;> decide

/-- Settles O55: the reset state is one closed state, and each invariant's fields are decided at it. -/
theorem invariantsHoldAtReset : Obligations.InvariantsHoldAtReset :=
  ⟨startUp_reset, linkSound_reset, receiverSound_reset, noticesSound_reset, storeSound_reset, throttleSound_reset,
    winchSound_reset, cueListSound_reset, cuesFollowSources_reset, levelsSound_reset, sourcesFollowOwners_reset,
    claimsFiled_reset, steeringSound_reset, scannerSound_reset, protectionSound_reset, recordsSound_reset⟩

end Sys2Proof.Machine

/-! # Sitting 5: the steer mode and what STC keeps (O37: R45, R59, R62 to R65) -/

namespace Sys2Proof.Machine

/-! ## When the steer mode changes (R64) -/

theorem allCentred_iff (x : Steering) : allCentred x = true ↔ ∀ k : Fin 4, x.corners[k].position = 0 := by
  unfold allCentred
  refine ⟨fun h k => ?_, fun h => toList_all fun k => ?_⟩
  · simpa using all_toList h k
  · simpa using h k

theorem alignCheck_steady {t : Tables} {w : WinchState} {x : Steering} (h : x.status = .steady) :
    alignCheck t w x = x := by
  simp only [alignCheck, h]

theorem alignCheck_away {t : Tables} {w : WinchState} {x : Steering} (hcentred : allCentred x = false) :
    alignCheck t w x = x := by
  unfold alignCheck
  rw [hcentred]
  split <;> rfl

theorem alignCheck_held {t : Tables} {w : WinchState} {x : Steering} (h : x.status = .align)
    (hcentred : allCentred x = true) (hw : w = .haulIn) : alignCheck t w x = { x with modeHeld := true } := by
  simp only [alignCheck, h, hcentred, if_pos hw, if_true]

theorem alignCheck_completes {t : Tables} {w : WinchState} {x : Steering} (h : x.status = .align)
    (hcentred : allCentred x = true) (hw : w ≠ .haulIn) :
    alignCheck t w x = steerCompute t { x with mode := x.requested, status := .steady, modeHeld := false } := by
  simp only [alignCheck, h, hcentred, if_neg hw, if_true]

/-- The completion check changes the mode only in ALIGN, with every corner at 0 and the winch not in HAUL_IN. -/
theorem alignCheck_mode {t : Tables} {w : WinchState} {x : Steering} (h : (alignCheck t w x).mode ≠ x.mode) :
    x.status = .align ∧ (∀ k : Fin 4, x.corners[k].position = 0) ∧ w ≠ .haulIn
      ∧ (alignCheck t w x).mode = x.requested := by
  cases hst : x.status
  · exact absurd (by rw [alignCheck_steady hst]) h
  · cases hc : allCentred x
    · exact absurd (by rw [alignCheck_away hc]) h
    · by_cases hw : w = .haulIn
      · exact absurd (by rw [alignCheck_held hst hc hw]) h
      · exact ⟨rfl, (allCentred_iff x).1 hc, hw, by rw [alignCheck_completes hst hc hw]; rfl⟩

theorem steeringPeriod_mode {t : Tables} {grant : Nat} {w : WinchState} {x : Steering}
    (h : (steeringPeriod t grant w x).mode ≠ x.mode) :
    x.status = .align ∧ w ≠ .haulIn ∧ (steeringPeriod t grant w x).mode = x.requested
      ∧ ∀ k : Fin 4, (steeringPeriod t grant w x).corners[k].position = 0 := by
  cases hact : x.active
  · exact absurd (by rw [steeringPeriod_off hact]) h
  · rw [steeringPeriod_active hact] at h ⊢
    obtain ⟨hst, hcentred, hw, hmode⟩ := alignCheck_mode (x := movedCorners t grant x) h
    exact ⟨hst, hw, hmode, fun k => (alignCheck_position t w _ k).trans (hcentred k)⟩

theorem exec_mode {c : Instr} {s t : State} (h : exec c s = .next t) (hne : t.steering.mode ≠ s.steering.mode) :
    (c = .servoPeriodStart ∧ s.steering.status = .align ∧ s.winch.state ≠ .haulIn
        ∧ t.steering.mode = s.steering.requested ∧ ∀ k : Fin 4, t.steering.corners[k].position = 0)
      ∨ (s.store.loaded = false ∧ t.store.loaded = true ∧ t.steering.mode = t.tables.steer.defaultMode)
      ∨ t.steering = steeringAfterReset := by
  by_cases hperiod : c = .servoPeriodStart
  · subst hperiod
    rw [exec_servoPeriodStart] at h
    injection h with h
    subst h
    by_cases hr : s.drive.period.running = true
    · rw [if_pos hr, servoPeriodStarted_steering] at hne ⊢
      obtain ⟨hst, hw, hmode, hcentred⟩ := steeringPeriod_mode hne
      exact .inl ⟨rfl, hst, hw, hmode, hcentred⟩
    · exact absurd (by rw [if_neg hr]) hne
  · by_cases hload : ∃ i₀ i₁ i₂ i₃ a b, c = .loadComplete i₀ i₁ i₂ i₃ a b
    · obtain ⟨i₀, i₁, i₂, i₃, a, b, rfl⟩ := hload
      rw [exec_loadComplete] at h
      injection h with h
      subst h
      by_cases hl : (!s.heldInReset && !s.store.loaded) = true
      · obtain ⟨hheld, hloaded⟩ : s.heldInReset = false ∧ s.store.loaded = false := by simpa using hl
        rw [if_pos hl]
        refine .inr (.inl ⟨hloaded, (loadCompleted_unitsRun hheld _ a b).loaded, ?_⟩)
        rw [loadCompleted_steering]
        simp
      · exact absurd (by rw [if_neg hl]) hne
    · rcases exec_parts h (fun _ _ _ _ _ _ he => hload ⟨_, _, _, _, _, _, he⟩) with hp | ⟨k, d, u, -, rfl⟩
      · exact absurd (hp.keeps (P := fun x => x.steering.mode = s.steering.mode)
          (fun _ _ hxy hx => (hxy.mode hperiod).trans hx) rfl) hne
      · exact .inr (.inr rfl)

/-! ## What STC keeps -/

/-- The facts of `SteeringSound`, about STC and the STEER record in force alone. -/
structure SteeringKept (q : SteerRecord) (x : Steering) : Prop where
  steady : x.status = .steady → x.requested = x.mode ∧ x.modeHeld = false
  align : x.status = .align → ∀ k : Fin 4, x.corners[k].target = 0
  off : x.active = false → ∀ k : Fin 4, x.corners[k] = ⟨0, 0, 0⟩
  filed : x.filed = steerDemand q x

theorem steerDemand_corners (q : SteerRecord) (x : Steering) :
    steerDemand q x = if x.active = true then
      ((List.finRange 4).map fun k =>
        if x.corners[k].position ≠ x.corners[k].target then q.movingCurrent else q.holdingCurrent).sum else 0 := by
  rw [steerDemand_eq]
  congr 2
  rw [show x.corners.toList = (List.finRange 4).map fun k : Fin 4 => x.corners[k] from
    List.ext_getElem (by simp) fun i h₁ h₂ => by simp]
  rw [List.map_map]
  exact List.map_congr_left fun k _ => by
    dsimp only [Function.comp]
    rw [ite_not]

theorem steeringSound_iff {s : State} : SteeringSound s ↔ SteeringKept s.tables.steer s.steering :=
  ⟨fun h => ⟨h.steady, h.align, h.off, by rw [steerDemand_corners]; exact h.filed⟩,
    fun h => ⟨h.steady, h.align, h.off, by rw [← steerDemand_corners]; exact h.filed⟩⟩

/-- Filing anew keeps what STC keeps, under any record. -/
theorem SteeringKept.refiled {q : SteerRecord} {x : Steering} (h : SteeringKept q x) (q' : SteerRecord) :
    SteeringKept q' (steerFile q' x) := ⟨h.steady, h.align, h.off, rfl⟩

theorem steeringKept_update {q : SteerRecord} {x : Steering} (h : SteeringKept q x) (t : Tables) (r : FunctionRecord) :
    SteeringKept t.steer (steeringUpdate t r x) := by
  have hactive : (steeringUpdate t r x).active = true := (steeringUpdate_takes t r x).active
  have hfiled : (steeringUpdate t r x).filed = steerDemand t.steer (steeringUpdate t r x) := rfl
  have hrequested := (steeringUpdate_takes t r x).requested
  have hmode := (steeringUpdate_takes t r x).mode
  cases hst : x.status
  · by_cases hm : requestedFor t.steer.modeMap r.steerSelBand x.requested = x.mode
    · obtain ⟨hs, hheld, -⟩ := steeringUpdate_same_targets hst hm
      exact ⟨fun _ => ⟨by rw [hrequested, hmode, hm], hheld.trans (h.steady hst).2⟩, fun ha => (nomatch (hs.symm.trans ha)),
        fun ha => (nomatch (hactive.symm.trans ha)), hfiled⟩
    · obtain ⟨hs, -, htargets⟩ := steeringUpdate_other_targets hst hm
      exact ⟨fun ha => (nomatch (hs.symm.trans ha)), fun _ => htargets, fun ha => (nomatch (hactive.symm.trans ha)), hfiled⟩
  · obtain ⟨hs, -, htargets⟩ := steeringUpdate_align_targets (t := t) (r := r) hst
    exact ⟨fun ha => (nomatch (hs.symm.trans ha)), fun _ k => (htargets k).trans (h.align hst k),
      fun ha => (nomatch (hactive.symm.trans ha)), hfiled⟩

theorem movedCorners_target (t : Tables) (grant : Nat) (x : Steering) (k : Fin 4) :
    (movedCorners t grant x).corners[k].target = x.corners[k].target := by
  rw [movedCorners_corner]
  rfl

theorem steeringKept_period {q : SteerRecord} {x : Steering} {t : Tables} (h : SteeringKept q x) (hq : q = t.steer)
    (grant : Nat) (w : WinchState) : SteeringKept t.steer (steeringPeriod t grant w x) := by
  cases hact : x.active
  · rw [steeringPeriod_off hact, ← hq]
    exact h
  · rw [steeringPeriod_active hact]
    have halign : x.status = .align → ∀ k : Fin 4, (movedCorners t grant x).corners[k].target = 0 :=
      fun hst k => (movedCorners_target t grant x k).trans (h.align hst k)
    have hoff {p : Prop} (ha : x.active = false) : p := Bool.noConfusion (hact.symm.trans ha)
    cases hst : x.status
    · rw [alignCheck_steady (x := movedCorners t grant x) hst]
      exact ⟨h.steady, halign, fun ha => hoff ha, rfl⟩
    · have hst' : (movedCorners t grant x).status = .align := hst
      cases hc : allCentred (movedCorners t grant x)
      · rw [alignCheck_away hc]
        exact ⟨h.steady, halign, fun ha => hoff ha, rfl⟩
      · by_cases hw : w = .haulIn
        · rw [alignCheck_held hst' hc hw]
          exact ⟨fun ha => (nomatch (hst.symm.trans ha)), halign,
            fun ha => hoff ha, rfl⟩
        · rw [alignCheck_completes hst' hc hw]
          exact ⟨fun _ => ⟨rfl, rfl⟩, nofun, fun ha => hoff ha, rfl⟩

/-- Load complete leaves STC at rest in the default mode. -/
theorem steeringKept_load {q q' : SteerRecord} {x : Steering} (h : SteeringKept q x) (hoff : x.active = false)
    (m : SteerMode) : SteeringKept q' { x with mode := m, requested := m } :=
  ⟨fun hst => ⟨rfl, (h.steady hst).2⟩, h.align, h.off, by
    rw [h.filed]
    simp [steerDemand, hoff]⟩

/-- A write that does not name the STEER record leaves it in force. -/
theorem tablesWith_steer {t u : Tables} {id : TableId} {i : Nat} {e : List Byte} (h : tablesWith t id i e = some u)
    (hid : id ≠ .steer) : u.steer = t.steer := by
  cases id
  case steer => exact absurd rfl hid
  all_goals
    simp only [tablesWith, Option.map_eq_some_iff] at h
    obtain ⟨_, -, rfl⟩ := h
    rfl

theorem entryWritten_steering {id : TableId} (i : Nat) (t : Tables) (s : State) :
    (entryWritten id i t s).steering = if id = .steer then steerFile t.steer s.steering else s.steering := by
  unfold entryWritten ownerWritten
  cases id
  case steer => simp [steerWritten]
  case cue | input => dsimp only; split <;> simp
  all_goals simp

theorem Move.steeringKept {c : Instr} {s t : State} (h : Move c s t) (hup : StartUp s)
    (hs : SteeringKept s.tables.steer s.steering) : SteeringKept t.tables.steer t.steering := by
  cases h
  case update p hrun =>
    rw [handToMapper_tables]
    exact (functionUpdate_steering _ s).symm ▸ steeringKept_update hs s.tables _
  case failsafeValues hrun =>
    rw [applyFailsafe_tables]
    exact (functionUpdate_steering _ s).symm ▸ steeringKept_update hs s.tables _
  case entry id i e u hrun hclass hi hu =>
    rw [entryWritten_steering, entryWritten_tables]
    split
    · exact hs.refiled _
    · next hid => rwa [tablesWith_steer hu hid]
  case restore hrun =>
    rw [defaultsRestored_steering, defaultsRestored_tables, show (ownersRestored s).steering =
      steerFile defaultTables.steer s.steering by simp [ownersRestored]]
    exact hs.refiled _
  case period hc hrunning =>
    rw [servoPeriodStarted_steering, servoPeriodStarted_tables]
    exact steeringKept_period hs rfl _ _
  case load v a b hc hheld hloaded =>
    rw [loadCompleted_steering]
    exact steeringKept_load hs (hup.corners hloaded) _
  all_goals simpa [brakingExpired] using hs

/-- Settles O37: only the completion check of ALIGN, load complete and a reset touch the steer mode; the
invariant of STC goes through each change. -/
theorem steerModeChangesOnlyCentred : Obligations.SteerModeChangesOnlyCentred := by
  refine ⟨fun c s t h hne => exec_mode h hne, fun s t hup hs h => ?_⟩
  have hboth := step_keeps (P := fun x => StartUp x ∧ SteeringKept x.tables.steer x.steering)
    (fun _ _ hx => ⟨{ hx.1 with }, hx.2⟩)
    (fun c x y hm hx => ⟨hm.startUp hx.1, hm.steeringKept hx.1 hx.2⟩)
    (fun k d x hx => ⟨startUp_resetLeaving k d x,
      ⟨fun _ => ⟨rfl, rfl⟩, nofun, fun _ k => (steeringSound_reset.off rfl k), rfl⟩⟩)
    ⟨hup, steeringSound_iff.1 hs⟩ h
  exact steeringSound_iff.2 hboth.2

end Sys2Proof.Machine

/-! # Sitting 5: a budget computation (O48, O49: R160 to R164)

The floor pass is one walk along the order of service; the quantum pass is a run of `Deals`, and what it guarantees
is proved of `Deals`. -/

namespace Sys2Proof.Machine

variable {t : Vector BudgetEntry 4} {p : Vector (Option (Fin 4)) 4} {demand : Vector Nat 4}

/-! ## The order of service (R161, R162) -/

/-- The claimants in the order in which the floor pass serves them. -/
def serviceOrder (t : Vector BudgetEntry 4) (p : Vector (Option (Fin 4)) 4) : List (Fin 4) :=
  levelsDown.flatMap fun lv => rotation t lv p[lv]

theorem servedBefore_asymm {a b : Fin 4} (h : ServedBefore t p a b) : ¬ServedBefore t p b a := by
  rcases h with h | ⟨h, hplace⟩ <;> rintro (k | ⟨k, kplace⟩)
  · exact absurd h (lt_asymm k)
  · exact absurd k (ne_of_lt h)
  · exact absurd h (ne_of_lt k)
  · simp only [h] at kplace
    exact absurd hplace (lt_asymm kplace)

theorem servedBefore_irrefl (a : Fin 4) : ¬ServedBefore t p a a := fun h => servedBefore_asymm h h

theorem cycleAfter_places (q : Option (Fin 4)) :
    (cycleAfter q).Pairwise fun a b => rotationPlace q a < rotationPlace q b := by
  revert q
  decide

theorem mem_rotation {lv c : Fin 4} {q : Option (Fin 4)} : c ∈ rotation t lv q ↔ t[c].priority = lv := by
  simp [rotation, (cycleAfter_complete _ _).1]

theorem rotation_ordered (lv : Fin 4) : (rotation t lv p[lv]).Pairwise (ServedBefore t p) := by
  refine ((cycleAfter_places p[lv]).filter _).imp_of_mem fun {a b} ha hb hlt => ?_
  have hpa : t[a].priority = lv := mem_rotation.1 ha
  have hpb : t[b].priority = lv := mem_rotation.1 hb
  exact .inr ⟨hpa.trans hpb.symm, by simp only [hpb]; exact hlt⟩

theorem serviceOrder_ordered : (serviceOrder t p).Pairwise (ServedBefore t p) := by
  refine List.pairwise_flatMap.2 ⟨fun lv _ => rotation_ordered lv, ?_⟩
  refine (show levelsDown.Pairwise (fun a b => b < a) by decide).imp fun {lv lw} hlt a ha b hb => .inl ?_
  rw [mem_rotation.1 ha, mem_rotation.1 hb]
  exact hlt

theorem mem_serviceOrder (c : Fin 4) : c ∈ serviceOrder t p :=
  List.mem_flatMap.2 ⟨t[c].priority, (show ∀ lv : Fin 4, lv ∈ levelsDown by decide) _, mem_rotation.2 rfl⟩

theorem ServedBefore.ne {a b : Fin 4} (h : ServedBefore t p a b) : a ≠ b := by
  rintro rfl
  exact servedBefore_irrefl a h

theorem serviceOrder_nodup : (serviceOrder t p).Nodup :=
  serviceOrder_ordered.imp ServedBefore.ne

theorem serviceOrder_perm : (serviceOrder t p).Perm (List.finRange 4) :=
  (List.perm_ext_iff_of_nodup serviceOrder_nodup (List.nodup_finRange 4)).2 fun c =>
    iff_of_true (mem_serviceOrder c) (List.mem_finRange c)

/-- The claimants that stand before one in the order of service are those served before it. -/
theorem mem_before_iff {before after : List (Fin 4)} {b c : Fin 4} (h : serviceOrder t p = before ++ c :: after) :
    b ∈ before ↔ ServedBefore t p b c := by
  have hordered := serviceOrder_ordered (t := t) (p := p)
  rw [h] at hordered
  obtain ⟨-, hafter, hbefore⟩ := List.pairwise_append.1 hordered
  refine ⟨fun hb => hbefore b hb c List.mem_cons_self, fun hb => ?_⟩
  have hmem : b ∈ before ++ c :: after := h ▸ mem_serviceOrder b
  rcases List.mem_append.1 hmem with hin | hin
  · exact hin
  · rcases List.mem_cons.1 hin with rfl | hin
    · exact absurd hb (servedBefore_irrefl _)
    · exact absurd hb (servedBefore_asymm (List.rel_of_pairwise_cons hafter hin))

theorem sum_filter_eq_sum_ite (q : Fin 4 → Prop) [DecidablePred q] (f : Fin 4 → Nat) (l : List (Fin 4)) :
    ((l.filter fun b => decide (q b)).map f).sum = (l.map fun b => if q b then f b else 0).sum := by
  induction l with
  | nil => rfl
  | cons b l ih => by_cases h : q b <;> simp [h, ih]

theorem before_sum {before after : List (Fin 4)} {c : Fin 4} (h : serviceOrder t p = before ++ c :: after)
    (f : Fin 4 → Nat) :
    (before.map f).sum = ((List.finRange 4).map fun b => if ServedBefore t p b c then f b else 0).sum := by
  rw [← sum_filter_eq_sum_ite]
  refine List.Perm.sum_eq (List.Perm.map f ?_)
  refine (List.perm_ext_iff_of_nodup ?_ ((List.nodup_finRange 4).filter _)).2 fun b => ?_
  · have hnodup := serviceOrder_nodup (t := t) (p := p)
    rw [h] at hnodup
    exact (List.nodup_append.1 hnodup).1
  · rw [List.mem_filter, decide_eq_true_iff, mem_before_iff h]
    exact ⟨fun k => ⟨List.mem_finRange b, k⟩, And.right⟩

/-! ## The floor pass (R162) -/

/-- What a claimant is to get of the floor pass: its floor, but never more than its demand. -/
def floorNeed (t : Vector BudgetEntry 4) (demand : Vector Nat 4) (c : Fin 4) : Nat := min t[c].floor demand[c]

@[simp] theorem serve_left (c : Fin 4) (amount : Nat) (d : Deal) : (serve c amount d).left = d.left - amount := rfl
@[simp] theorem serve_pointers (c : Fin 4) (amount : Nat) (d : Deal) : (serve c amount d).pointers = d.pointers := rfl

theorem grants_set {g : Vector Nat 4} (c b : Fin 4) (x : Nat) :
    (g.set c.val x)[b] = if b = c then x else g[b] := by
  rw [Fin.getElem_fin, Vector.getElem_set]
  by_cases h : b = c
  · rw [if_pos (by rw [h]), if_pos h]
  · rw [if_neg (fun heq => h (Fin.ext heq.symm)), if_neg h]
    rfl

theorem total_set (g : Vector Nat 4) (c : Fin 4) (x : Nat) : total (g.set c.val x) + g[c] = total g + x := by
  have h0 := grants_set (g := g) c 0 x
  have h1 := grants_set (g := g) c 1 x
  have h2 := grants_set (g := g) c 2 x
  have h3 := grants_set (g := g) c 3 x
  simp only [total]
  match c with
  | 0 | 1 | 2 | 3 => simp at h0 h1 h2 h3 ⊢; omega

theorem serve_grants (c b : Fin 4) (amount : Nat) (d : Deal) :
    (serve c amount d).grants[b] = if b = c then d.grants[c] + amount else d.grants[b] := grants_set c b _

theorem serve_total {c : Fin 4} {amount : Nat} {d : Deal} (h : amount ≤ d.left) :
    total (serve c amount d).grants + (serve c amount d).left = total d.grants + d.left := by
  have hset : total (serve c amount d).grants + d.grants[c] = total d.grants + (d.grants[c] + amount) :=
    total_set d.grants c _
  rw [serve_left]
  omega

theorem serveFloor_eq (d : Deal) (c : Fin 4) :
    serveFloor t demand d c = serve c (min (floorNeed t demand c) d.left) d := by
  unfold serveFloor floorNeed
  split
  · rw [min_assoc]
  · next h =>
    rw [show demand[c] = 0 by omega, Nat.min_zero, Nat.zero_min]
    simp [serve]

theorem serveFloors_left (l : List (Fin 4)) (d : Deal) :
    (l.foldl (serveFloor t demand) d).left = d.left - (l.map (floorNeed t demand)).sum := by
  induction l generalizing d with
  | nil => rfl
  | cons c l ih =>
    rw [List.foldl_cons, ih, serveFloor_eq, serve_left, List.map_cons, List.sum_cons]
    omega

theorem serveFloors_pointers (l : List (Fin 4)) (d : Deal) :
    (l.foldl (serveFloor t demand) d).pointers = d.pointers := by
  induction l generalizing d with
  | nil => rfl
  | cons c l ih => rw [List.foldl_cons, ih, serveFloor_eq, serve_pointers]

theorem serveFloors_total (l : List (Fin 4)) (d : Deal) :
    total (l.foldl (serveFloor t demand) d).grants + (l.foldl (serveFloor t demand) d).left = total d.grants + d.left := by
  induction l generalizing d with
  | nil => rfl
  | cons c l ih => rw [List.foldl_cons, ih, serveFloor_eq, serve_total (Nat.min_le_right _ _)]

theorem serveFloors_other {b : Fin 4} {l : List (Fin 4)} (h : b ∉ l) (d : Deal) :
    (l.foldl (serveFloor t demand) d).grants[b] = d.grants[b] := by
  induction l generalizing d with
  | nil => rfl
  | cons c l ih =>
    rw [List.foldl_cons, ih (List.not_mem_of_not_mem_cons h), serveFloor_eq, serve_grants,
      if_neg (List.ne_of_not_mem_cons h)]

/-- In a walk that serves no claimant twice, each gets the lesser of its need and what the ones before it leave. -/
theorem serveFloors_grants {before after : List (Fin 4)} {c : Fin 4} (h : (before ++ c :: after).Nodup) (d : Deal) :
    ((before ++ c :: after).foldl (serveFloor t demand) d).grants[c] =
      d.grants[c] + min (floorNeed t demand c) (d.left - (before.map (floorNeed t demand)).sum) := by
  obtain ⟨-, hafter, hapart⟩ := List.nodup_append.1 h
  have hbefore : c ∉ before := fun hc => hapart c hc c List.mem_cons_self rfl
  rw [List.foldl_append, List.foldl_cons, serveFloors_other (List.nodup_cons.1 hafter).1, serveFloor_eq, serve_grants,
    if_pos rfl, serveFloors_left, serveFloors_other hbefore]

theorem floorPass_eq (d : Deal) : floorPass t demand d = (serviceOrder t d.pointers).foldl (serveFloor t demand) d := by
  unfold floorPass serviceOrder
  rw [List.foldl_flatMap]
  suffices h : ∀ (l : List (Fin 4)) (x : Deal), x.pointers = d.pointers →
      l.foldl (fun y lv => (rotation t lv y.pointers[lv]).foldl (serveFloor t demand) y) x =
        l.foldl (fun y lv => (rotation t lv d.pointers[lv]).foldl (serveFloor t demand) y) x from h _ d rfl
  intro l
  induction l with
  | nil => exact fun _ _ => rfl
  | cons lv l ih =>
    intro x hx
    rw [List.foldl_cons, List.foldl_cons, hx]
    exact ih _ ((serveFloors_pointers _ _).trans hx)

/-! ## The quantum pass (R163) -/

/-- What one run of deals leaves true: no grant falls, none passes its demand, nothing is lost, and it ends with
nothing left or every demand met. -/
structure Dealt (demand : Vector Nat 4) (x y : Deal) : Prop where
  rises : ∀ c : Fin 4, x.grants[c] ≤ y.grants[c]
  within : (∀ c : Fin 4, x.grants[c] ≤ demand[c]) → ∀ c : Fin 4, y.grants[c] ≤ demand[c]
  conserved : total y.grants + y.left = total x.grants + x.left
  ended : y.left = 0 ∨ ∀ c : Fin 4, demand[c] ≤ y.grants[c]

variable {q : Nat} {x y : Deal}

theorem Deals.dealt (h : Deals t q demand x y) : Dealt demand x y := by
  induction h with
  | finished x h => exact ⟨fun _ => le_rfl, id, rfl, h⟩
  | deal x y c amount remains needs first least rest ih =>
    have hgrant (b : Fin 4) : (x.grants.set c.val (x.grants[c] + amount))[b] =
        if b = c then x.grants[c] + amount else x.grants[b] := grants_set c b _
    refine ⟨fun b => le_trans ?_ (ih.rises b), fun hx => ih.within fun b => ?_, ?_, ih.ended⟩
    · rw [hgrant]
      split
      · next hb => rw [hb]; omega
      · exact le_rfl
    · rw [hgrant]
      split
      · next hb => rw [hb]; omega
      · exact hx b
    · rw [ih.conserved]
      have hset := total_set x.grants c (x.grants[c] + amount)
      dsimp only
      omega

/-- A claimant left short keeps every claimant of a lower level from a deal. -/
theorem Deals.lower_level (h : Deals t q demand x y) {a b : Fin 4} (hlevel : t[b].priority < t[a].priority)
    (hshort : y.grants[a] < demand[a]) : y.grants[b] = x.grants[b] := by
  induction h with
  | finished x h => rfl
  | deal x y c amount remains needs first least rest ih =>
    rw [ih hshort]
    refine (grants_set c b _).trans (if_neg fun hb => ?_)
    have hneeds : x.grants[a] < demand[a] := by
      refine lt_of_le_of_lt (le_trans (b := (x.grants.set c.val (x.grants[c] + amount))[a]) ?_ (rest.dealt.rises a)) hshort
      rw [grants_set]
      split
      · next ha => rw [ha]; omega
      · exact le_rfl
    exact first a hneeds (.inl (hb ▸ hlevel))

/-- The first claimant in a rotation that needs more is served before every other of its level that does. -/
theorem nextClaimant_first {lv b c : Fin 4} {d : Deal} (h : nextClaimant t demand lv d = some c)
    (hb : t[b].priority = lv) (hneeds : d.grants[b] < demand[b]) : ¬ServedBefore t d.pointers b c := by
  obtain ⟨-, before, after, hl, hbefore⟩ := List.find?_eq_some_iff_append.1 h
  have hordered := rotation_ordered (t := t) (p := d.pointers) lv
  rw [hl] at hordered
  obtain ⟨-, hafter, -⟩ := List.pairwise_append.1 hordered
  have hmem : b ∈ before ++ c :: after := hl ▸ mem_rotation.2 hb
  rcases List.mem_append.1 hmem with hin | hin
  · exact absurd hneeds (by simpa using hbefore b hin)
  · rcases List.mem_cons.1 hin with rfl | hin
    · exact servedBefore_irrefl _
    · exact servedBefore_asymm (List.rel_of_pairwise_cons hafter hin)

/-- Where nothing is left, or no claimant of a level outside `l` needs more: what the quantum pass finds before it
deals to the levels `l`. -/
def DealtDownTo (t : Vector BudgetEntry 4) (demand : Vector Nat 4) (l : List (Fin 4)) (d : Deal) : Prop :=
  d.left = 0 ∨ ∀ c : Fin 4, t[c].priority ∉ l → demand[c] ≤ d.grants[c]

theorem dealLevel_deals (hq : 1 ≤ q) {lv : Fin 4} {l : List (Fin 4)} (hl : ∀ lw ∈ l, lw < lv) :
    ∀ (fuel : Nat) (d : Deal), d.left ≤ fuel → DealtDownTo t demand (lv :: l) d →
      DealtDownTo t demand l (dealLevel t q demand lv fuel d)
        ∧ ∀ z, Deals t q demand (dealLevel t q demand lv fuel d) z → Deals t q demand d z
  | 0, d, hfuel, _ => ⟨.inl (by simpa [dealLevel] using hfuel), fun _ hz => hz⟩
  | fuel + 1, d, hfuel, hd => by
    unfold dealLevel
    by_cases hleft : d.left = 0
    · rw [if_pos hleft]
      exact ⟨.inl hleft, fun _ hz => hz⟩
    · rw [if_neg hleft]
      have habove := hd.resolve_left hleft
      cases hnext : nextClaimant t demand lv d with
      | none =>
        refine ⟨.inr fun c hc => ?_, fun _ hz => hz⟩
        by_cases hlv : t[c].priority = lv
        · exact (nextClaimant_none_iff t demand lv d).1 hnext c hlv
        · exact habove c fun hin => (List.mem_cons.1 hin).elim hlv hc
      | some c =>
        obtain ⟨hlv, hneeds⟩ := nextClaimant_some hnext
        have hserved (b : Fin 4) : (dealTo q demand lv c d).grants[b] =
            if b = c then d.grants[c] + min q (min (demand[c] - d.grants[c]) d.left) else d.grants[b] := serve_grants c b _ d
        obtain ⟨hdown, hdeals⟩ := dealLevel_deals hq hl fuel (dealTo q demand lv c d)
          (show d.left - _ ≤ fuel by omega)
          (.inr fun b hb => by
            rw [hserved]
            split
            · next h => exact absurd (List.mem_cons.2 (.inl (by rw [h]; exact hlv))) hb
            · exact habove b hb)
        refine ⟨hdown, fun z hz => .deal d z c _ (by omega) hneeds (fun b hb => ?_) rfl ?_⟩
        · by_cases hlevel : t[b].priority = lv
          · exact nextClaimant_first hnext hlevel hb
          · have hbelow : t[b].priority ∈ l := by
              by_contra hout
              exact absurd (habove b fun hin => (List.mem_cons.1 hin).elim hlevel hout) (by omega)
            rintro (h | ⟨h, -⟩)
            · exact absurd (hl _ hbelow) (by rw [hlv] at h; exact lt_asymm h)
            · exact hlevel (h.trans hlv)
        · subst hlv
          exact hdeals z hz

theorem quantumPass_deals (hq : 1 ≤ q) (d : Deal) : Deals t q demand d (quantumPass t q demand d) := by
  suffices h : ∀ (l : List (Fin 4)) (x : Deal), l.Pairwise (fun a b => b < a) → DealtDownTo t demand l x →
      Deals t q demand x (l.foldl (fun y lv => dealLevel t q demand lv y.left y) x) from
    h _ d (by decide) (.inr fun c hc => absurd ((show ∀ lv : Fin 4, lv ∈ levelsDown by decide) _) hc)
  intro l
  induction l with
  | nil => exact fun x _ hx => .finished x (hx.imp_right fun h c => h c List.not_mem_nil)
  | cons lv l ih =>
    intro x hl hx
    obtain ⟨hbelow, hl⟩ := List.pairwise_cons.1 hl
    obtain ⟨hdown, hdeals⟩ := dealLevel_deals hq hbelow x.left x le_rfl hx
    exact hdeals _ (ih _ hl hdown)

/-! ## The computation -/

/-- The state of a computation after its floor pass. -/
def flooredDeal (t : Vector BudgetEntry 4) (cap : Nat) (demand : Vector Nat 4) (p : Vector (Option (Fin 4)) 4) : Deal :=
  floorPass t demand { left := cap, grants := tab fun _ => 0, pointers := p }

variable {cap : Nat}

theorem flooredDeal_eq : flooredDeal t cap demand p =
    (serviceOrder t p).foldl (serveFloor t demand) { left := cap, grants := tab fun _ => 0, pointers := p } :=
  floorPass_eq _

theorem flooredDeal_left : (flooredDeal t cap demand p).left =
    cap - ((List.finRange 4).map fun c => min t[c].floor demand[c]).sum := by
  rw [flooredDeal_eq, serveFloors_left, List.Perm.sum_eq (serviceOrder_perm.map _)]
  rfl

theorem flooredDeal_pointers : (flooredDeal t cap demand p).pointers = p := by
  rw [flooredDeal_eq, serveFloors_pointers]

theorem flooredDeal_grants (c : Fin 4) : (flooredDeal t cap demand p).grants[c] =
    min (min t[c].floor demand[c])
      (cap - ((List.finRange 4).map fun b => if ServedBefore t p b c then min t[b].floor demand[b] else 0).sum) := by
  obtain ⟨before, after, h⟩ := List.append_of_mem (mem_serviceOrder (t := t) (p := p) c)
  have hnodup := serviceOrder_nodup (t := t) (p := p)
  rw [h] at hnodup
  rw [flooredDeal_eq, h, serveFloors_grants hnodup, before_sum h]
  simp [tab, floorNeed]

theorem flooredDeal_total : total (flooredDeal t cap demand p).grants + (flooredDeal t cap demand p).left = cap := by
  rw [flooredDeal_eq, serveFloors_total]
  simp [total, tab]

theorem flooredDeal_within (c : Fin 4) : (flooredDeal t cap demand p).grants[c] ≤ min t[c].floor demand[c] := by
  rw [flooredDeal_grants]
  exact Nat.min_le_left _ _

/-- Where the cap covers every floor, the floor pass serves each need in full. -/
theorem flooredDeal_covered (h : ((List.finRange 4).map fun c => min t[c].floor demand[c]).sum ≤ cap) (c : Fin 4) :
    (flooredDeal t cap demand p).grants[c] = min t[c].floor demand[c] := by
  obtain ⟨before, after, hl⟩ := List.append_of_mem (mem_serviceOrder (t := t) (p := p) c)
  have hsum : ((serviceOrder t p).map (floorNeed t demand)).sum ≤ cap :=
    (List.Perm.sum_eq (serviceOrder_perm.map (floorNeed t demand))).trans_le h
  rw [hl, List.map_append, List.sum_append, List.map_cons, List.sum_cons, before_sum hl, floorNeed] at hsum
  rw [flooredDeal_grants, Nat.min_eq_left]
  simp only [floorNeed] at hsum
  omega

/-- Grants that stand within the demands, with every unit handed out or every demand met, sum to the lesser of the
cap and the demands. -/
theorem total_dealt {g : Vector Nat 4} {left : Nat} (hsum : total g + left = cap) (hwithin : ∀ c : Fin 4, g[c] ≤ demand[c])
    (hended : left = 0 ∨ ∀ c : Fin 4, demand[c] ≤ g[c]) : total g = min cap (total demand) := by
  have h0 := hwithin 0
  have h1 := hwithin 1
  have h2 := hwithin 2
  have h3 := hwithin 3
  simp only [total, Fin.getElem_fin] at *
  rcases hended with hleft | hmet
  · simp at h0 h1 h2 h3
    omega
  · have k0 := hmet 0
    have k1 := hmet 1
    have k2 := hmet 2
    have k3 := hmet 3
    simp at *
    omega

theorem exec_budgetTimerExpiry {s : State} (h : s.budget.timer.running = true) :
    exec .budgetTimerExpiry s = .next (startBudgetTimer (putGrants (divideCap s.tables.budget s.tables.protect.quantum
      s.protection.cap s.budget.demand s.budget.pointers) s)) :=
  congrArg Host.Outcome.next (if_pos h)

/-- What the budget computation of a state deals, from the floors on. -/
theorem computeBudget_deals {s : State} (hq : 1 ≤ s.tables.protect.quantum) :
    Deals s.tables.budget s.tables.protect.quantum s.budget.demand
      (flooredDeal s.tables.budget s.protection.cap s.budget.demand s.budget.pointers)
      (divideCap s.tables.budget s.tables.protect.quantum s.protection.cap s.budget.demand s.budget.pointers) :=
  quantumPass_deals hq _

/-- Settles O48: the floor pass as a walk along the order of service, the quantum pass as a run of deals. -/
theorem budgetComputation : Obligations.BudgetComputation := by
  intro s hrunning hq
  have hdeals := computeBudget_deals hq
  have hdealt := hdeals.dealt
  have hwithin := hdealt.within fun c => (flooredDeal_within c).trans (Nat.min_le_right _ _)
  have htotal := total_dealt (hdealt.conserved.trans flooredDeal_total) hwithin hdealt.ended
  have hexec := exec_budgetTimerExpiry hrunning
  generalize divideCap s.tables.budget s.tables.protect.quantum s.protection.cap s.budget.demand s.budget.pointers = z at *
  exact ⟨_, hexec, rfl, hwithin, htotal, fun hcap c => (flooredDeal_covered hcap c).symm.trans_le (hdealt.rises c),
    _, z, flooredDeal_left, flooredDeal_grants, flooredDeal_pointers, hdeals, rfl, rfl⟩

/-- Settles O49: no deal passes a claimant of a higher level that needs more, so the lower one keeps its floor. -/
theorem higherLevelsAreServedFirst : Obligations.HigherLevelsAreServedFirst := by
  intro s t a b hrunning hq hexec hlevel hshort
  have hdeals := computeBudget_deals (s := s) hq
  rw [exec_budgetTimerExpiry hrunning] at hexec
  generalize divideCap s.tables.budget s.tables.protect.quantum s.protection.cap s.budget.demand s.budget.pointers = z at *
  injection hexec with hexec
  subst hexec
  exact (hdeals.lower_level hlevel hshort).trans_le (flooredDeal_within b)

end Sys2Proof.Machine

/-! # Sitting 5: the owners' checks on the bytes of an entry, and the bytes kept of it (R23, R190, Table 11-8) -/

namespace Sys2Proof.Machine

/-! ## The bytes of a field (R190) -/

variable {b : List Byte} {o k : Nat}

theorem ofNat_u8At (b : List Byte) (o : Nat) : BitVec.ofNat 8 (u8At b o) = b.getD o 0 := by
  simp [u8At]

theorem putU8_u8At (b : List Byte) (o : Nat) : putU8 (u8At b o) = [b.getD o 0] := by rw [putU8, ofNat_u8At]

theorem u16At_lt (b : List Byte) (o : Nat) : u16At b o < 65536 := by
  have h₁ := u8At_lt b o
  have h₂ := u8At_lt b (o + 1)
  unfold u16At
  omega

theorem putU16_u16At (b : List Byte) (o : Nat) : putU16 (u16At b o) = [b.getD o 0, b.getD (o + 1) 0] := by
  have h₁ := u8At_lt b o
  have h₂ := u8At_lt b (o + 1)
  have hhigh : u16At b o / 256 = u8At b o := by unfold u16At; omega
  have hlow : BitVec.ofNat 8 (u16At b o) = BitVec.ofNat 8 (u8At b (o + 1)) :=
    BitVec.eq_of_toNat_eq (by simp only [BitVec.toNat_ofNat, u16At]; omega)
  rw [putU16, hhigh, hlow, ofNat_u8At, ofNat_u8At]

theorem putU24_u24At (b : List Byte) (o : Nat) :
    putU24 (u24At b o) = [b.getD o 0, b.getD (o + 1) 0, b.getD (o + 2) 0] := by
  have h₁ := u8At_lt b o
  have h₂ := u16At_lt b (o + 1)
  have hhigh : u24At b o / 65536 = u8At b o := by unfold u24At; omega
  have hlow : putU16 (u24At b o) = putU16 (u16At b (o + 1)) := by
    have hmiddle : BitVec.ofNat 8 (u24At b o / 256) = BitVec.ofNat 8 (u16At b (o + 1) / 256) :=
      BitVec.eq_of_toNat_eq (by simp only [BitVec.toNat_ofNat, u24At]; omega)
    have hlast : BitVec.ofNat 8 (u24At b o) = BitVec.ofNat 8 (u16At b (o + 1)) :=
      BitVec.eq_of_toNat_eq (by simp only [BitVec.toNat_ofNat, u24At]; omega)
    rw [putU16, putU16, hmiddle, hlast]
  rw [putU24, hhigh, hlow, putU16_u16At, ofNat_u8At]

theorem putS16_s16At (b : List Byte) (o : Nat) : putS16 (s16At b o) = [b.getD o 0, b.getD (o + 1) 0] := by
  have h := u16At_lt b o
  rw [putS16, show (s16At b o % 65536).toNat = u16At b o by unfold s16At; split <;> omega, putU16_u16At]

theorem bytes_eq {b : List Byte} {n : Nat} (h : b.length = n) : (List.range n).map (fun k => b.getD k 0) = b := by
  refine List.ext_getElem (by simp [h]) fun i h₁ h₂ => ?_
  simp [List.getElem?_eq_getElem h₂]

/-! ## Enumerated fields: which codes are listed, and the code of what they name (Tables 11-6 and 11-7) -/

theorem finOf_eq_some {n v : Nat} {x : Fin n} : finOf n v = some x ↔ x.val = v := by
  unfold finOf
  split
  · next h => exact ⟨fun hx => by rw [← Option.some.inj hx], fun hx => congrArg some (Fin.ext hx.symm)⟩
  · next h => exact iff_of_false nofun (fun hx => h (hx ▸ x.isLt))

theorem finOf_listed {n v : Nat} : (∃ x, finOf n v = some x) ↔ v < n := by
  simp only [finOf_eq_some]
  exact ⟨fun ⟨x, hx⟩ => hx ▸ x.isLt, fun h => ⟨⟨v, h⟩, rfl⟩⟩

theorem finOrNone_listed {n v : Nat} : (∃ x, finOrNone n v = some x) ↔ v = 255 ∨ v < n := by
  unfold finOrNone
  by_cases h : v = 255
  · simp [h]
  · rw [if_neg h, ← finOf_listed (n := n)]
    simp [h]

theorem putFinOrNone_of {n v : Nat} {x : Option (Fin n)} (h : finOrNone n v = some x) : putFinOrNone x = putU8 v := by
  unfold finOrNone at h
  split at h
  · next hv => rw [← Option.some.inj h, hv]; rfl
  · obtain ⟨i, hi, rfl⟩ := Option.map_eq_some_iff.1 h
    rw [← finOf_eq_some.1 hi]
    rfl

theorem boolAt_listed : (∃ x, boolAt b o = some x) ↔ u8At b o ≤ 1 := by
  unfold boolAt
  split
  · next h => simp [h]
  · split
    · next h => simp [h]
    · simp; omega

theorem putBool_of {x : Bool} (h : boolAt b o = some x) : putBool x = putU8 (u8At b o) := by
  unfold boolAt at h
  split at h
  · next hv => rw [← Option.some.inj h, hv]; rfl
  · split at h
    · next hv => rw [← Option.some.inj h, hv]; rfl
    · cases h

/-- Where a code's meaning is the value with that code, exactly the codes of values are listed. -/
theorem listed_of_code {α : Type} {f : Nat → Option α} {code : α → Nat} (h : ∀ x v, f v = some x ↔ code x = v) (v : Nat) :
    (∃ x, f v = some x) ↔ ∃ x, code x = v := by simp only [h]

theorem steerModeOf_iff (m : SteerMode) (v : Nat) : steerModeOf v = some m ↔ steerModeCode m = v := by
  refine ⟨fun h => ?_, ?_⟩
  · unfold steerModeOf at h
    split at h <;> cases h <;> rfl
  · rintro rfl
    cases m <;> rfl

theorem steerModeOf_listed : (∃ m, steerModeOf k = some m) ↔ k ≤ 3 := by
  rw [listed_of_code steerModeOf_iff]
  exact ⟨fun ⟨m, hm⟩ => by cases m <;> simp [steerModeCode] at hm <;> omega, fun h => by
    interval_cases k
    exacts [⟨.front, rfl⟩, ⟨.rear, rfl⟩, ⟨.counter, rfl⟩, ⟨.crab, rfl⟩]⟩

theorem mapItemOf_iff (m : Option SteerMode) (v : Nat) : mapItemOf v = some m ↔ mapItemCode m = v := by
  unfold mapItemOf
  by_cases hv : v = 4
  · subst hv
    cases m with
    | none => simp [mapItemCode]
    | some m => cases m <;> simp [mapItemCode, steerModeCode]
  · rw [if_neg hv]
    cases m with
    | none => simpa [mapItemCode] using Ne.symm hv
    | some m => simpa [mapItemCode] using steerModeOf_iff m v

theorem mapItemOf_listed : (∃ m, mapItemOf k = some m) ↔ k ≤ 4 := by
  rw [listed_of_code mapItemOf_iff, Option.exists]
  simp only [mapItemCode, ← listed_of_code steerModeOf_iff, steerModeOf_listed]
  omega

theorem failsafeModeOf_iff (m : FailsafeMode) (v : Nat) : failsafeModeOf v = some m ↔ failsafeModeCode m = v := by
  refine ⟨fun h => ?_, ?_⟩
  · unfold failsafeModeOf at h
    split at h <;> cases h <;> rfl
  · rintro rfl
    cases m <;> rfl

theorem bandSlotOf_iff (x : Option BandSlot) (v : Nat) : bandSlotOf v = some x ↔ bandSlotCode x = v := by
  refine ⟨fun h => ?_, ?_⟩
  · unfold bandSlotOf at h
    split_ifs at h
    all_goals
      obtain rfl := Option.some.inj h
      exact Eq.symm ‹_›
  · rintro rfl
    rcases x with _ | _ | _ <;> rfl

theorem bandSlotOf_listed : (∃ x, bandSlotOf k = some x) ↔ k ∈ [3, 4, 5, 6, 255] := by
  unfold bandSlotOf
  split_ifs <;> simp [*]

theorem freespoolOf_iff (x : Option AuxSlot) (v : Nat) : freespoolOf v = some x ↔ freespoolCode x = v := by
  refine ⟨fun h => ?_, ?_⟩
  · unfold freespoolOf at h
    split_ifs at h
    all_goals
      obtain rfl := Option.some.inj h
      exact Eq.symm ‹_›
  · rintro rfl
    rcases x with _ | _ | _ <;> rfl

theorem freespoolOf_listed : (∃ x, freespoolOf k = some x) ↔ k ∈ [5, 6, 255] := by
  unfold freespoolOf
  split_ifs <;> simp [*]

theorem cueModeOf_iff (m : CueMode) (v : Nat) : cueModeOf v = some m ↔ cueModeCode m = v := by
  refine ⟨fun h => ?_, ?_⟩
  · unfold cueModeOf at h
    split at h <;> cases h <;> rfl
  · rintro rfl
    cases m <;> rfl

theorem levelOf_iff (l : Level) (v : Nat) : levelOf v = some l ↔ levelCode l = v := by
  refine ⟨fun h => ?_, ?_⟩
  · unfold levelOf at h
    split at h <;> cases h <;> rfl
  · rintro rfl
    cases l <;> rfl

theorem levelOf_listed : (∃ l, levelOf k = some l) ↔ k ≤ 1 := by
  rw [listed_of_code levelOf_iff]
  exact ⟨fun ⟨l, hl⟩ => by cases l <;> simp [levelCode] at hl <;> omega, fun h => by
    interval_cases k
    exacts [⟨.low, rfl⟩, ⟨.high, rfl⟩]⟩

theorem scanSourceOf_iff (q : Option Quantity) (v : Nat) : scanSourceOf v = some q ↔ scanSourceCode q = v := by
  refine ⟨fun h => ?_, ?_⟩
  · unfold scanSourceOf at h
    split at h <;> cases h <;> rfl
  · rintro rfl
    rcases q with _ | _ | _ <;> rfl

theorem maskOf_listed : (∃ m, maskOf k = some m) ↔ k ≤ 4095 := by
  unfold maskOf
  split <;> simp <;> omega

theorem toNat_of_maskOf {m : BitVec 12} (h : maskOf k = some m) : m.toNat = k := by
  unfold maskOf at h
  split at h
  · next hk => rw [← Option.some.inj h, BitVec.toNat_ofNat, Nat.mod_eq_of_lt hk]
  · cases h

theorem collect_eq_some_iff {α : Type} {n : Nat} {f : Fin n → Option α} {v : Vector α n} :
    collect f = some v ↔ ∀ i, f i = some v[i] := by
  refine ⟨fun h i => ?_, collect_eq_some⟩
  unfold collect at h
  split at h
  · next hsome =>
    rw [← Option.some.inj h]
    simp [tab]
  · cases h

theorem collect_listed {α : Type} {n : Nat} {f : Fin n → Option α} :
    (∃ v, collect f = some v) ↔ ∀ i, ∃ x, f i = some x := by
  simp only [collect_eq_some_iff]
  exact ⟨fun ⟨v, hv⟩ i => ⟨_, hv i⟩, fun h => ⟨tab fun i => (h i).choose, fun i => by
    simpa [tab] using (h i).choose_spec⟩⟩

end Sys2Proof.Machine

/-! # Sitting 5: trigger sources on the wire (Table 11-7), and each entry's bytes kept (Table 11-8) -/

namespace Sys2Proof.Machine

variable {b : List Byte} {o k : Nat}

/-! ## Trigger sources -/

theorem plainTriggerOf_named {x : Option Trigger} (h : plainTriggerOf k = some x) : triggerCode x = (k, 0) := by
  unfold plainTriggerOf at h
  split at h <;> cases h <;> rfl

theorem plainTriggerOf_listed : (∃ x, plainTriggerOf k = some x) ↔ k ≤ 13 ∨ k = 34 ∨ k = 35 := by
  constructor
  · rintro ⟨x, hx⟩
    unfold plainTriggerOf at hx
    split at hx <;> simp at hx ⊢
  · rintro (h | rfl | rfl)
    · interval_cases k <;> exact ⟨_, rfl⟩
    · exact ⟨_, rfl⟩
    · exact ⟨_, rfl⟩

/-- A code with a parameter: the number is the parameter byte. -/
theorem numbered_named {n p : Nat} {f : Fin n → Trigger} {x : Option Trigger}
    (h : (finOf n p).map (fun i => some (f i)) = some x) : ∃ i : Fin n, i.val = p ∧ x = some (f i) := by
  obtain ⟨i, hi, rfl⟩ := Option.map_eq_some_iff.1 h
  exact ⟨i, finOf_eq_some.1 hi, rfl⟩

theorem triggerOf_named {c p : Nat} {x : Option Trigger} (h : triggerOf c p = some x) : triggerCode x = (c, p) := by
  unfold triggerOf at h
  split at h
  · next hc => obtain ⟨i, rfl, rfl⟩ := numbered_named (f := fun b => .level (.aux1Band b)) h; rw [hc]; rfl
  split at h
  · next hc => obtain ⟨i, rfl, rfl⟩ := numbered_named (f := fun b => .level (.aux2Band b)) h; rw [hc]; rfl
  split at h
  · next hc => obtain ⟨i, rfl, rfl⟩ := numbered_named (f := fun n => .level (.inLevel n)) h; rw [hc]; rfl
  split at h
  · next hc => obtain ⟨i, rfl, rfl⟩ := numbered_named (f := fun n => .edge (.inEdge n)) h; rw [hc]; rfl
  split at h
  · next hc => obtain ⟨i, rfl, rfl⟩ := numbered_named (f := fun k => .edge (.cueDone k)) h; rw [hc]; rfl
  split at h
  · next hp => rw [hp]; exact plainTriggerOf_named h
  · cases h

theorem numbered_listed {n p : Nat} (f : Fin n → Trigger) :
    (∃ x, (finOf n p).map (fun i => some (f i)) = some x) ↔ p < n := by
  rw [← finOf_listed]
  simp

theorem triggerOf_listed {c p : Nat} : (∃ x, triggerOf c p = some x) ↔ sourceAllowed c p = true := by
  unfold triggerOf sourceAllowed
  rw [decide_eq_true_iff]
  split_ifs
  · rw [numbered_listed fun b => .level (.aux1Band b)]; omega
  · rw [numbered_listed fun b => .level (.aux2Band b)]; omega
  · rw [numbered_listed fun n => .level (.inLevel n)]; omega
  · rw [numbered_listed fun n => .edge (.inEdge n)]; omega
  · rw [numbered_listed fun k => .edge (.cueDone k)]; omega
  · rw [plainTriggerOf_listed]; omega
  · simp only [exists_false, false_iff]; omega

/-- A source that may drive a WHILE cue: a level source (R120). -/
def isLevelSource (x : Option Trigger) : Bool :=
  match x with | some (.level _) => true | _ => false

/-- The level sources are those of codes 1 to 16 (Table 11-7). -/
theorem levelSource_iff {c p : Nat} {x : Option Trigger} (h : triggerOf c p = some x) :
    isLevelSource x = true ↔ 1 ≤ c ∧ c ≤ 16 := by
  have hc : (triggerCode x).1 = c := by rw [triggerOf_named h]
  subst hc
  rcases x with _ | (l | e)
  · decide
  · cases l <;> simp [isLevelSource, triggerCode]
  · cases e <;> simp [isLevelSource, triggerCode]

/-! ## The bytes of an entry are those it was read from -/

section
variable {L : Nat} (hb : b.length = L)
include hb

theorem encodeFunc_of (hL : L = 11) {x : FuncEntry} (h : decodeFunc b = some x) : encodeFunc x = b := by
  subst hL
  simp only [decodeFunc, bind, Option.bind_eq_some_iff, pure, Option.some.injEq] at h
  obtain ⟨source, hs, reverse, hr, curve, hc, failsafe, hf, rfl⟩ := h
  simp only [encodeFunc, putFinOrNone_of hs, putBool_of hr, putFinOrNone_of hc, (failsafeModeOf_iff _ _).1 hf, putU8_u8At,
    putU16_u16At, putS16_s16At]
  exact bytes_eq hb

theorem encodeCurve_of (hL : L = 2) {x : Int} (h : decodeCurve b = some x) : encodeCurve x = b := by
  subst hL
  cases h
  simp only [encodeCurve, putS16_s16At]
  exact bytes_eq hb

theorem encodeBand_of (hL : L = 4) {x : BandEntry} (h : decodeBand b = some x) : encodeBand x = b := by
  subst hL
  simp only [decodeBand, bind, Option.bind_eq_some_iff, pure, Option.some.injEq] at h
  obtain ⟨slot, hs, band, hd, rfl⟩ := h
  simp only [encodeBand, (bandSlotOf_iff _ _).1 hs, finOf_eq_some.1 hd, putU8_u8At]
  exact bytes_eq hb

theorem encodeSteer_of (hL : L = 15) {x : SteerRecord} (h : decodeSteer b = some x) : encodeSteer x = b := by
  subst hL
  simp only [decodeSteer, bind, Option.bind_eq_some_iff, pure, Option.some.injEq] at h
  obtain ⟨modeMap, hmap, defaultMode, hd, rfl⟩ := h
  have hbytes : (modeMap.toList.flatMap fun m => putU8 (mapItemCode m)) = (List.range 8).map fun k => b.getD k 0 := by
    have hitem (i : Fin 8) : mapItemCode modeMap[i] = u8At b i.val :=
      (mapItemOf_iff _ _).1 (collect_eq_some_iff.1 hmap i)
    rw [show modeMap.toList = (List.finRange 8).map fun i : Fin 8 => modeMap[i] from
      List.ext_getElem (by simp) fun i h₁ h₂ => by simp, List.flatMap_map]
    simp only [hitem, putU8_u8At]
    rfl
  simp only [encodeSteer, hbytes, (steerModeOf_iff _ _).1 hd, putU8_u8At, putU16_u16At]
  exact bytes_eq hb

theorem encodeGeom_of (hL : L = 4) {x : GeomEntry} (h : decodeGeom b = some x) : encodeGeom x = b := by
  subst hL
  cases h
  simp only [encodeGeom, putS16_s16At, putU16_u16At]
  exact bytes_eq hb

theorem encodeCorner_of (hL : L = 13) {x : CornerEntry} (h : decodeCorner b = some x) : encodeCorner x = b := by
  subst hL
  simp only [decodeCorner, bind, Option.bind_eq_some_iff, pure, Option.some.injEq] at h
  obtain ⟨reverse, hr, rfl⟩ := h
  simp only [encodeCorner, putBool_of hr, putU8_u8At, putU16_u16At]
  exact bytes_eq hb

theorem encodeDrive_of (hL : L = 22) {x : DriveRecord} (h : decodeDrive b = some x) : encodeDrive x = b := by
  subst hL
  cases h
  simp only [encodeDrive, putU8_u8At, putU16_u16At, putU24_u24At]
  exact bytes_eq hb

theorem encodeWinch_of (hL : L = 31) {x : WinchRecord} (h : decodeWinch b = some x) : encodeWinch x = b := by
  subst hL
  simp only [decodeWinch, bind, Option.bind_eq_some_iff, pure, Option.some.injEq] at h
  obtain ⟨source, hs, band, hd, rfl⟩ := h
  simp only [encodeWinch, (freespoolOf_iff _ _).1 hs, finOf_eq_some.1 hd, putU8_u8At, putU16_u16At, List.cons_append,
    List.nil_append]
  exact bytes_eq hb

theorem encodeLamp_of (hL : L = 3) {x : LampEntry} (h : decodeLamp b = some x) : encodeLamp x = b := by
  subst hL
  simp only [decodeLamp, bind, Option.bind_eq_some_iff, pure, Option.some.injEq] at h
  obtain ⟨enabled, he, rfl⟩ := h
  simp only [encodeLamp, putBool_of he, putU8_u8At, putU16_u16At]
  exact bytes_eq hb

theorem encodeScene_of (hL : L = 12) {x : Vector Nat 12} (h : decodeScene b = some x) : encodeScene x = b := by
  subst hL
  cases h
  have hlevels : (tab fun o : Fin 12 => u8At b o.val).toList = (List.finRange 12).map fun o : Fin 12 => u8At b o.val :=
    List.ext_getElem (by simp) fun i h₁ h₂ => by simp [tab]
  simp only [encodeScene, hlevels, List.flatMap_map, putU8_u8At]
  exact bytes_eq hb

theorem encodeCue_of (hL : L = 15) {x : CueEntry} (h : decodeCue b = some x) : encodeCue x = b := by
  subst hL
  simp only [decodeCue, bind, Option.bind_eq_some_iff, pure, Option.some.injEq] at h
  obtain ⟨enabled, he, trigger, ht, mode, hm, cancel, hcancel, mask, hmask, priority, hp, chain, hc, rfl⟩ := h
  simp only [encodeCue, putBool_of he, triggerOf_named ht, (cueModeOf_iff _ _).1 hm, triggerOf_named hcancel,
    toNat_of_maskOf hmask, finOf_eq_some.1 hp, putFinOrNone_of hc, putU8_u8At, putU16_u16At]
  exact bytes_eq hb

theorem encodeScan_of (hL : L = 2) {x : ScanEntry} (h : decodeScan b = some x) : encodeScan x = b := by
  subst hL
  simp only [decodeScan, bind, Option.bind_eq_some_iff, pure, Option.some.injEq] at h
  obtain ⟨source, hs, rfl⟩ := h
  simp only [encodeScan, (scanSourceOf_iff _ _).1 hs, putU8_u8At]
  exact bytes_eq hb

theorem encodeProtect_of (hL : L = 31) {x : ProtectRecord} (h : decodeProtect b = some x) : encodeProtect x = b := by
  subst hL
  cases h
  simp only [encodeProtect, putU8_u8At, putU16_u16At, putU24_u24At]
  exact bytes_eq hb

theorem encodeBudget_of (hL : L = 3) {x : BudgetEntry} (h : decodeBudget b = some x) : encodeBudget x = b := by
  subst hL
  simp only [decodeBudget, bind, Option.bind_eq_some_iff, pure, Option.some.injEq] at h
  obtain ⟨priority, hp, rfl⟩ := h
  simp only [encodeBudget, finOf_eq_some.1 hp, putU8_u8At, putU16_u16At]
  exact bytes_eq hb

theorem encodeInput_of (hL : L = 2) {x : InputEntry} (h : decodeInput b = some x) : encodeInput x = b := by
  subst hL
  simp only [decodeInput, bind, Option.bind_eq_some_iff, pure, Option.some.injEq] at h
  obtain ⟨active, ha, rfl⟩ := h
  simp only [encodeInput, (levelOf_iff _ _).1 ha, putU8_u8At]
  exact bytes_eq hb

theorem encodeLink_of (hL : L = 6) {x : LinkRecord} (h : decodeLink b = some x) : encodeLink x = b := by
  subst hL
  cases h
  simp only [encodeLink, putU8_u8At, putU16_u16At]
  exact bytes_eq hb

end

/-! ## What an accepted write leaves in the tables -/

/-- An entry put among those of its table reads back with its own bytes. -/
theorem entry_readsBack {α : Type} {n i : Nat} {v : Vector α n} {x : α} {enc : α → List Byte} (hi : i < n)
    (henc : enc x = b) : ((v.setIfInBounds i x)[i]?.map enc).getD [] = b := by
  rw [Vector.getElem?_setIfInBounds_self_of_lt hi]
  exact henc

theorem entryBytes_written {t u : Tables} {x : TableId} {i : Nat} {e : List Byte} (he : e.length = entryLength x)
    (hi : i < entryCount x) (h : tablesWith t x i e = some u) : entryBytes u x i = e := by
  cases x
  all_goals
    simp only [tablesWith, Option.map_eq_some_iff, Option.filter_eq_some_iff] at h
    obtain ⟨x, ⟨hx, -⟩, rfl⟩ := h
  case func => exact entry_readsBack hi (encodeFunc_of he rfl hx)
  case curve => exact entry_readsBack hi (encodeCurve_of he rfl hx)
  case band => exact entry_readsBack hi (encodeBand_of he rfl hx)
  case steer => exact encodeSteer_of he rfl hx
  case geom => exact entry_readsBack hi (encodeGeom_of he rfl hx)
  case corner => exact entry_readsBack hi (encodeCorner_of he rfl hx)
  case drive => exact encodeDrive_of he rfl hx
  case winch => exact encodeWinch_of he rfl hx
  case lamp => exact entry_readsBack hi (encodeLamp_of he rfl hx)
  case scene => exact entry_readsBack hi (encodeScene_of he rfl hx)
  case cue => exact entry_readsBack hi (encodeCue_of he rfl hx)
  case scan => exact entry_readsBack hi (encodeScan_of he rfl hx)
  case protect => exact encodeProtect_of he rfl hx
  case budget => exact entry_readsBack hi (encodeBudget_of he rfl hx)
  case input => exact entry_readsBack hi (encodeInput_of he rfl hx)
  case link => exact encodeLink_of he rfl hx

/-- A write leaves every other table as it is. -/
theorem entryBytes_other_table {t u : Tables} {x y : TableId} {i : Nat} {e : List Byte}
    (h : tablesWith t x i e = some u) (hy : y ≠ x) (j : Nat) : entryBytes u y j = entryBytes t y j := by
  cases x <;>
    · simp only [tablesWith, Option.map_eq_some_iff] at h
      obtain ⟨_, -, rfl⟩ := h
      cases y <;> simp [entryBytes] at hy ⊢

/-- A write leaves every other entry of its table as it is. -/
theorem entryBytes_other_entry {t u : Tables} {x : TableId} {i j : Nat} {e : List Byte}
    (h : tablesWith t x i e = some u) (hi : i < entryCount x) (hj : j < entryCount x) (hne : j ≠ i) :
    entryBytes u x j = entryBytes t x j := by
  cases x
  case steer | drive | winch | protect | link =>
    simp only [entryCount] at hi hj
    omega
  all_goals
    simp only [tablesWith, Option.map_eq_some_iff] at h
    obtain ⟨_, -, rfl⟩ := h
    exact congrArg (fun o => (Option.map _ o).getD []) (Vector.getElem?_setIfInBounds_ne hne.symm)

end Sys2Proof.Machine

/-! # Sitting 5: the checks on a SETUP_WRITE in their order (O16: Table 1-5, R23) -/

namespace Sys2Proof.Machine

variable {s : State} {i : Nat} {e : List Byte}

/-! ## The owner accepts exactly the entries allowed -/

theorem taken_iff {α : Type} {d : Option α} {p : α → Bool} {put : α → Tables} :
    (∃ t, (d.filter p).map put = some t) ↔ ∃ x, d = some x ∧ p x = true := by
  simp only [Option.map_eq_some_iff, Option.filter_eq_some_iff]
  exact ⟨fun ⟨_, x, hx, _⟩ => ⟨x, hx⟩, fun ⟨x, hx⟩ => ⟨_, x, hx, rfl⟩⟩

theorem between_iff {lo hi x : Nat} : between lo hi x = true ↔ lo ≤ x ∧ x ≤ hi := by simp [between]
theorem betweenI_iff {lo hi x : Int} : betweenI lo hi x = true ↔ lo ≤ x ∧ x ≤ hi := by simp [betweenI]

theorem orNone_iff {n v : Nat} : orNone n v = true ↔ v = 255 ∨ v < n + 1 := by
  simp only [orNone, decide_eq_true_iff]
  omega

/-- A failsafe code that is listed, and PRESET where the entry must be (Table 2-2). -/
theorem failsafe_listed {k : Nat} {p : Prop} :
    (∃ m, failsafeModeOf k = some m ∧ (p → m = .preset)) ↔ k ≤ 1 ∧ (p → k = 1) := by
  simp only [failsafeModeOf_iff]
  constructor
  · rintro ⟨m, rfl, hm⟩
    exact ⟨by cases m <;> decide, fun hp => by rw [hm hp]; rfl⟩
  · rintro ⟨hk, hp⟩
    interval_cases k
    · exact ⟨.hold, rfl, fun h => absurd (hp h) (by decide)⟩
    · exact ⟨.preset, rfl, fun _ => rfl⟩

theorem func_allowed : (∃ x, decodeFunc e = some x ∧ funcInRange i x = true) ↔ entryAllowed s i e .func = true := by
  simp only [decodeFunc, bind, Option.bind_eq_some_iff, pure, Option.some.injEq, funcInRange_iff, entryAllowed,
    Bool.and_eq_true, orNone_iff, decide_eq_true_iff, ← finOrNone_listed]
  constructor
  · rintro ⟨x, ⟨source, hs, reverse, hr, curve, hc, failsafe, hf, rfl⟩, hcentre, hspan, hdead, hvalue, hslot⟩
    obtain ⟨hcode, hpreset⟩ := failsafe_listed.1 ⟨failsafe, hf, fun hi : i = 1 => (hslot.resolve_left (not_not.2 hi)).1⟩
    exact ⟨⟨⟨source, hs⟩, curve, hc⟩, boolAt_listed.1 ⟨reverse, hr⟩, hcentre, hspan.1, hspan.2, hdead, hcode, hvalue.1, hvalue.2,
      fun hi => ⟨hpreset hi, (hslot.resolve_left (not_not.2 hi)).2⟩⟩
  · rintro ⟨⟨⟨source, hs⟩, curve, hc⟩, hreverse, hcentre, hlo, hhi, hdead, hcode, hvlo, hvhi, hslot⟩
    obtain ⟨reverse, hr⟩ := boolAt_listed.2 hreverse
    obtain ⟨failsafe, hf, hpreset⟩ := failsafe_listed.2 ⟨hcode, fun hi : i = 1 => (hslot hi).1⟩
    exact ⟨_, ⟨source, hs, reverse, hr, curve, hc, failsafe, hf, rfl⟩, hcentre, ⟨hlo, hhi⟩, hdead, ⟨hvlo, hvhi⟩,
      (em (i = 1)).symm.imp_right fun hi => ⟨hpreset hi, (hslot hi).2⟩⟩

theorem curve_allowed : (∃ x, decodeCurve e = some x ∧ curveInRange x = true) ↔ entryAllowed s i e .curve = true := by
  simp [decodeCurve, curveInRange, entryAllowed, betweenI_iff]

theorem band_allowed : (∃ x, decodeBand e = some x ∧ bandInRange x = true) ↔ entryAllowed s i e .band = true := by
  simp only [decodeBand, bind, Option.bind_eq_some_iff, pure, Option.some.injEq, bandInRange, between_iff, entryAllowed,
    Bool.and_eq_true, decide_eq_true_iff, ← bandSlotOf_listed]
  rw [show u8At e 3 ≤ 7 ↔ ∃ x : Fin 8, finOf 8 (u8At e 3) = some x by rw [finOf_listed]; omega]
  constructor
  · rintro ⟨x, ⟨slot, hs, band, hb, rfl⟩, hp, hw⟩
    exact ⟨⟨slot, hs⟩, hp.2, hw.1, hw.2, band, hb⟩
  · rintro ⟨⟨slot, hs⟩, hp, hw₁, hw₂, band, hb⟩
    exact ⟨_, ⟨slot, hs, band, hb, rfl⟩, ⟨Nat.zero_le _, hp⟩, hw₁, hw₂⟩

theorem steer_allowed : (∃ x, decodeSteer e = some x ∧ steerInRange x = true) ↔ entryAllowed s i e .steer = true := by
  simp only [decodeSteer, bind, Option.bind_eq_some_iff, pure, Option.some.injEq, steerInRange, between_iff, entryAllowed,
    Bool.and_eq_true, decide_eq_true_iff, ← steerModeOf_listed, ← mapItemOf_listed, ← collect_listed]
  constructor
  · rintro ⟨x, ⟨map, hm, mode, hd, rfl⟩, ⟨h₁, h₂⟩, h₃⟩
    exact ⟨⟨map, hm⟩, ⟨mode, hd⟩, h₁.2, h₂.2, h₃.2⟩
  · rintro ⟨⟨map, hm⟩, ⟨mode, hd⟩, h₁, h₂, h₃⟩
    exact ⟨_, ⟨map, hm, mode, hd, rfl⟩, ⟨⟨Nat.zero_le _, h₁⟩, Nat.zero_le _, h₂⟩, Nat.zero_le _, h₃⟩

theorem geom_allowed : (∃ x, decodeGeom e = some x ∧ geomInRange x = true) ↔ entryAllowed s i e .geom = true := by
  simp [decodeGeom, geomInRange, entryAllowed, between_iff, betweenI_iff, and_assoc]

/-- An entry with one enumerated field: the code is listed, and the numbers are in their ranges. -/
theorem oneField_allowed {α β : Type} {f : Option α} {mk : α → β} {p : β → Bool} {listed : Prop} (any : α)
    (hf : (∃ a, f = some a) ↔ listed) (hp : ∀ a, p (mk a) = p (mk any)) :
    (∃ x, (f.bind fun a => some (mk a)) = some x ∧ p x = true) ↔ listed ∧ p (mk any) = true := by
  simp only [Option.bind_eq_some_iff, Option.some.injEq, ← hf]
  constructor
  · rintro ⟨x, ⟨a, ha, rfl⟩, hx⟩
    exact ⟨⟨a, ha⟩, (hp a).symm.trans hx⟩
  · rintro ⟨⟨a, ha⟩, hx⟩
    exact ⟨_, ⟨a, ha, rfl⟩, (hp a).trans hx⟩

theorem corner_allowed : (∃ x, decodeCorner e = some x ∧ cornerInRange x = true) ↔ entryAllowed s i e .corner = true := by
  refine (oneField_allowed true boolAt_listed fun _ => rfl).trans ?_
  simp only [cornerInRange, Bool.and_eq_true, between_iff, entryAllowed, decide_eq_true_iff]
  omega

theorem drive_allowed : (∃ x, decodeDrive e = some x ∧ driveInRange x = true) ↔ entryAllowed s i e .drive = true := by
  simp [decodeDrive, driveInRange, entryAllowed, between_iff, and_assoc]

theorem winch_allowed : (∃ x, decodeWinch e = some x ∧ winchInRange x = true) ↔ entryAllowed s i e .winch = true := by
  simp only [decodeWinch, bind, Option.bind_eq_some_iff, pure, Option.some.injEq, winchInRange, between_iff, entryAllowed,
    Bool.and_eq_true, decide_eq_true_iff, ← freespoolOf_listed]
  rw [show u8At e 30 ≤ 7 ↔ ∃ x : Fin 8, finOf 8 (u8At e 30) = some x by rw [finOf_listed]; omega]
  constructor
  · rintro ⟨x, ⟨source, hs, band, hb, rfl⟩, hx⟩
    simp only [hs, hb, Option.some.injEq, exists_eq', and_true]
    dsimp only at hx
    omega
  · rintro ⟨hx, h₁, h₂, h₃, h₄, h₅, h₆, h₇, h₈, ⟨source, hs⟩, band, hb⟩
    refine ⟨_, ⟨source, hs, band, hb, rfl⟩, ?_⟩
    dsimp only
    omega

theorem lamp_allowed : (∃ x, decodeLamp e = some x ∧ lampInRange x = true) ↔ entryAllowed s i e .lamp = true := by
  refine (oneField_allowed true boolAt_listed fun _ => rfl).trans ?_
  simp only [lampInRange, between_iff, entryAllowed, decide_eq_true_iff]
  omega

theorem scene_allowed : (∃ x, decodeScene e = some x ∧ sceneInRange x = true) ↔ entryAllowed s i e .scene = true := by
  refine iff_of_true ⟨_, rfl, toList_all fun o => ?_⟩ rfl
  simpa [tab, between_iff] using Nat.le_of_lt_succ (u8At_lt e o.val)

/-- A cue's mode is listed, and WHILE asks for a level source as trigger (R120). -/
theorem cueMode_listed {c p k : Nat} {x : Option Trigger} (hx : triggerOf c p = some x) :
    (∃ m, cueModeOf k = some m ∧ (m = .whileTrue → isLevelSource x = true)) ↔ k ≤ 2 ∧ (k = 1 → 1 ≤ c ∧ c ≤ 16) := by
  simp only [cueModeOf_iff, levelSource_iff hx]
  constructor
  · rintro ⟨m, rfl, hm⟩
    cases m <;> simp [cueModeCode] at hm ⊢
    exact hm
  · rintro ⟨hk, hc⟩
    interval_cases k
    · exact ⟨.oneShot, rfl, nofun⟩
    · exact ⟨.whileTrue, rfl, fun _ => hc rfl⟩
    · exact ⟨.latch, rfl, nofun⟩

theorem cueInRange_iff {x : CueEntry} : cueInRange x = true ↔ x.onLevel ≤ 255 ∧ x.offLevel ≤ 255
    ∧ (1 ≤ x.onTime ∧ x.onTime ≤ 255) ∧ (1 ≤ x.offTime ∧ x.offTime ≤ 255) ∧ (1 ≤ x.cycles ∧ x.cycles ≤ 255)
    ∧ (x.mode = .whileTrue → isLevelSource x.trigger = true) := by
  have hwhile : ((x.mode != .whileTrue) || isLevelSource x.trigger) = true ↔
      (x.mode = .whileTrue → isLevelSource x.trigger = true) := by
    cases x.mode <;> simp
  rw [← hwhile]
  simp only [cueInRange, between, Nat.zero_le, decide_true, Bool.true_and, Bool.and_eq_true, decide_eq_true_iff, and_assoc]
  rfl

theorem cue_allowed : (∃ x, decodeCue e = some x ∧ cueInRange x = true) ↔ entryAllowed s i e .cue = true := by
  have hpriority : u8At e 13 ≤ 3 ↔ ∃ x : Fin 4, finOf 4 (u8At e 13) = some x := by rw [finOf_listed]; omega
  simp only [decodeCue, bind, Option.bind_eq_some_iff, pure, Option.some.injEq, cueInRange_iff, entryAllowed,
    Bool.and_eq_true, decide_eq_true_iff, orNone_iff, ← triggerOf_listed, ← boolAt_listed, ← maskOf_listed,
    ← finOrNone_listed, hpriority]
  have hbyte (o : Nat) : u8At e o ≤ 255 := Nat.le_of_lt_succ (u8At_lt e o)
  constructor
  · rintro ⟨x, ⟨enabled, he, trigger, ht, mode, hm, cancel, hcancel, mask, hmask, priority, hp, chain, hc, rfl⟩,
      -, -, hon, hoff, hcycles, hwhile⟩
    obtain ⟨hk, hsource⟩ := (cueMode_listed ht).1 ⟨mode, hm, hwhile⟩
    exact ⟨⟨⟨⟨trigger, ht⟩, cancel, hcancel⟩, chain, hc⟩, ⟨enabled, he⟩, hk, ⟨mask, hmask⟩, hon.1, hoff.1, hcycles.1,
      ⟨priority, hp⟩, hsource⟩
  · rintro ⟨⟨⟨⟨trigger, ht⟩, cancel, hcancel⟩, chain, hc⟩, ⟨enabled, he⟩, hk, ⟨mask, hmask⟩, hon, hoff, hcycles,
      ⟨priority, hp⟩, hsource⟩
    obtain ⟨mode, hm, hwhile⟩ := (cueMode_listed ht).2 ⟨hk, hsource⟩
    exact ⟨_, ⟨enabled, he, trigger, ht, mode, hm, cancel, hcancel, mask, hmask, priority, hp, chain, hc, rfl⟩,
      hbyte 8, hbyte 9, ⟨hon, hbyte 10⟩, ⟨hoff, hbyte 11⟩, ⟨hcycles, hbyte 12⟩, hwhile⟩

/-- A source's cell number is its code where it names a cell, and 0 where it names none (Table 7-2). -/
theorem cellNumber_le_iff {q : Option Quantity} {n : Nat} :
    cellNumber q ≤ n ↔ (scanSourceCode q ≤ 4 → scanSourceCode q ≤ n) := by
  rcases q with _ | q
  · simp [cellNumber, scanSourceCode]
  · cases q <;> simp [cellNumber, scanSourceCode]

theorem scanSourceOf_listed {k : Nat} : (∃ q, scanSourceOf k = some q) ↔ k ≤ 8 := by
  constructor
  · rintro ⟨q, hq⟩
    rw [scanSourceOf_iff] at hq
    subst hq
    rcases q with _ | q
    · decide
    · cases q <;> decide
  · intro h
    interval_cases k <;> exact ⟨_, rfl⟩

theorem scan_allowed : (∃ x, decodeScan e = some x ∧ scanInRange s.tables.protect.cellCount x = true) ↔
    entryAllowed s i e .scan = true := by
  simp only [decodeScan, bind, Option.bind_eq_some_iff, pure, Option.some.injEq, scanInRange, cellNumber_le_iff, entryAllowed,
    Bool.and_eq_true, Bool.or_eq_true, beq_iff_eq, decide_eq_true_iff, ← scanSourceOf_listed]
  have hcount : u8At e 1 ∈ [1, 2, 4, 8] ↔ ((u8At e 1 = 1 ∨ u8At e 1 = 2) ∨ u8At e 1 = 4) ∨ u8At e 1 = 8 := by
    simp [or_assoc]
  rw [hcount]
  constructor
  · rintro ⟨x, ⟨source, hs, rfl⟩, hc, hcell⟩
    rw [(scanSourceOf_iff _ _).1 hs] at hcell
    exact ⟨⟨source, hs⟩, hc, hcell⟩
  · rintro ⟨⟨source, hs⟩, hc, hcell⟩
    rw [← (scanSourceOf_iff _ _).1 hs] at hcell
    exact ⟨_, ⟨source, hs, rfl⟩, hc, hcell⟩

theorem protect_allowed :
    (∃ x, decodeProtect e = some x ∧ protectInRange s.tables.scan x = true) ↔ entryAllowed s i e .protect = true := by
  have hcells : (s.tables.scan.toList.all fun x => decide (cellNumber x.source ≤ u8At e 0)) = true ↔
      ∀ k : Fin 8, scanSourceCode s.tables.scan[k].source ≤ 4 → scanSourceCode s.tables.scan[k].source ≤ u8At e 0 := by
    simp only [← cellNumber_le_iff]
    exact ⟨fun h k => by simpa using all_toList h k, fun h => toList_all fun k => by simpa using h k⟩
  simp only [decodeProtect, Option.some.injEq, exists_eq_left', protectInRange, entryAllowed, Bool.and_eq_true, between_iff,
    decide_eq_true_iff, hcells]
  generalize (∀ k : Fin 8, scanSourceCode s.tables.scan[k].source ≤ 4 → scanSourceCode s.tables.scan[k].source ≤ u8At e 0) = q
  by_cases hq : q
  · simp only [hq, and_true]
    omega
  · simp only [hq, and_false]

theorem budget_allowed : (∃ x, decodeBudget e = some x ∧ budgetInRange x = true) ↔ entryAllowed s i e .budget = true := by
  refine (oneField_allowed 0 finOf_listed fun _ => rfl).trans ?_
  simp only [budgetInRange, between_iff, entryAllowed, decide_eq_true_iff]
  omega

theorem input_allowed : (∃ x, decodeInput e = some x ∧ inputInRange x = true) ↔ entryAllowed s i e .input = true := by
  refine (oneField_allowed .low levelOf_listed fun _ => rfl).trans ?_
  simp only [inputInRange, between_iff, entryAllowed, decide_eq_true_iff]
  omega

theorem link_allowed : (∃ x, decodeLink e = some x ∧ linkInRange x = true) ↔ entryAllowed s i e .link = true := by
  simp [decodeLink, linkInRange, entryAllowed, between_iff, and_assoc]

theorem tablesWith_allowed (id : TableId) :
    (∃ t, tablesWith s.tables id i e = some t) ↔ entryAllowed s i e id = true := by
  cases id <;> refine taken_iff.trans ?_
  case func => exact func_allowed
  case curve => exact curve_allowed
  case band => exact band_allowed
  case steer => exact steer_allowed
  case geom => exact geom_allowed
  case corner => exact corner_allowed
  case drive => exact drive_allowed
  case winch => exact winch_allowed
  case lamp => exact lamp_allowed
  case scene => exact scene_allowed
  case cue => exact cue_allowed
  case scan => exact scan_allowed
  case protect => exact protect_allowed
  case budget => exact budget_allowed
  case input => exact input_allowed
  case link => exact link_allowed

/-! ## The checks in order -/

/-- A refusal is the answer, and nothing else changes: the verdict of `judgeWrite` is that of the checks in order. -/
theorem judgeWrite_refuses {p : List Byte} {r : Result} (h : writeRefusal s p = some r) :
    judgeWrite s p = .refuse r := by
  unfold writeRefusal at h
  unfold judgeWrite
  split at h
  · next hrun => rw [if_pos hrun]; cases h; rfl
  next hrun =>
  rw [if_neg hrun]
  split at h
  · next hbusy => rw [if_pos hbusy]; cases h; rfl
  next hbusy =>
  rw [if_neg hbusy]
  split at h
  · next hshort => rw [if_pos hshort]; cases h; rfl
  next hshort =>
  rw [if_neg hshort]
  split at h
  · next htable => rw [tableIdOf_none htable]; cases h; rfl
  next htable =>
  obtain ⟨id, hid, hcount, hlength, hclass⟩ := tableIdOf_facts (n := u8At p 0) (by omega) (by omega)
  rw [hid]
  dsimp only
  rw [hcount, hlength]
  split at h
  · next hindex => rw [if_pos hindex]; cases h; rfl
  next hindex =>
  rw [if_neg hindex]
  split at h
  · next hlong => rw [if_pos hlong]; cases h; rfl
  next hlong =>
  rw [if_neg hlong, judgeEntry]
  split at h
  · next hrunning => rw [if_pos ⟨hclass.2 hrunning.1, hrunning.2⟩]; cases h; rfl
  next hrunning =>
  rw [if_neg fun k => hrunning ⟨hclass.1 k.1, k.2⟩]
  split at h
  · next hrange =>
    cases h
    have hnone : tablesWith s.tables id (u8At p 1) (p.drop 2) = none := by
      refine Option.eq_none_iff_forall_ne_some.2 fun t ht => ?_
      have hallowed := (tablesWith_allowed (s := s) id).1 ⟨t, ht⟩
      rw [payloadAllowed, hid] at hrange
      exact absurd hallowed (by simpa using hrange)
    rw [hnone]
  · cases h

theorem exec_setupWrite {c : Instr} {p : List Byte} (hf : frameOf c = some (0x42, p)) (hp : p.length ≤ 48)
    (hs : Listening s) : exec c s = .next (setupWriteFrame p (putReceiver receiverHunting s)) :=
  exec_listening hf hp hs

/-- A refused write is answered with its refusal, and changes nothing else. -/
theorem exec_refused {c : Instr} {p : List Byte} {r : Result} (hf : frameOf c = some (0x42, p)) (hp : p.length ≤ 48)
    (hs : Listening s) (h : writeRefusal s p = some r) : exec c s = .next (s.answered 0x42 r [] []) := by
  have hjudge : judgeWrite (putReceiver receiverHunting s) p = .refuse r := judgeWrite_refuses (s := putReceiver receiverHunting s) h
  rw [exec_setupWrite hf hp hs, setupWriteFrame, hjudge]
  exact congrArg Host.Outcome.next (answer_hunting _ _ _)

/-- Settles O16: the refusals in their order, and acceptance by the bytes of each table's entry. -/
theorem setupWriteChecksInOrder : Obligations.SetupWriteChecksInOrder := by
  refine ⟨fun c p s hf hp hs => ⟨fun r hr => exec_refused hf hp hs hr, fun hnone => ?_⟩,
    fun s id i e x hid hi he => ?_⟩
  · obtain ⟨id, hun⟩ := unrefused hnone
    obtain ⟨t, ht⟩ := (tablesWith_allowed id).2 hun.allowed
    have howner : ownerAccepts s p = some t := by simpa [ownerAccepts, hun.table] using ht
    obtain ⟨id', hun', -, hexec⟩ := exec_accepted hf ⟨hs, hnone, howner⟩
    refine ⟨_, hexec, ?_, ?_, ?_, ?_⟩
    · rw [howner]; simp
    · rw [answered_link_of_unmoved]
      · rfl
      · simp [entryWritten]
    · simp [entryWritten]
    · simp [(entryWritten_records _ _ _ _).record]
  · have howner : ownerAccepts s (id :: i :: e) = tablesWith s.tables x i.toNat e := by
      simp [ownerAccepts, u8At, hid]
    rw [howner]
    refine ⟨tablesWith_allowed x, fun t ht => ⟨entryBytes_written he hi ht, fun y j hj hne => ?_⟩⟩
    by_cases hy : y = x
    · subst hy
      exact entryBytes_other_entry ht hi hj (hne.resolve_left (not_not.2 rfl))
    · exact entryBytes_other_table ht hy j

end Sys2Proof.Machine

/-! # Sitting 5: the query records and the telemetry payload, field by field (O22: Tables 11-9 to 11-14) -/

namespace Sys2Proof.Machine

/-! ## Bit sets (R191) -/

theorem bitSet_testBit (l : List Bool) (i : Nat) : (bitSet l).testBit i = l.getD i false := by
  induction l generalizing i with
  | nil => simp [bitSet]
  | cons b l ih =>
    cases i with
    | zero => cases b <;> simp [bitSet, Nat.testBit_zero]
    | succ i =>
      rw [Nat.testBit_succ, show bitSet (b :: l) / 2 = bitSet l by cases b <;> simp [bitSet]; omega, ih]
      rfl

theorem bitSet_lt (l : List Bool) : bitSet l < 2 ^ l.length := by
  induction l with
  | nil => simp [bitSet]
  | cons b l ih =>
    rw [List.length_cons, Nat.pow_succ]
    cases b <;> simp [bitSet] <;> omega

/-! ## Fields by their bytes (R190) -/

theorem u8At_cons_zero (x : Byte) (l : List Byte) : u8At (x :: l) 0 = x.toNat := rfl
theorem u8At_cons_succ (x : Byte) (l : List Byte) (o : Nat) : u8At (x :: l) (o + 1) = u8At l o := rfl

variable (s : State)

/-! The codes of Table 11-6 fit one byte. -/

theorem runCode_lt (x : RunState) : runCode x < 256 := by cases x <;> decide
theorem protCode_lt (x : ProtState) : protCode x < 256 := by cases x <;> decide
theorem protCauseCode_lt (x : ProtCause) : protCauseCode x < 256 := by cases x <;> decide
theorem winchStateCode_lt (x : WinchState) : winchStateCode x < 256 := by cases x <;> decide
theorem directionCode_lt (x : Direction) : directionCode x < 256 := by cases x <;> decide
theorem faultCauseCode_lt (x : FaultCause) : faultCauseCode x < 256 := by cases x <;> decide
theorem steerModeCode_lt (x : SteerMode) : steerModeCode x < 256 := by cases x <;> decide
theorem steerStatusCode_lt (x : SteerStatus) : steerStatusCode x < 256 := by cases x <;> decide
theorem pointerNibble_le (x : Option (Fin 4)) : pointerNibble x ≤ 15 := by
  rcases x with _ | c
  · decide
  · simp only [pointerNibble]; omega

/-! ## The records, field by field -/

theorem statusRecord_fields :
    u16At (statusRecord s) 0 = bitSet s.inputs.flags.toList
      ∧ u8At (statusRecord s) 2 = runCode s.link.run ∧ u8At (statusRecord s) 3 = protCode s.protection.state
      ∧ u8At (statusRecord s) 4 = winchStateCode s.winch.state ∧ u8At (statusRecord s) 5 = steerModeCode s.steering.mode
      ∧ u8At (statusRecord s) 6 = steerStatusCode s.steering.status
      ∧ u8At (statusRecord s) 7 = bitSet ((List.finRange 4).map (inputActive s)) := by
  have hflags : bitSet s.inputs.flags.toList < 2 ^ 15 := by simpa using bitSet_lt s.inputs.flags.toList
  have hlines : bitSet ((List.finRange 4).map (inputActive s)) < 2 ^ 4 := by
    simpa using bitSet_lt ((List.finRange 4).map (inputActive s))
  have hrun := runCode_lt s.link.run
  have hprot := protCode_lt s.protection.state
  have hwinch := winchStateCode_lt s.winch.state
  have hmode := steerModeCode_lt s.steering.mode
  have hstatus := steerStatusCode_lt s.steering.status
  simp only [statusRecord, putU16, putU8, List.cons_append, List.nil_append, u16At, u8At_cons_zero, u8At_cons_succ,
    BitVec.toNat_ofNat]
  omega

/-- A corner's figures, as two's complement of 16 bits and as an unsigned field, are read back. -/
theorem signed_field {n : Nat} {v : Int} (h : n = (v % 65536).toNat) (hlo : -32768 ≤ v) (hhi : v < 32768) :
    (if n < 32768 then (n : Int) else n - 65536) = v := by
  split <;> omega

theorem measureRecord_fields :
    (∀ n : Fin 5, u16At (measureRecord s) (2 * n.val) = s.scanner.values[n.val].toNat % 65536)
      ∧ u24At (measureRecord s) 10 = s.scanner.values[5].toNat % 16777216
      ∧ u16At (measureRecord s) 13 = s.scanner.values[6].toNat % 65536
      ∧ u16At (measureRecord s) 15 = (s.scanner.values[7] % 65536).toNat
      ∧ u16At (measureRecord s) 17 = s.protection.minCell.toNat % 65536
      ∧ u8At (measureRecord s) 19 = s.protection.primed.toNat
      ∧ u8At (measureRecord s) 20 = protCode s.protection.state
      ∧ u8At (measureRecord s) 21 = protCauseCode s.protection.cause
      ∧ u24At (measureRecord s) 22 = s.protection.cap % 16777216 := by
  have hstate := protCode_lt s.protection.state
  have hcause := protCauseCode_lt s.protection.cause
  have hprimed := Bool.toNat_lt s.protection.primed
  have hbytes : measureRecord s = putU16 s.scanner.values[0].toNat ++ putU16 s.scanner.values[1].toNat
      ++ putU16 s.scanner.values[2].toNat ++ putU16 s.scanner.values[3].toNat ++ putU16 s.scanner.values[4].toNat
      ++ putU24 s.scanner.values[5].toNat ++ putU16 s.scanner.values[6].toNat ++ putS16 s.scanner.values[7]
      ++ putU16 s.protection.minCell.toNat ++ putBool s.protection.primed ++ putU8 (protCode s.protection.state)
      ++ putU8 (protCauseCode s.protection.cause) ++ putU24 s.protection.cap := rfl
  rw [hbytes]
  refine ⟨Fin.forall_iff.2 fun n hn => ?_, ?_⟩
  · interval_cases n <;>
    · simp only [Nat.reduceMul, putU16, putU8, putS16, putU24, putBool, List.cons_append, List.nil_append, u16At,
        u8At_cons_zero, u8At_cons_succ, BitVec.toNat_ofNat]
      omega
  · simp only [putU16, putU8, putS16, putU24, putBool, List.cons_append, List.nil_append, u16At, u24At, u8At_cons_zero,
      u8At_cons_succ, BitVec.toNat_ofNat]
    omega

theorem winchRecord_fields :
    u8At (winchRecord s) 0 = winchStateCode s.winch.state ∧ u8At (winchRecord s) 1 = directionCode s.winch.direction
      ∧ (s.winch.duty < 65536 → u16At (winchRecord s) 2 = s.winch.duty)
      ∧ (s.winch.target < 65536 → u16At (winchRecord s) 4 = s.winch.target)
      ∧ (u24At (winchRecord s) 6 : Int) = s.winch.line % 16777216
      ∧ u8At (winchRecord s) 9 = s.winch.homed.toNat ∧ u8At (winchRecord s) 10 = faultCauseCode s.winch.cause
      ∧ u8At (winchRecord s) 11 = s.winch.further.toNat ∧ u8At (winchRecord s) 12 = (inputActive s 1).toNat := by
  have hstate := winchStateCode_lt s.winch.state
  have hdirection := directionCode_lt s.winch.direction
  have hcause := faultCauseCode_lt s.winch.cause
  have hhomed := Bool.toNat_lt s.winch.homed
  have hfurther := Bool.toNat_lt s.winch.further
  have hactive := Bool.toNat_lt (inputActive s 1)
  simp only [winchRecord, putU16, putU8, putS24, putU24, putBool, List.cons_append, List.nil_append, u16At, u24At,
    u8At_cons_zero, u8At_cons_succ, BitVec.toNat_ofNat]
  omega

theorem budgetRecord_fields :
    u24At (budgetRecord s) 0 = s.protection.cap % 16777216 ∧ u24At (budgetRecord s) 3 = s.budget.capUsed % 16777216
      ∧ (∀ c : Fin 4, u24At (budgetRecord s) (6 + 9 * c.val) = s.budget.demand[c] % 16777216
        ∧ u24At (budgetRecord s) (9 + 9 * c.val) = s.budget.grant[c] % 16777216
        ∧ u8At (budgetRecord s) (12 + 9 * c.val) = s.tables.budget[c].priority.val
        ∧ u16At (budgetRecord s) (13 + 9 * c.val) = s.tables.budget[c].floor % 65536)
      ∧ u8At (budgetRecord s) 42 = 16 * pointerNibble s.budget.pointers[0] + pointerNibble s.budget.pointers[1]
      ∧ u8At (budgetRecord s) 43 = 16 * pointerNibble s.budget.pointers[2] + pointerNibble s.budget.pointers[3] := by
  have h0 := pointerNibble_le s.budget.pointers[0]
  have h1 := pointerNibble_le s.budget.pointers[1]
  have h2 := pointerNibble_le s.budget.pointers[2]
  have h3 := pointerNibble_le s.budget.pointers[3]
  have hbytes : budgetRecord s = putU24 s.protection.cap ++ putU24 s.budget.capUsed
      ++ (putU24 s.budget.demand[0] ++ putU24 s.budget.grant[0] ++ putU8 s.tables.budget[0].priority.val
        ++ putU16 s.tables.budget[0].floor)
      ++ (putU24 s.budget.demand[1] ++ putU24 s.budget.grant[1] ++ putU8 s.tables.budget[1].priority.val
        ++ putU16 s.tables.budget[1].floor)
      ++ (putU24 s.budget.demand[2] ++ putU24 s.budget.grant[2] ++ putU8 s.tables.budget[2].priority.val
        ++ putU16 s.tables.budget[2].floor)
      ++ (putU24 s.budget.demand[3] ++ putU24 s.budget.grant[3] ++ putU8 s.tables.budget[3].priority.val
        ++ putU16 s.tables.budget[3].floor)
      ++ putU8 (pointerNibble s.budget.pointers[0] * 16 + pointerNibble s.budget.pointers[1])
      ++ putU8 (pointerNibble s.budget.pointers[2] * 16 + pointerNibble s.budget.pointers[3]) := rfl
  rw [hbytes]
  refine ⟨?_, ?_, Fin.forall_iff.2 fun n hn => ?_, ?_, ?_⟩
  case refine_3 =>
    interval_cases n <;>
    · simp only [Fin.getElem_fin, Nat.reduceMul, Nat.reduceAdd, putU16, putU8, putU24, List.cons_append, List.nil_append,
        u16At, u24At, u8At_cons_zero, u8At_cons_succ, BitVec.toNat_ofNat]
      omega
  all_goals
    simp only [putU16, putU8, putU24, List.cons_append, List.nil_append, u16At, u24At, u8At_cons_zero, u8At_cons_succ,
      BitVec.toNat_ofNat]
    omega

theorem steerRecord_fields :
    u8At (steerRecord s) 0 = steerModeCode s.steering.mode ∧ u8At (steerRecord s) 1 = steerModeCode s.steering.requested
      ∧ u8At (steerRecord s) 2 = steerStatusCode s.steering.status ∧ u8At (steerRecord s) 3 = s.steering.modeHeld.toNat
      ∧ ∀ k : Fin 4, u16At (steerRecord s) (4 + 6 * k.val) = (s.steering.corners[k].target % 65536).toNat
        ∧ u16At (steerRecord s) (6 + 6 * k.val) = (s.steering.corners[k].position % 65536).toNat
        ∧ u16At (steerRecord s) (8 + 6 * k.val) = s.steering.corners[k].width.toNat % 65536 := by
  have hmode := steerModeCode_lt s.steering.mode
  have hrequested := steerModeCode_lt s.steering.requested
  have hstatus := steerStatusCode_lt s.steering.status
  have hheld := Bool.toNat_lt s.steering.modeHeld
  refine ⟨?_, ?_, ?_, ?_, Fin.forall_iff.2 fun n hn => ?_⟩
  case refine_5 =>
    interval_cases n <;>
    · simp only [Fin.getElem_fin, Nat.reduceMul, Nat.reduceAdd, steerRecord, cornerRecord, putU16, putU8, putS16, putBool,
        List.cons_append, List.nil_append, u16At, u8At_cons_zero, u8At_cons_succ, BitVec.toNat_ofNat]
      omega
  all_goals
    simp only [steerRecord, cornerRecord, putU16, putU8, putS16, putBool, List.cons_append, List.nil_append,
      u8At_cons_zero, u8At_cons_succ, BitVec.toNat_ofNat]
    omega

theorem telemetryPayload_fields :
    u8At (telemetryPayload s) 0 = runCode s.link.run ∧ u8At (telemetryPayload s) 1 = protCode s.protection.state
      ∧ u16At (telemetryPayload s) 2 = s.protection.minCell.toNat % 65536
      ∧ u16At (telemetryPayload s) 4 = s.scanner.values[4].toNat % 65536
      ∧ u24At (telemetryPayload s) 6 = s.scanner.values[5].toNat % 16777216
      ∧ u8At (telemetryPayload s) 9 = winchStateCode s.winch.state
      ∧ (u24At (telemetryPayload s) 10 : Int) = s.winch.line % 16777216
      ∧ u8At (telemetryPayload s) 13 = s.winch.homed.toNat ∧ u8At (telemetryPayload s) 14 = steerModeCode s.steering.mode
      ∧ u8At (telemetryPayload s) 15 = (s.steering.status == .align).toNat
      ∧ u8At (telemetryPayload s) 16 = (flagsPending s.inputs).toNat := by
  have hrun := runCode_lt s.link.run
  have hprot := protCode_lt s.protection.state
  have hwinch := winchStateCode_lt s.winch.state
  have hmode := steerModeCode_lt s.steering.mode
  have hhomed := Bool.toNat_lt s.winch.homed
  have halign := Bool.toNat_lt (s.steering.status == .align)
  have hpending := Bool.toNat_lt (flagsPending s.inputs)
  have hbytes : telemetryPayload s = putU8 (runCode s.link.run) ++ putU8 (protCode s.protection.state)
      ++ putU16 s.protection.minCell.toNat ++ putU16 s.scanner.values[4].toNat ++ putU24 s.scanner.values[5].toNat
      ++ putU8 (winchStateCode s.winch.state) ++ putS24 s.winch.line ++ putBool s.winch.homed
      ++ putU8 (steerModeCode s.steering.mode) ++ putBool (s.steering.status == .align)
      ++ putBool (flagsPending s.inputs) := rfl
  rw [hbytes]
  simp only [putU16, putU8, putS24, putU24, putBool, List.cons_append, List.nil_append, u16At, u24At, u8At_cons_zero,
    u8At_cons_succ, BitVec.toNat_ofNat]
  omega

/-! ## The lengths and the bits -/

theorem records_length : (statusRecord s).length = 8 ∧ (measureRecord s).length = 25 ∧ (winchRecord s).length = 13
    ∧ (budgetRecord s).length = 44 ∧ (steerRecord s).length = 28 ∧ (telemetryPayload s).length = 17 :=
  ⟨rfl, rfl, rfl, rfl, rfl, rfl⟩

theorem toNat_eq_ite (b : Bool) : b.toNat = if b = true then 1 else 0 := by cases b <;> rfl

theorem flagsPending_iff (x : Inputs) : flagsPending x = true ↔ ∃ i : Fin 15, x.flags[i] = true := by
  unfold flagsPending
  rw [List.any_eq_true]
  constructor
  · rintro ⟨b, hb, hid⟩
    obtain ⟨i, hi, rfl⟩ := List.mem_iff_getElem.1 hb
    exact ⟨⟨i, by simpa using hi⟩, by simpa using hid⟩
  · rintro ⟨i, hi⟩
    exact ⟨x.flags[i], by simp, hi⟩

theorem inputActive_iff (n : Fin 4) : inputActive s n = true ↔ s.inputs.lines[n].level = s.tables.input[n].active := by
  simp [inputActive, lineActive]

theorem statusRecord_bits :
    (∀ i : Fin 15, (u16At (statusRecord s) 0).testBit i.val = s.inputs.flags[i])
      ∧ (u16At (statusRecord s) 0).testBit 15 = false
      ∧ (∀ n : Fin 4, (u8At (statusRecord s) 7).testBit n.val =
          decide (s.inputs.lines[n].level = s.tables.input[n].active))
      ∧ u8At (statusRecord s) 7 < 16 := by
  obtain ⟨hflags, -, -, -, -, -, hlines⟩ := statusRecord_fields s
  rw [hflags, hlines]
  refine ⟨fun i => ?_, ?_, fun n => ?_, ?_⟩
  · rw [bitSet_testBit]; simp
  · rw [bitSet_testBit]; simp
  · rw [bitSet_testBit, ← Bool.decide_congr (inputActive_iff s n), Bool.decide_eq_true]
    simp
  · simpa using bitSet_lt ((List.finRange 4).map (inputActive s))

theorem field_nat {n m v : Nat} (h : n = v % m) (hv : v < m) : n = v := h.trans (Nat.mod_eq_of_lt hv)

theorem field_int {n m : Nat} {v : Int} (h : n = v.toNat % m) (h₀ : 0 ≤ v) (hv : v < m) : (n : Int) = v := by
  rw [h, Nat.mod_eq_of_lt (by omega)]
  omega

/-- Settles O22: each record's bytes, field by field. -/
theorem recordLayouts : Obligations.RecordLayouts := by
  intro s run prot cause winch direction fault mode requested status pointer hrun hprot hcause hwinch hdirection hfault
    hmode hrequested hstatus hpointer
  have hrun' : runCode s.link.run = run := by rw [hrun]; cases s.link.run <;> rfl
  have hprot' : protCode s.protection.state = prot := by rw [hprot]; cases s.protection.state <;> rfl
  have hcause' : protCauseCode s.protection.cause = cause := by rw [hcause]; cases s.protection.cause <;> rfl
  have hwinch' : winchStateCode s.winch.state = winch := by rw [hwinch]; cases s.winch.state <;> rfl
  have hdirection' : directionCode s.winch.direction = direction := by rw [hdirection]; cases s.winch.direction <;> rfl
  have hfault' : faultCauseCode s.winch.cause = fault := by rw [hfault]; cases s.winch.cause <;> rfl
  have hmode' : steerModeCode s.steering.mode = mode := by rw [hmode]; cases s.steering.mode <;> rfl
  have hrequested' : steerModeCode s.steering.requested = requested := by
    rw [hrequested]; cases s.steering.requested <;> rfl
  have hstatus' : steerStatusCode s.steering.status = status := by rw [hstatus]; cases s.steering.status <;> rfl
  have hpointer' (l : Fin 4) : pointerNibble s.budget.pointers[l] = pointer l := by
    rw [hpointer]; cases s.budget.pointers[l] <;> rfl
  clear hrun hprot hcause hwinch hdirection hfault hmode hrequested hstatus hpointer
  subst hrun' hprot' hcause' hwinch' hdirection' hfault' hmode' hrequested' hstatus'
  refine ⟨records_length s, ?_, ?_, ?_, ?_, ?_, ?_⟩
  · obtain ⟨hbits, htop, hlines, hlt⟩ := statusRecord_bits s
    obtain ⟨-, h2, h3, h4, h5, h6, -⟩ := statusRecord_fields s
    exact ⟨hbits, htop, h2, h3, h4, h5, h6, hlines, hlt⟩
  · obtain ⟨hcells, h10, h13, h15, h17, h19, h20, h21, h22⟩ := measureRecord_fields s
    exact ⟨fun n => field_int (hcells n), field_int h10, field_int h13, signed_field h15, field_int h17,
      h19.trans (toNat_eq_ite _), h20, h21, field_nat h22⟩
  · obtain ⟨h0, h1, h2, h4, h6, h9, h10, h11, h12⟩ := winchRecord_fields s
    refine ⟨h0, h1, h2, h4, fun _ => h6, h9.trans (toNat_eq_ite _), h10, h11.trans (toNat_eq_ite _), ?_⟩
    rw [h12, toNat_eq_ite]
    exact if_congr (inputActive_iff s 1) rfl rfl
  · obtain ⟨h0, h3, hclaims, h42, h43⟩ := budgetRecord_fields s
    refine ⟨field_nat h0, field_nat h3, fun c => ?_, by rw [h42, ← hpointer', ← hpointer']; rfl,
      by rw [h43, ← hpointer', ← hpointer']; rfl⟩
    obtain ⟨hdemand, hgrant, hpriority, hfloor⟩ := hclaims c
    exact ⟨field_nat hdemand, field_nat hgrant, hpriority, field_nat hfloor⟩
  · obtain ⟨h0, h1, h2, h3, hcorners⟩ := steerRecord_fields s
    refine ⟨h0, h1, h2, h3.trans (toNat_eq_ite _), fun k => ?_⟩
    obtain ⟨htarget, hposition, hwidth⟩ := hcorners k
    exact ⟨fun h => signed_field htarget (by omega) (by omega), fun h => signed_field hposition (by omega) (by omega),
      field_int hwidth⟩
  · obtain ⟨h0, h1, h2, h4, h6, h9, h10, h13, h14, h15, h16⟩ := telemetryPayload_fields s
    refine ⟨h0, h1, field_int h2, field_int h4, field_int h6, h9, fun _ => h10, h13.trans (toNat_eq_ite _), h14, ?_, ?_, ?_⟩
    · rw [h15]
      cases s.steering.status <;> rfl
    · rw [h16, ← flagsPending_iff]
      cases flagsPending s.inputs <;> simp
    · rw [h16]
      exact Bool.toNat_le _

end Sys2Proof.Machine

/-! # Sitting 5: what the throttle keeps (O58: R75 to R82) -/

namespace Sys2Proof.Machine

/-! ## One pass evaluated, by what becomes of the protection state (R146 to R148) -/

/-- An evaluated pass leaves the state, its cause and the cap, or changes to another state of the record in force. -/
theorem evaluatePass_cases (l : Vector ScanEntry 8) (s : State) :
    (∃ p, evaluatePass l s = { s with protection := p } ∧ p.state = s.protection.state
        ∧ p.cause = s.protection.cause ∧ p.cap = s.protection.cap)
      ∨ ∃ p c, evaluatePass l s = deliverProtection p s ∧ judge s.tables.protect c s.protection.state = some (p.state, p.cause)
        ∧ p.cap = capFor s.tables.protect p.state := by
  simp only [evaluatePass]
  split <;> [split; skip]
  · exact .inl ⟨_, rfl, rfl, rfl, rfl⟩
  · next st cause hjudge => exact .inr ⟨_, _, rfl, hjudge, rfl⟩
  · exact .inl ⟨_, rfl, rfl, rfl, rfl⟩

/-! ## The throttle under the run state, the protection state and the record in force -/

/-- The facts of `ThrottleSound`, about DRV and what it reads alone. -/
structure ThrottleKept (q : DriveRecord) (rs : RunState) (p : ProtState) (x : Drive) : Prop where
  zeroed : rs ≠ .run ∨ p = .cutoff → x.t2 = 0 ∧ x.filed = 0
  braking : x.braking = x.brakingTimer.running
  ceiling : x.s4Active = true → x.t2.natAbs ≤ min 1000 (x.grantUsed * 1000 / q.ratedCurrent)
  width : x.s4Active = true → x.s4Width = throttleWidth q x.t2
  reverse : x.s4Active = true → (x.reverse = true ↔ x.t2 < -(q.reverseThreshold : Int))

theorem throttleSound_iff {s : State} :
    ThrottleSound s ↔ ThrottleKept s.tables.drive s.link.run s.protection.state s.drive :=
  ⟨fun h => { h with }, fun h => { h with }⟩

theorem driveZeroed_iff {rs : RunState} {p : ProtState} : driveZeroed rs p = true ↔ rs ≠ .run ∨ p = .cutoff := by
  simp [driveZeroed]

theorem throttleT2_ceiling (q : DriveRecord) (z : Bool) (grant : Nat) (t1 : Int) :
    (throttleT2 q z grant t1).natAbs ≤ driveCeiling q grant := by
  unfold throttleT2
  split
  · simp
  · unfold clampTo
    omega

/-- One computation makes all of it, from any DRV whose BRAKING goes with its timer. -/
theorem throttlePath_kept {q : DriveRecord} {rs : RunState} {p : ProtState} {grant : Nat} {x : Drive}
    (h : x.braking = x.brakingTimer.running) : ThrottleKept q rs p (throttlePath q rs p grant x) where
  zeroed hz := by
    have hzeroed := driveZeroed_iff.2 hz
    simp [throttlePath, hzeroed, throttleT2, driveDemand]
  braking := by
    dsimp only [throttlePath]
    split
    · next hf => rw [hf, Bool.or_true]; rfl
    · next hf => rw [Bool.eq_false_iff.2 hf, Bool.or_false, h]
  ceiling _ := throttleT2_ceiling _ _ _ _
  width _ := rfl
  reverse _ := decide_eq_true_iff

/-- The throttle of a part is kept where DRV, the run state, the protection state and the DRIVE record stand. -/
def ThrottleOf (s : State) : Prop := ThrottleKept s.tables.drive s.link.run s.protection.state s.drive

theorem ThrottleOf.of_same {s t : State} (h : ThrottleOf s) (hdrive : t.drive = s.drive) (hrun : t.link.run = s.link.run)
    (hstate : t.protection.state = s.protection.state) (hrecord : t.tables.drive = s.tables.drive) : ThrottleOf t := by
  unfold ThrottleOf at *
  rwa [hdrive, hrun, hstate, hrecord]

theorem throttleOf_computed {t : State} {grant : Nat} {x : Drive} (h : x.braking = x.brakingTimer.running)
    (hdrive : t.drive = throttlePath t.tables.drive t.link.run t.protection.state grant x) : ThrottleOf t := by
  unfold ThrottleOf
  rw [hdrive]
  exact throttlePath_kept h

theorem functionUpdate_throttle {s : State} (h : ThrottleOf s) (r : FunctionRecord) : ThrottleOf (functionUpdate r s) := by
  unfold ThrottleOf
  rw [functionUpdate_drive, functionUpdate_tables, functionUpdate_link, functionUpdate_protection]
  exact { throttlePath_kept (q := s.tables.drive) (rs := s.link.run) (p := s.protection.state) (grant := grantOf s 1)
    (x := { s.drive with record := r }) h.braking with }

theorem deliverRun_throttleOf {s : State} (h : ThrottleOf s) (n : RunState) : ThrottleOf (deliverRun n s) :=
  throttleOf_computed (grant := grantOf s 1) h.braking (by rw [deliverRun_drive]; simp)

theorem deliverProtection_throttle {s : State} (h : ThrottleOf s) (p : Protection) : ThrottleOf (deliverProtection p s) :=
  throttleOf_computed (grant := grantOf s 1) h.braking (by simp [deliverProtection, grantOf])

theorem evaluatePass_throttle {s : State} (h : ThrottleOf s) (l : Vector ScanEntry 8) : ThrottleOf (evaluatePass l s) := by
  rcases evaluatePass_cases l s with ⟨p, heq, hstate, -, -⟩ | ⟨p, c, heq, -, -⟩
  · rw [heq]
    exact h.of_same rfl rfl hstate rfl
  · rw [heq]
    exact deliverProtection_throttle h p

theorem conversionEnded_throttle {s : State} (h : ThrottleOf s) (x : SenseInputs) : ThrottleOf (conversionEnded x s) := by
  have hhanded (q : Quantity) (v : Int) (u : State) (hu : ThrottleOf u) : ThrottleOf (handValue q v u) :=
    hu.of_same (by simp) (by simp) (by simp) (by simp)
  simp only [conversionEnded, completeSlot]
  repeat' split
  · exact h
  · exact h
  · exact hhanded _ _ _ (h.of_same rfl rfl rfl rfl)
  · exact evaluatePass_throttle (hhanded _ _ (putScanner _ _ _ s) (h.of_same rfl rfl rfl rfl)) _
  · exact h.of_same rfl rfl rfl rfl

theorem driveTakesPeriod_throttle {s : State} (h : ThrottleOf s) : ThrottleOf (driveTakesPeriod s) := by
  unfold driveTakesPeriod
  split
  · exact h
  · exact throttleOf_computed (grant := grantOf s 1) h.braking (by rw [driveCompute_drive]; simp)

theorem servoPeriodStarted_throttle {s : State} (h : ThrottleOf s) : ThrottleOf (servoPeriodStarted s) := by
  have htimed : ThrottleOf (startPeriod s) := { h with }
  have hperiod : ThrottleOf (driveTakesPeriod (steeringTakesPeriod (startPeriod s))) :=
    driveTakesPeriod_throttle (htimed.of_same (by simp) (by simp) (by simp) (by simp))
  exact { hperiod with }

theorem brakingExpired_throttle {s : State} (h : ThrottleOf s) : ThrottleOf (brakingExpired s) := by
  unfold ThrottleOf brakingExpired
  rw [putDrive_drive, putDrive_tables, putDrive_link, putDrive_protection]
  exact { h with braking := rfl }

/-- A write that does not name the DRIVE record leaves it in force. -/
theorem tablesWith_drive {t u : Tables} {id : TableId} {i : Nat} {e : List Byte} (h : tablesWith t id i e = some u)
    (hid : id ≠ .drive) : u.drive = t.drive := by
  cases id
  case drive => exact absurd rfl hid
  all_goals
    simp only [tablesWith, Option.map_eq_some_iff] at h
    obtain ⟨_, -, rfl⟩ := h
    rfl

theorem entryWritten_drive (id : TableId) (i : Nat) (t : Tables) (s : State) :
    (entryWritten id i t s).drive =
      if id = .drive then throttlePath t.drive s.link.run s.protection.state (grantOf s 1) s.drive else s.drive := by
  unfold entryWritten ownerWritten
  cases id
  case drive => simp [grantOf]
  case cue | input => dsimp only; split <;> simp
  all_goals simp

theorem entryWritten_protState (id : TableId) (i : Nat) (t : Tables) (s : State) :
    (entryWritten id i t s).protection.state = s.protection.state := by
  unfold entryWritten ownerWritten
  cases id
  case protect => rfl
  case cue | input => dsimp only; split <;> simp
  all_goals simp

theorem lineRewritten_fold_protection (before : Vector InputEntry 4) (ns : List (Fin 4)) (s : State) :
    (ns.foldl (fun x n => lineRewritten before[n].active n x) s).protection = s.protection :=
  lineRewritten_fold_keeps (R := fun x y => y.protection = x.protection) (fun _ => rfl) (fun k h => k.trans h) before
    (fun _ _ => by simp) ns s

theorem defaultsRestored_protState (s : State) : (defaultsRestored s).protection.state = s.protection.state := by
  have hlines : (defaultsRestored s).protection = (ownersRestored s).protection := lineRewritten_fold_protection _ _ _
  rw [hlines, ownersRestored, show ∀ x : State, (recomputeCap x).protection.state = x.protection.state from fun _ => rfl]
  simp

theorem entryWritten_throttle {s : State} (h : ThrottleOf s) {id : TableId} {i : Nat} {e : List Byte} {t : Tables}
    (ht : tablesWith s.tables id i e = some t) : ThrottleOf (entryWritten id i t s) := by
  have hlink : (entryWritten id i t s).link = s.link := by simp [entryWritten]
  have hdrive := entryWritten_drive id i t s
  by_cases hid : id = .drive
  · rw [if_pos hid] at hdrive
    exact throttleOf_computed (grant := grantOf s 1) h.braking (by rw [hdrive, entryWritten_tables, hlink, entryWritten_protState])
  · rw [if_neg hid] at hdrive
    exact h.of_same hdrive (by rw [hlink]) (entryWritten_protState _ _ _ _)
      (by rw [entryWritten_tables, tablesWith_drive ht hid])

theorem defaultsRestored_throttle {s : State} (h : ThrottleOf s) : ThrottleOf (defaultsRestored s) := by
  refine throttleOf_computed (grant := grantOf s 1) h.braking ?_
  rw [defaultsRestored_drive, defaultsRestored_tables, defaultsRestored_link, defaultsRestored_protState]
  simp [ownersRestored, grantOf]

theorem loadCompleted_throttle {s : State} (h : ThrottleOf s) (v : Vector Level 4) (a b : Level) :
    ThrottleOf (loadCompleted v a b s) := by
  have hbraking : (driveStarted (loadBegun v s)).braking = (driveStarted (loadBegun v s)).brakingTimer.running := by
    simpa [driveStarted, loadBegun] using h.braking
  rw [loadCompleted_eq]
  exact throttleOf_computed (grant := grantOf (loadBegun v s) 1) hbraking (by simp [grantOf, batteryLoaded, lightsStartUp])

theorem Move.throttle {c : Instr} {s t : State} (h : Move c s t) (hs : ThrottleOf s) : ThrottleOf t := by
  cases h
  case link l hrun => exact hs.of_same rfl hrun rfl rfl
  case update | failsafeValues => exact functionUpdate_throttle hs _
  case enterRun | leaveRun | enterSetup | leaveSetup => exact deliverRun_throttleOf hs _
  case entry ht => exact entryWritten_throttle hs ht
  case restore => exact defaultsRestored_throttle hs
  case clearProtect => exact deliverProtection_throttle hs _
  case conversion => exact conversionEnded_throttle hs _
  case period => exact servoPeriodStarted_throttle hs
  case braking => exact brakingExpired_throttle hs
  case load => exact loadCompleted_throttle hs _ _ _
  all_goals exact hs.of_same (by simp) (by simp) (by simp) (by simp)

theorem throttleOf_resetLeaving (k : ResetKind) (d : Bool) (s : State) : ThrottleOf (resetLeaving k d s) where
  zeroed _ := ⟨rfl, rfl⟩
  braking := rfl
  ceiling := nofun
  width := nofun
  reverse := nofun

/-- Settles O58: every computation of the throttle path makes the throttle's facts anew, and nothing else touches
what they speak of. -/
theorem throttleIsKept : Obligations.ThrottleIsKept := fun _ _ hs h =>
  throttleSound_iff.2 (step_keeps (P := ThrottleOf) (fun _ _ hx => { hx with }) (fun _ _ _ hm => hm.throttle)
    (fun k d x _ => throttleOf_resetLeaving k d x) (throttleSound_iff.1 hs) h)

end Sys2Proof.Machine

/-! # Sitting 5: leaving CUTOFF, and what protection keeps (O47: R144, R147, R150, R151) -/

namespace Sys2Proof.Machine

/-! ## What the start bit leaves before a frame or a byte (R10, R187) -/

/-- On the line, the frame or byte is taken by a part that at most has abandoned a reply; or a soft reset has been
performed; or nothing but the link and the reported set has changed. -/
theorem onLine_cases (f : State → State) (s : State) :
    (∃ u, onLine f s = f u ∧ u = { s with link := u.link, inputs := u.inputs } ∧ u.link.run = s.link.run
        ∧ u.link.receiver = s.link.receiver)
      ∨ (∃ d, onLine f s = resetLeaving .soft d s)
      ∨ ∃ l i, onLine f s = { s with link := l, inputs := i } ∧ l.run = s.link.run := by
  have htaken (u : State) (hu : u = { s with link := u.link, inputs := u.inputs }) (hrun : u.link.run = s.link.run)
      (hreceiver : u.link.receiver = s.link.receiver) :
      (∃ u', afterStartBit f u = f u' ∧ u' = { s with link := u'.link, inputs := u'.inputs } ∧ u'.link.run = s.link.run
          ∧ u'.link.receiver = s.link.receiver)
        ∨ (∃ d, afterStartBit f u = resetLeaving .soft d s)
        ∨ ∃ l i, afterStartBit f u = { s with link := l, inputs := i } ∧ l.run = s.link.run := by
    unfold afterStartBit
    split
    · exact .inr (.inr ⟨{ u.link with discarding := false }, u.inputs, by rw [hu]; rfl, hrun⟩)
    · exact .inl ⟨u, rfl, hu, hrun, hreceiver⟩
  by_cases hr : receiving s = true
  · rw [onLine, if_pos hr]
    cases hreply : s.link.reply with
    | empty =>
      rw [show abandonReply s = s by unfold abandonReply; rw [hreply]]
      exact htaken s rfl rfl rfl
    | sending c =>
      rw [show abandonReply s = s by unfold abandonReply; rw [hreply]]
      exact htaken s rfl rfl rfl
    | pending c =>
      rw [abandonReply_pending hreply]
      by_cases hn : Notice.softReset ∈ c.notices
      · rw [noticesAbandoned_reset hn]
        exact .inr (.inl ⟨false, rfl⟩)
      · rw [noticesAbandoned_report hn]
        exact htaken _ rfl rfl rfl
  · rw [onLine, if_neg hr]
    exact .inr (.inr ⟨_, _, rfl, rfl⟩)

/-! ## The protection state and its cause -/

/-- The protection state and its cause stand. -/
def CauseStands (s t : State) : Prop :=
  t.protection.state = s.protection.state ∧ t.protection.cause = s.protection.cause

theorem CauseStands.refl (s : State) : CauseStands s s := ⟨rfl, rfl⟩

theorem CauseStands.after {s t u : State} (k : CauseStands t u) (h : CauseStands s t) : CauseStands s u :=
  ⟨k.1.trans h.1, k.2.trans h.2⟩

theorem CauseStands.of_eq {s t : State} (h : t.protection = s.protection) : CauseStands s t := by
  rw [CauseStands, h]
  exact ⟨rfl, rfl⟩

theorem CauseStands.ite {p : Prop} [Decidable p] {s t u : State} (h : CauseStands s t) (k : CauseStands s u) :
    CauseStands s (if p then t else u) := by
  split
  · exact h
  · exact k

theorem causeStands_reset (d : Bool) (s : State) : CauseStands s (resetLeaving .soft d s) := ⟨rfl, rfl⟩

theorem entryWritten_cause (id : TableId) (i : Nat) (t : Tables) (s : State) : CauseStands s (entryWritten id i t s) := by
  unfold entryWritten ownerWritten
  cases id
  case protect => exact ⟨rfl, rfl⟩
  case cue | input => dsimp only; split <;> exact .of_eq (by simp)
  all_goals exact .of_eq (by simp)

theorem defaultsRestored_cause (s : State) : CauseStands s (defaultsRestored s) := by
  have hlines : (defaultsRestored s).protection = (ownersRestored s).protection := lineRewritten_fold_protection _ _ _
  rw [CauseStands, hlines, ownersRestored, show ∀ x : State, (recomputeCap x).protection =
    { x.protection with cap := capFor x.tables.protect x.protection.state } from fun _ => rfl]
  constructor <;> simp

/-- No evaluated pass leaves CUTOFF (R148). -/
theorem evaluatePass_cutoff {s : State} (h : s.protection.state = .cutoff) (l : Vector ScanEntry 8) :
    CauseStands s (evaluatePass l s) := by
  rcases evaluatePass_cases l s with ⟨p, heq, hstate, hcause, -⟩ | ⟨p, c, -, hjudge, -⟩
  · rw [heq]
    exact ⟨hstate, hcause⟩
  · rw [h] at hjudge
    cases hjudge

theorem conversionEnded_cutoff {s : State} (h : s.protection.state = .cutoff) (x : SenseInputs) :
    CauseStands s (conversionEnded x s) := by
  simp only [conversionEnded, completeSlot]
  repeat' split
  · exact .refl s
  · exact .refl s
  · exact .of_eq (by simp)
  · exact (evaluatePass_cutoff (by simpa using h) _).after (.of_eq (by simp))
  · exact .of_eq rfl

/-! ## An accepted CLEAR_PROTECT (R151) -/

/-- From `x`, in CUTOFF, an accepted CLEAR_PROTECT leads to `y`: the conditions it found, and what it left. -/
structure Clears (x y : State) : Prop where
  run : x.link.run ≠ .init
  reply : y.link.reply = .pending { kind := 0x52, payload := [0x45, 0], answered := 0x45, notices := [] }
  allowed : clearProtectAllowed x = true
  protection : y.protection = { x.protection with state := .limit, cause := .none, counters := ⟨0, 0, 0, 0, 0, 0⟩
                                                  cap := x.tables.protect.iMax * x.tables.protect.limitFactor / 1000 }
  flag : y.inputs.flags[8] = true

theorem protectCleared_clears {x : State} (hrun : x.link.run ≠ .init) (h : clearProtectAllowed x = true) :
    Clears x (answerAction .done (protectCleared x)) := by
  refine ⟨hrun, rfl, h, ?_, ?_⟩
  · rw [answerAction_protection, protectCleared, deliverProtection_protection]
    rfl
  · rw [answerAction_inputs, protectCleared, deliverProtection_eq (by simp)]
    simpa using (raiseFlag_flag .protChanged x.inputs 8).trans (if_pos rfl)

/-- A frame dispatched in CUTOFF leaves state and cause, but for an ACTION frame of code 6 that is accepted. -/
def FrameKeepsCutoff (k : Byte) (p : List Byte) (x y : State) : Prop :=
  CauseStands x y ∨ (k = 0x45 ∧ p = [6]) ∧ Clears x y

theorem performAction_cutoff {s : State} (a : Action) (hr : s.link.run ≠ .init) :
    CauseStands s (performAction a s) ∨ a = .clearProtect ∧ Clears s (performAction a s) := by
  cases a with
  | enterSetup =>
    refine .inl ?_
    simp only [performAction, performEnterSetup]
    split <;> exact .of_eq (by simp)
  | leaveSetup =>
    refine .inl ?_
    simp only [performAction, performLeaveSetup]
    split_ifs <;> exact .of_eq (by simp)
  | store =>
    refine .inl ?_
    simp only [performAction, performStore]
    split_ifs <;> exact .of_eq (by simp)
  | restoreDefaults =>
    refine .inl ?_
    simp only [performAction, performRestoreDefaults]
    split_ifs
    · exact .of_eq rfl
    · exact .of_eq rfl
    · exact (CauseStands.of_eq (answerAction_protection _ _)).after (defaultsRestored_cause s)
  | softReset =>
    refine .inl ?_
    simp only [performAction, performSoftReset]
    split_ifs <;> exact .of_eq rfl
  | clearProtect =>
    simp only [performAction, performClearProtect]
    split
    · exact .inl (.of_eq rfl)
    · split
      · next h => exact .inr ⟨trivial, protectCleared_clears hr h⟩
      · exact .inl (.of_eq rfl)
  | winchHome =>
    refine .inl ?_
    simp only [performAction, performWinchHome]
    split_ifs <;> exact .of_eq (by simp)
  | winchClear =>
    refine .inl ?_
    simp only [performAction, performWinchClear]
    split_ifs <;> exact .of_eq (by simp)

/-- Only code 6 names CLEAR_PROTECT (Table 11-5). -/
theorem actionOf_clearProtect {n : Nat} (h : actionOf n = some .clearProtect) : n = 6 := by
  unfold actionOf at h
  split at h <;> cases h
  rfl

theorem actionFrame_cutoff (p : List Byte) (s : State) : FrameKeepsCutoff 0x45 p s (actionFrame p s) := by
  unfold actionFrame
  split
  · exact .inl (.of_eq rfl)
  next hr =>
  split
  · exact .inl (.of_eq rfl)
  next hlen =>
  cases ha : actionOf (u8At p 0) with
  | none => exact .inl (.of_eq rfl)
  | some a =>
    refine (performAction_cutoff a hr).imp_right fun ⟨hclear, hclears⟩ => ⟨⟨rfl, ?_⟩, hclears⟩
    obtain ⟨b, rfl⟩ := List.length_eq_one_iff.1 (not_not.1 hlen)
    have hb : b.toNat = 6 := actionOf_clearProtect (by rw [← hclear]; exact ha)
    exact congrArg (fun x => [x]) (BitVec.eq_of_toNat_eq hb)

theorem dispatch_cutoff (k : Byte) (p : List Byte) (s : State) : FrameKeepsCutoff k p s (dispatch k p s) := by
  unfold dispatch
  split
  · exact .inl (.of_eq (by simp))
  split
  · refine .inl ?_
    unfold setupWriteFrame
    split
    · exact .of_eq rfl
    · exact entryWritten_cause _ _ _ s
  split
  · refine .inl (.of_eq ?_)
    unfold setupReadFrame
    repeat' split
    all_goals rfl
  split
  · refine .inl (.of_eq ?_)
    unfold queryFrame answerQuery
    repeat' split
    all_goals rfl
  split
  · next hk => rw [hk]; exact actionFrame_cutoff p s
  · exact .inl (.of_eq rfl)

/-! ## Leaving CUTOFF, command by command (R151) -/

/-- What a frame or byte does on the line, it does to a part whose protection, tables, measured values, record, winch
and run state are those of `s`. -/
theorem onLine_cutoff {f : State → State} {P : State → Prop} {s : State} (hcut : s.protection.state = .cutoff)
    (hf : ∀ x, x.protection.state = .cutoff → CauseStands x (f x) ∨ P x ∧ Clears x (f x)) :
    CauseStands s (onLine f s) ∨ ∃ u, P u ∧ Clears u (onLine f s) ∧ u = { s with link := u.link, inputs := u.inputs }
      ∧ u.link.run = s.link.run ∧ u.link.receiver = s.link.receiver := by
  rcases onLine_cases f s with ⟨u, heq, hu, hrun, hreceiver⟩ | ⟨d, heq⟩ | ⟨l, i, heq, -⟩
  · have hprotection : u.protection = s.protection := by rw [hu]
    rw [heq]
    rcases hf u (by rw [hprotection]; exact hcut) with hstands | ⟨hP, hclears⟩
    · exact .inl (hstands.after (.of_eq hprotection))
    · exact .inr ⟨u, hP, hclears, hu, hrun, hreceiver⟩
  · rw [heq]
    exact .inl (causeStands_reset d s)
  · rw [heq]
    exact .inl (.of_eq rfl)

/-- From `s`, in CUTOFF, the command `c` leads to `t` by way of an accepted CLEAR_PROTECT. -/
def ClearsBy (c : Instr) (s t : State) : Prop :=
  EndsFrame c s 0x45 [6] ∧ ∃ u, Clears u t ∧ u = { s with link := u.link, inputs := u.inputs }
    ∧ u.link.run = s.link.run

theorem takeFrame_cutoff {f : State → State} {P : Prop} (p : List Byte)
    (hf : ∀ x, x.protection.state = .cutoff → CauseStands x (f x) ∨ P ∧ Clears x (f x)) (x : State)
    (hx : x.protection.state = .cutoff) : CauseStands x (takeFrame f p x) ∨ P ∧ Clears x (takeFrame f p x) := by
  unfold takeFrame
  split
  · exact .inl (.of_eq rfl)
  · rcases hf (putReceiver receiverHunting x) hx with h | ⟨hP, hclears⟩
    · exact .inl h
    · exact .inr ⟨hP, { hclears with }⟩

theorem takeByte_cutoff (b : Byte) (x : State) : CauseStands x (takeByte b x)
    ∨ (x.link.receiver.phase = .checkLo ∧ x.link.receiver.kind = 0x45 ∧ x.link.receiver.taken = [6]
        ∧ x.link.receiver.checkHi ++ b = x.link.receiver.crc) ∧ Clears x (takeByte b x) := by
  unfold takeByte
  dsimp only
  split
  · next h =>
    rcases dispatch_cutoff x.link.receiver.kind x.link.receiver.taken
      (putReceiver (advanceReceiver x.link.receiver b) x) with hstands | ⟨⟨hk, hp⟩, hclears⟩
    · exact .inl hstands
    · exact .inr ⟨⟨h.1, hk, hp, by simpa [frameGood] using h.2⟩, { hclears with }⟩
  · exact .inl (.of_eq rfl)

theorem exec_frame_cutoff {c : Instr} {k : Byte} {p : List Byte} {s t : State} (hf : frameOf c = some (k, p))
    (h : exec c s = .next t) (hcut : s.protection.state = .cutoff) : CauseStands s t ∨ ClearsBy c s t := by
  rw [exec_frame hf] at h
  injection h with h
  subst h
  rcases onLine_cutoff (P := fun _ => k = 0x45 ∧ p = [6]) hcut
    (takeFrame_cutoff p fun x _ => dispatch_cutoff k p x) with hstands | ⟨u, ⟨rfl, rfl⟩, hclears, hu, hrun, -⟩
  · exact .inl hstands
  · exact .inr ⟨.inl hf, u, hclears, hu, hrun⟩

theorem exec_byte_cutoff {c : Instr} {b : Byte} {f : State → State} {s t : State}
    (hc : c = .byteReceived b ∨ c = .lenDiscard b) (h : exec c s = .next t) (hexec : exec c s = .next (onLine f s))
    (hf : ∀ x, CauseStands x (f x)
      ∨ (x.link.receiver.phase = .checkLo ∧ x.link.receiver.kind = 0x45 ∧ x.link.receiver.taken = [6]
          ∧ x.link.receiver.checkHi ++ b = x.link.receiver.crc) ∧ Clears x (f x))
    (hcut : s.protection.state = .cutoff) : CauseStands s t ∨ ClearsBy c s t := by
  rw [hexec] at h
  injection h with h
  subst h
  rcases onLine_cutoff hcut (fun x _ => hf x) with hstands | ⟨u, hP, hclears, hu, hrun, hreceiver⟩
  · exact .inl hstands
  · rw [hreceiver] at hP
    exact .inr ⟨.inr (.inr ⟨b, hc, hP⟩), u, hclears, hu, hrun⟩

theorem completeReply_cause (s : State) : CauseStands s (completeReply s) := by
  have hnotices (ns : List Notice) (x : State) : CauseStands x (ns.foldl (fun x n => noticeCompleted n x) x) := by
    induction ns generalizing x with
    | nil => exact .refl x
    | cons n ns ih => exact (ih _).after (by cases n <;> exact ⟨rfl, rfl⟩)
  unfold completeReply
  split
  · exact (hnotices _ _).after (.of_eq (by simp))
  · exact .refl s
  · exact .refl s

theorem abandonReply_cause (s : State) : CauseStands s (abandonReply s) := by
  have hnotices (ns : List Notice) (x : State) : CauseStands x (ns.foldl (fun x n => noticeAbandoned n x) x) := by
    induction ns generalizing x with
    | nil => exact .refl x
    | cons n ns ih => exact (ih _).after (by cases n <;> exact ⟨rfl, rfl⟩)
  unfold abandonReply
  split
  · exact (hnotices _ _).after (.of_eq (by simp))
  · exact .refl s
  · exact .refl s

theorem loadCompleted_cause (v : Vector Level 4) (a b : Level) (s : State) : CauseStands s (loadCompleted v a b s) := by
  rw [loadCompleted_eq]
  constructor <;> simp [batteryLoaded, loadBegun]

theorem CauseStands.of_next {s t u : State} (h : (.next u : Host.Outcome State Fault Refusal) = .next t)
    (k : CauseStands s u) : CauseStands s t := Host.Outcome.next.inj h ▸ k

theorem exec_notFrame_cutoff {c : Instr} {s t : State} (h : exec c s = .next t) (hcut : s.protection.state = .cutoff)
    (hf : frameOf c = none) (hp : c ≠ .powerOnReset) (hb : c ≠ .brownOutReset) :
    CauseStands s t ∨ ClearsBy c s t := by
  cases c
  case powerOnReset => exact absurd rfl hp
  case brownOutReset => exact absurd rfl hb
  case checkMismatchFrame k p check =>
    cases h
    rcases onLine_cutoff (P := fun _ => check = frameCheck k p ∧ k = 0x45 ∧ p = [6]) hcut
      (takeFrame_cutoff (f := fun x => if check = frameCheck k p then dispatch k p x else x) p fun x _ => by
        split
        · next hgood => exact (dispatch_cutoff k p x).imp_right fun hq => ⟨⟨hgood, hq.1⟩, hq.2⟩
        · exact .inl (.refl x)) with hstands | ⟨u, ⟨rfl, rfl, rfl⟩, hclears, hu, hrun, -⟩
    · exact .inl hstands
    · exact .inr ⟨.inr (.inl rfl), u, hclears, hu, hrun⟩
  case framingError =>
    cases h
    exact (onLine_cutoff (f := putReceiver receiverHunting) (P := fun _ => False) hcut fun x _ => .inl (.of_eq rfl)).imp_right fun ⟨_, hP, _⟩ => hP.elim
  case lenDiscard len =>
    refine exec_byte_cutoff (.inr rfl) h rfl (fun x => ?_) hcut
    split
    · exact .inl (.of_eq rfl)
    · exact takeByte_cutoff len x
  case byteReceived b => exact exec_byte_cutoff (.inl rfl) h rfl (takeByte_cutoff b) hcut
  case gapTimeout => exact .inl (.of_next h (.of_eq (by simp)))
  case replyStart => exact .inl (.of_next h (.of_eq (by simp)))
  case replyAbandon => exact .inl (.of_next h (abandonReply_cause s))
  case replyComplete => exact .inl (.of_next h (completeReply_cause s))
  case holdTimerExpiry => exact .inl (.of_next h (.ite (.of_eq (by simp)) (.refl s)))
  case servoPeriodStart => exact .inl (.of_next h (.ite (.of_eq (by simp)) (.refl s)))
  case brakingTimerExpiry => exact .inl (.of_next h (.ite (.of_eq (by simp)) (.refl s)))
  case rampTick => exact .inl (.of_next h (.ite (.of_eq (by simp)) (.refl s)))
  case stallTimerExpiry => exact .inl (.of_next h (.ite (.of_eq (by simp)) (.refl s)))
  case noMotionTimerExpiry => exact .inl (.of_next h (.ite (.of_eq (by simp)) (.refl s)))
  case clutchTimerExpiry => exact .inl (.of_next h (.ite (.of_eq (by simp)) (.refl s)))
  case encoderCount a b => exact .inl (.of_next h (.ite (.of_eq (by simp)) (.refl s)))
  case cueTick => exact .inl (.of_next h (.ite (.of_eq (by simp)) (.refl s)))
  case conversionEnd x => exact .inl (.of_next h (conversionEnded_cutoff hcut x))
  case budgetTimerExpiry => exact .inl (.of_next h (.ite (.of_eq (by simp)) (.refl s)))
  case sampleTick => exact .inl (.of_next h (.ite (.of_eq (by simp)) (.refl s)))
  case loadComplete => exact .inl (.of_next h (.ite (loadCompleted_cause _ _ _ s) (.refl s)))
  case eraseEnd => exact .inl (.of_next h (.of_eq (by simp)))
  case storeEnd v => exact .inl (.of_next h (.of_eq (by simp)))
  case leaveReset => exact .inl (.of_next h (.of_eq rfl))
  all_goals cases hf

theorem exec_cutoff {c : Instr} {s t : State} (h : exec c s = .next t) (hcut : s.protection.state = .cutoff)
    (hp : c ≠ .powerOnReset) (hb : c ≠ .brownOutReset) : CauseStands s t ∨ ClearsBy c s t := by
  cases hf : frameOf c with
  | some f => exact exec_frame_cutoff hf h hcut
  | none => exact exec_notFrame_cutoff h hcut hf hp hb

/-! ## What protection keeps (R144, R150) -/

/-- The run state is INIT exactly while the load state is LOADING. -/
def Loading (s : State) : Prop := s.link.run = .init ↔ s.store.loaded = false

theorem Part.loading {c : Instr} {s t : State} (h : Part c s t) (hs : Loading s) : Loading t := by
  have hstand (hrun : t.link.run = .init ↔ s.link.run = .init) (hloaded : t.store.loaded = s.store.loaded) : Loading t := by
    rw [Loading, hrun, hloaded]
    exact hs
  cases h with
  | aside h => exact hstand h.run h.loaded
  | steering | drive | winch | lights | budget => exact hstand (by simp) (by simp)

theorem Move.loading {c : Instr} {s t : State} (h : Move c s t) (hs : Loading s) : Loading t :=
  h.keeps (fun _ _ hp => hp.loading) (fun v a b x hheld _ _ =>
    have hunits := loadCompleted_unitsRun hheld v a b
    iff_of_false hunits.run (by rw [hunits.loaded]; exact Bool.noConfusion)) hs

/-- A cause is recorded exactly in CUTOFF, and from load complete on the cap is that of the state and the record. -/
structure ProtectionOf (s : State) : Prop where
  cause : s.protection.state = .cutoff ↔ s.protection.cause ≠ .none
  cap : s.store.loaded = true → s.protection.cap = capFor s.tables.protect s.protection.state

theorem ProtectionOf.of_same {s t : State} (h : ProtectionOf s) (hprotection : t.protection = s.protection)
    (hloaded : t.store.loaded = s.store.loaded) (hrecord : t.tables.protect = s.tables.protect) : ProtectionOf t := by
  constructor
  · rw [hprotection]; exact h.cause
  · rw [hprotection, hloaded, hrecord]; exact h.cap

theorem judge_cause {r : ProtectRecord} {c : Counters} {st st' : ProtState} {cause : ProtCause}
    (h : judge r c st = some (st', cause)) : st' = .cutoff ↔ cause ≠ .none := by
  unfold judge at h
  split at h
  · cases h
  all_goals
    split_ifs at h
    all_goals
      obtain ⟨rfl, rfl⟩ := Prod.mk.inj (Option.some.inj h)
      decide

theorem evaluatePass_protectionOf {s : State} (h : ProtectionOf s) (l : Vector ScanEntry 8) : ProtectionOf (evaluatePass l s) := by
  rcases evaluatePass_cases l s with ⟨p, heq, hstate, hcause, hcap⟩ | ⟨p, c, heq, hjudge, hcap⟩
  · rw [heq]
    exact ⟨by dsimp only; rw [hstate, hcause]; exact h.cause, by dsimp only; rw [hstate, hcap]; exact h.cap⟩
  · rw [heq]
    refine ⟨?_, fun _ => ?_⟩
    · rw [deliverProtection_protection]
      exact judge_cause hjudge
    · rw [deliverProtection_protection, deliverProtection_tables]
      exact hcap

theorem conversionEnded_protectionOf {s : State} (h : ProtectionOf s) (x : SenseInputs) : ProtectionOf (conversionEnded x s) := by
  have hhanded (q : Quantity) (v : Int) (u : State) (hu : ProtectionOf u) : ProtectionOf (handValue q v u) :=
    hu.of_same (by simp) (by simp) (by simp)
  simp only [conversionEnded, completeSlot]
  repeat' split
  · exact h
  · exact h
  · exact hhanded _ _ _ (h.of_same rfl rfl rfl)
  · exact evaluatePass_protectionOf (hhanded _ _ (putScanner _ _ _ s) (h.of_same rfl rfl rfl)) _
  · exact h.of_same rfl rfl rfl

theorem tablesWith_protect {t u : Tables} {id : TableId} {i : Nat} {e : List Byte} (h : tablesWith t id i e = some u)
    (hid : id ≠ .protect) : u.protect = t.protect := by
  cases id
  case protect => exact absurd rfl hid
  all_goals
    simp only [tablesWith, Option.map_eq_some_iff] at h
    obtain ⟨_, -, rfl⟩ := h
    rfl

theorem entryWritten_protection (id : TableId) (i : Nat) (t : Tables) (s : State) :
    (entryWritten id i t s).protection =
      if id = .protect then { s.protection with cap := capFor t.protect s.protection.state } else s.protection := by
  unfold entryWritten ownerWritten
  cases id
  case protect => rfl
  case cue | input => dsimp only; split <;> simp
  all_goals simp

theorem entryWritten_protectionOf {s : State} (h : ProtectionOf s) {id : TableId} {i : Nat} {e : List Byte} {t : Tables}
    (ht : tablesWith s.tables id i e = some t) : ProtectionOf (entryWritten id i t s) := by
  have hprotection := entryWritten_protection id i t s
  have hstore : (entryWritten id i t s).store = s.store := by simp [entryWritten]
  by_cases hid : id = .protect
  · rw [if_pos hid] at hprotection
    constructor
    · rw [hprotection]; exact h.cause
    · rw [hprotection, entryWritten_tables]; exact fun _ => rfl
  · rw [if_neg hid] at hprotection
    exact h.of_same hprotection (by rw [hstore]) (by rw [entryWritten_tables, tablesWith_protect ht hid])

theorem defaultsRestored_protection (s : State) : (defaultsRestored s).protection =
    { s.protection with cap := capFor defaultTables.protect s.protection.state } := by
  have hlines : (defaultsRestored s).protection = (ownersRestored s).protection := lineRewritten_fold_protection _ _ _
  rw [hlines, ownersRestored, show ∀ x : State, (recomputeCap x).protection =
    { x.protection with cap := capFor x.tables.protect x.protection.state } from fun _ => rfl]
  simp

theorem loadCompleted_protection (v : Vector Level 4) (a b : Level) (s : State) : (loadCompleted v a b s).protection =
    { s.protection with cap := capFor (loadTables s).tables.protect s.protection.state } := by
  rw [loadCompleted_eq]
  simp [batteryLoaded, loadBegun]

theorem Move.protectionOf {c : Instr} {s t : State} (h : Move c s t) (hs : ProtectionOf s) : ProtectionOf t := by
  cases h
  case store x hloaded => exact hs.of_same rfl hloaded rfl
  case entry ht => exact entryWritten_protectionOf hs ht
  case restore =>
    constructor
    · rw [defaultsRestored_protection]; exact hs.cause
    · rw [defaultsRestored_protection, defaultsRestored_tables]; exact fun _ => rfl
  case clearProtect =>
    constructor
    · rw [protectCleared, deliverProtection_protection]; exact iff_of_false nofun (fun hne => hne rfl)
    · rw [protectCleared, deliverProtection_protection, deliverProtection_tables]; exact fun _ => rfl
  case conversion => exact conversionEnded_protectionOf hs _
  case load =>
    constructor
    · rw [loadCompleted_protection]; exact hs.cause
    · rw [loadCompleted_protection, loadCompleted_tables]; exact fun _ => rfl
  all_goals exact hs.of_same (by simp) (by simp) (by simp)

/-- A reset clears state and cause together, and leaves the part LOADING. -/
theorem protectionOf_resetLeaving {s : State} (h : ProtectionOf s) (k : ResetKind) (d : Bool) :
    ProtectionOf (resetLeaving k d s) where
  cause := by
    cases k
    · exact iff_of_false nofun (fun hne => hne rfl)
    · exact iff_of_false nofun (fun hne => hne rfl)
    · exact h.cause
  cap := nofun

/-- Settles O47: the commands that touch the protection state in CUTOFF, and the step lemma. -/
theorem leavingCutoff : Obligations.LeavingCutoff := by
  refine ⟨fun c s t h hcut => ?_, fun s t hs h => ?_⟩
  · by_cases hp : c = .powerOnReset
    · exact .inr (.inr (.inl hp))
    by_cases hb : c = .brownOutReset
    · exact .inr (.inr (.inr hb))
    rcases exec_cutoff h hcut hp hb with ⟨hstate, hcause⟩ | ⟨hends, u, hclears, hu, hrun⟩
    · exact .inl ⟨hstate.trans hcut, hcause⟩
    · obtain ⟨hprimed, hunder, hover, hneutral, hhaul, hpay⟩ := (clearProtectAllowed_iff u).1 hclears.allowed
      have hprotection := hclears.protection
      rw [hu] at hprimed hunder hover hneutral hhaul hpay hprotection
      exact .inr (.inl ⟨hends, fun hinit => hclears.run (hrun.trans hinit), hclears.reply, hprimed, hunder, hover, hneutral,
        hhaul, hpay, hprotection, hclears.flag⟩)
  · have hboth := step_keeps (P := fun x => Loading x ∧ ProtectionOf x) (fun _ _ hx => ⟨hx.1, { hx.2 with }⟩)
      (fun c x y hm hx => ⟨hm.loading hx.1, hm.protectionOf hx.2⟩)
      (fun k d x hx => ⟨iff_of_true rfl rfl, protectionOf_resetLeaving hx.2 k d⟩) ⟨hs.loading, hs.cause, hs.cap⟩ h
    exact ⟨hboth.1, hboth.2.cause, hboth.2.cap⟩

end Sys2Proof.Machine

/-! # Sitting 5: the link, the store and the reported set stand through the work of the other blocks (R176) -/

namespace Sys2Proof.Machine

/-! ## The reported set against the flags (R174, R176) -/

/-- The reported set stays or stays away, and still holds only flags that are set if it did before. -/
structure ReportStands (x y : Inputs) : Prop where
  none : y.reported = none ↔ x.reported = none
  subset : (∀ r, x.reported = some r → ∀ i : Fin 15, r[i] = true → x.flags[i] = true) →
    ∀ r, y.reported = some r → ∀ i : Fin 15, r[i] = true → y.flags[i] = true

theorem ReportStands.refl (x : Inputs) : ReportStands x x := ⟨.rfl, id⟩

theorem ReportStands.after {x y z : Inputs} (k : ReportStands y z) (h : ReportStands x y) : ReportStands x z :=
  ⟨k.none.trans h.none, fun hx => k.subset (h.subset hx)⟩

theorem ReportStands.of_eq {x y : Inputs} (h : y = x) : ReportStands x y := h ▸ .refl x

/-- A flag that is set anew leaves the reported set (R176). -/
theorem raiseFlag_report (f : Flag) (x : Inputs) : ReportStands x (raiseFlag f x) := by
  refine ⟨by simp [raiseFlag], fun hx r hr i hi => ?_⟩
  obtain ⟨r₀, hr₀, rfl⟩ := Option.map_eq_some_iff.1 hr
  refine raiseFlag_keeps f x i (hx r₀ hr₀ i ?_)
  rw [Fin.getElem_fin, Vector.getElem_set] at hi
  split at hi
  · cases hi
  · exact hi

theorem setFlags_report (fs : List Flag) (s : State) : ReportStands s.inputs (setFlags fs s).inputs := by
  suffices ∀ x : Inputs, ReportStands x (fs.foldl (fun x f => raiseFlag f x) x) from this s.inputs
  induction fs with
  | nil => exact .refl
  | cons f fs ih => exact fun x => (ih _).after (raiseFlag_report f x)

theorem edgeAtEvent_report (n : Fin 4) (active : Bool) (x : Inputs) : ReportStands x (edgeAtEvent n active x) := by
  unfold edgeAtEvent
  split
  · split
    · exact raiseFlag_report _ x
    · exact .refl x
  · exact ⟨.rfl, id⟩

/-! ## What leaves the link, the store and the reported set alone -/

/-- The link and the store have not changed, and the reported set stands. -/
structure Untouched (s t : State) : Prop where
  link : t.link = s.link
  store : t.store = s.store
  report : ReportStands s.inputs t.inputs

theorem Untouched.refl (s : State) : Untouched s s := ⟨rfl, rfl, .refl _⟩

theorem Untouched.after {s t u : State} (k : Untouched t u) (h : Untouched s t) : Untouched s u :=
  ⟨k.link.trans h.link, k.store.trans h.store, k.report.after h.report⟩

theorem Untouched.of_eq {s t : State} (hlink : t.link = s.link) (hstore : t.store = s.store) (hinputs : t.inputs = s.inputs) :
    Untouched s t := ⟨hlink, hstore, .of_eq hinputs⟩

theorem Untouched.ite {p : Prop} [Decidable p] {s t : State} (h : Untouched s t) : Untouched s (if p then t else s) := by
  split
  · exact h
  · exact .refl s

theorem setFlag_untouched (f : Flag) (s : State) : Untouched s (setFlag f s) := ⟨rfl, rfl, raiseFlag_report f _⟩

theorem lightEvent_untouched (m : LightMsg) (s : State) : Untouched s (lightEvent m s) :=
  .of_eq (by simp) (by simp) (by simp)

theorem driveCompute_untouched (s : State) : Untouched s (driveCompute s) := .of_eq (by simp) (by simp) (by simp)

theorem onWinchEvent_untouched (f : WinchContext → Winch → WinchStep) (s : State) : Untouched s (onWinchEvent f s) :=
  ⟨by simp, by simp, by rw [onWinchEvent_inputs_eq]; exact setFlags_report _ s⟩

theorem lineEvent_untouched (n : Fin 4) (active : Bool) (s : State) : Untouched s (lineEvent n active s) :=
  ⟨by simp, by simp, by rw [lineEvent_inputs]; exact edgeAtEvent_report n active _⟩

theorem lineRewritten_untouched (l : Level) (n : Fin 4) (s : State) : Untouched s (lineRewritten l n s) := by
  unfold lineRewritten
  split
  · exact .refl s
  · exact lineEvent_untouched n _ s

theorem takeSample_untouched (v : Level) (n : Fin 4) (s : State) : Untouched s (takeSample v n s) := by
  unfold takeSample
  dsimp only
  have hline : Untouched s (putLine n (sampleLine s.tables.input[n].debounce v s.inputs.lines[n]).1 s) :=
    ⟨rfl, rfl, .rfl, id⟩
  split
  · exact (lineEvent_untouched n _ _).after hline
  · exact hline

theorem takeSamples_untouched (v : Vector Level 4) (s : State) : Untouched s (takeSamples v s) := by
  suffices ∀ (ns : List (Fin 4)) (x : State), Untouched x (ns.foldl (fun x n => takeSample v[n] n x) x) from this _ s
  intro ns
  induction ns with
  | nil => exact .refl
  | cons n ns ih => exact fun x => (ih _).after (takeSample_untouched _ n x)

theorem deliverProtection_untouched (p : Protection) (s : State) : Untouched s (deliverProtection p s) :=
  (lightEvent_untouched _ _).after ((onWinchEvent_untouched winchProtChange _).after ((driveCompute_untouched _).after
    ((setFlag_untouched .protChanged { s with protection := p }).after (.of_eq rfl rfl rfl))))

theorem evaluatePass_untouched (l : Vector ScanEntry 8) (s : State) : Untouched s (evaluatePass l s) := by
  rcases evaluatePass_cases l s with ⟨p, heq, -⟩ | ⟨p, c, heq, -⟩
  · rw [heq]
    exact .of_eq rfl rfl rfl
  · rw [heq]
    exact deliverProtection_untouched p s

theorem handValue_untouched (q : Quantity) (v : Int) (s : State) : Untouched s (handValue q v s) := by
  unfold handValue
  split
  · exact onWinchEvent_untouched _ s
  · exact onWinchEvent_untouched _ s
  · exact .refl s

theorem conversionEnded_untouched (x : SenseInputs) (s : State) : Untouched s (conversionEnded x s) := by
  simp only [conversionEnded, completeSlot]
  repeat' split
  · exact .refl s
  · exact .refl s
  · exact (handValue_untouched _ _ _).after (.of_eq rfl rfl rfl)
  · exact (evaluatePass_untouched _ _).after ((handValue_untouched _ _ _).after (.of_eq rfl rfl rfl))
  · exact .of_eq rfl rfl rfl

theorem entryWritten_untouched (id : TableId) (i : Nat) (t : Tables) (s : State) : Untouched s (entryWritten id i t s) := by
  have htables : Untouched s (putTables t s) := .of_eq rfl rfl rfl
  unfold entryWritten ownerWritten
  cases id
  case winch => exact (onWinchEvent_untouched _ _).after htables
  case input =>
    dsimp only
    split
    · exact (lineRewritten_untouched _ _ _).after htables
    · exact htables
  case cue =>
    dsimp only
    split
    · exact .of_eq (by simp) (by simp) (by simp)
    · exact htables
  all_goals exact .of_eq (by simp) (by simp) (by simp)

theorem defaultsRestored_untouched (s : State) : Untouched s (defaultsRestored s) := by
  have howners : Untouched s (ownersRestored s) := by
    refine (Untouched.of_eq (by simp [ownersRestored]) (by simp [ownersRestored]) ?_).after ((onWinchEvent_untouched winchWritten
      (driveCompute (putSteering (steerFile defaultTables.steer s.steering) (putTables defaultTables s)))).after
        (.of_eq (by simp) (by simp) (by simp)))
    simp only [ownersRestored, recomputeCap, wakeScanner_inputs, putLights_inputs]
    rfl
  exact (lineRewritten_fold_keeps .refl .after s.tables.input (fun n x => lineRewritten_untouched _ n x)
    (List.finRange 4) (ownersRestored s)).after howners

end Sys2Proof.Machine

/-! # Sitting 5: what the link, the receiver, the notices and the store keep (O57: R3 to R5, R9 to R11, R16, R18, R176, R177, R182 to R187) -/

namespace Sys2Proof.Machine

/-! ## The run state with its timer, and the store -/

/-- The hold timer and the recovery count are those of the run state, and INIT is LOADING; and where `B` holds, a
store is in flight only in SETUP, over an invalid image. -/
structure RunStore (B : Prop) (s : State) : Prop where
  loading : Loading s
  hold : s.link.hold.running = true ↔ s.link.run = .run ∨ s.link.run = .failsafe
  recovery : s.link.recovery ≠ 0 → s.link.run = .failsafe
  inSetup : B → storeInFlight s.store = true → s.link.run = .setup
  invalid : B → storeInFlight s.store = true → loadImage s.store.image = none

theorem RunStore.of_eq {B : Prop} {s t : State} (h : RunStore B s) (hrun : t.link.run = s.link.run)
    (hhold : t.link.hold = s.link.hold) (hrecovery : t.link.recovery = s.link.recovery)
    (hstore : t.store = { s.store with pendingSoftReset := t.store.pendingSoftReset }) : RunStore B t := by
  constructor
  · rw [Loading, hrun, hstore]; exact h.loading
  · rw [hhold, hrun]; exact h.hold
  · rw [hrecovery, hrun]; exact h.recovery
  · rw [hstore, hrun]; exact h.inSetup
  · rw [hstore]; exact h.invalid

theorem RunStore.untouched {B : Prop} {s t : State} (h : RunStore B s) (k : Untouched s t) : RunStore B t :=
  h.of_eq (by rw [k.link]) (by rw [k.link]) (by rw [k.link]) (by rw [k.store])

/-- Out of SETUP no store is in flight, so any run state may follow with its timer and count. -/
theorem RunStore.entered {B : Prop} {s t : State} (h : RunStore B s) (hsetup : storeInFlight s.store = true → s.link.run ≠ .setup)
    (hinit : t.link.run ≠ .init) (hloaded : s.link.run ≠ .init)
    (hhold : t.link.hold.running = true ↔ t.link.run = .run ∨ t.link.run = .failsafe)
    (hrecovery : t.link.recovery ≠ 0 → t.link.run = .failsafe) (hstore : t.store = s.store) : RunStore B t := by
  have hrest (hB : B) : storeInFlight t.store ≠ true := by
    rw [hstore]
    exact fun hflight => hsetup hflight (h.inSetup hB hflight)
  refine ⟨iff_of_false hinit ?_, hhold, hrecovery, fun hB hf => absurd hf (hrest hB), fun hB hf => absurd hf (hrest hB)⟩
  rw [hstore]
  exact mt h.loading.2 hloaded

/-! ## CHANNELS and the hold timer (R8, R16 to R18) -/

theorem handToMapper_untouched (p : List Byte) (s : State) : Untouched s (handToMapper p s) :=
  .of_eq (by simp) (by simp) (by simp [handToMapper])

theorem enterFailsafe_runStore {B : Prop} {s : State} (h : RunStore B s) (hrun : s.link.run = .run) :
    RunStore B (enterFailsafe s) := by
  refine h.entered (fun _ => by rw [hrun]; nofun) ?_ (by rw [hrun]; nofun) ?_ ?_ (by simp [enterFailsafe])
  all_goals rw [enterFailsafe_link]
  · exact nofun
  · exact iff_of_true rfl (.inr rfl)
  · exact fun _ => rfl

theorem channelsHandled_runStore {B : Prop} {s : State} (h : RunStore B s) (p : List Byte) : RunStore B (channelsHandled p s) := by
  have hupdate (x : State) (hx : RunStore B x) : RunStore B (handToMapper p x) := hx.untouched (handToMapper_untouched p x)
  unfold channelsHandled
  split
  · exact h
  · next hwait =>
    have hu := hupdate s h
    have hrun : (handToMapper p s).link.run = .wait := by simpa using hwait
    unfold neutralCheck
    split_ifs
    · exact hu
    · refine hu.entered (fun _ => by rw [hrun]; nofun) ?_ (by rw [hrun]; nofun) ?_ ?_ (by simp)
      all_goals rw [deliverRun_link]
      · exact nofun
      · exact iff_of_true rfl (.inl rfl)
      · exact fun hne => absurd (hu.recovery hne) (by rw [hrun]; nofun)
    · exact hu.untouched (setFlag_untouched _ _)
  · next hrun =>
    have hrestarted : RunStore B (restartHold s) := { h with hold := iff_of_true rfl (.inl hrun) }
    split
    · exact enterFailsafe_runStore hrestarted hrun
    · exact hupdate _ hrestarted
  · next hrun =>
    have hrestarted : RunStore B (restartHold s) := { h with hold := iff_of_true rfl (.inr hrun) }
    have hrestartedRun : (restartHold s).link.run = .failsafe := hrun
    split
    · exact { hrestarted with recovery := fun hne => absurd rfl hne }
    · unfold countRecovery
      split
      · refine hrestarted.entered (fun _ => by rw [hrestartedRun]; nofun) ?_ (by rw [hrestartedRun]; nofun) ?_ ?_ (by simp)
        all_goals rw [deliverRun_link]
        · exact nofun
        · exact iff_of_true rfl (.inl rfl)
        · exact fun hne => absurd rfl hne
      · exact { hrestarted with recovery := fun _ => hrun }
  · exact hupdate s h

theorem holdExpired_runStore {B : Prop} {s : State} (h : RunStore B s) : RunStore B (holdExpired s) := by
  unfold holdExpired
  split
  · exact h
  · exact h
  · next hrun => exact enterFailsafe_runStore h hrun
  · next hrun => exact { h with hold := iff_of_true rfl (.inr hrun), recovery := fun hne => absurd rfl hne }
  · exact h

/-! ## What a dispatched frame leaves -/

/-- What a frame taken from `u` leaves in `t`: the receiver and the mark stand, the run state and the store stay sound,
and so do the notices where no reply was in the way. -/
structure Dispatched (u t : State) : Prop where
  receiver : t.link.receiver = u.link.receiver
  discarding : t.link.discarding = u.link.discarding
  runStore : ∀ {B : Prop}, RunStore B u → RunStore B t
  notices : u.link.reply = .empty → NoticesSound u → NoticesSound t

theorem not_carries_empty (n : Notice) : ¬ carries n .empty := fun ⟨_, h, _⟩ => nomatch h

/-- With no reply, nothing is pending and nothing is reported. -/
theorem NoticesSound.idle {s : State} (h : NoticesSound s) (hr : s.link.reply = .empty) :
    s.store.pendingSoftReset ≠ true ∧ s.inputs.reported = none := by
  have hnone (n : Notice) : ¬ carries n s.link.reply := by rw [hr]; exact not_carries_empty n
  exact ⟨fun hp => hnone _ (h.softReset.1 hp), by_contra fun hp => hnone _ (h.reported.1 hp)⟩

theorem NoticesSound.of_idle {s : State} (hpending : s.store.pendingSoftReset ≠ true) (hreported : s.inputs.reported = none)
    (hr : ∀ n, ¬ carries n s.link.reply) : NoticesSound s :=
  ⟨iff_of_false hpending (hr _), iff_of_false (fun hne => hne hreported) (hr _), fun r h => by rw [hreported] at h; cases h⟩

/-- A reply without notices. -/
theorem not_carries_silent (n : Notice) (k : Byte) (p : List Byte) (a : Byte) :
    ¬ carries n (.pending { kind := k, payload := p, answered := a, notices := [] }) := by
  rintro ⟨_, ⟨⟩, h⟩
  cases h

/-- An operation that leaves link and store to an answer without notices. -/
theorem Dispatched.answered {u x : State} (h : Untouched u x) (k : Byte) (r : Result) (e : List Byte) :
    Dispatched u (answerWith k r e [] x) where
  receiver := (congrArg Link.receiver h.link : x.link.receiver = u.link.receiver)
  discarding := (congrArg Link.discarding h.link : x.link.discarding = u.link.discarding)
  runStore hu := (hu.untouched h).of_eq rfl rfl rfl rfl
  notices hr hu := by
    obtain ⟨hpending, hreported⟩ := hu.idle hr
    exact .of_idle (by rw [← h.store] at hpending; exact hpending) (h.report.none.2 hreported) fun n => not_carries_silent n _ _ _

theorem enterFailsafe_report (s : State) : ReportStands s.inputs (enterFailsafe s).inputs := by
  have hraised : (enterFailsafe s).inputs = raiseFlag .failsafeEntered s.inputs := by simp [enterFailsafe, applyFailsafe]
  rw [hraised]
  exact raiseFlag_report _ _

theorem neutralCheck_report (p : List Byte) (s : State) : ReportStands s.inputs (neutralCheck p s).inputs := by
  unfold neutralCheck
  split
  · exact .refl _
  split
  · rw [deliverRun_inputs]
    exact .refl _
  · exact raiseFlag_report _ _

theorem countRecovery_report (s : State) : ReportStands s.inputs (countRecovery s).inputs := by
  unfold countRecovery
  split
  · rw [deliverRun_inputs]
    exact .refl _
  · exact .refl _

theorem channelsHandled_report (p : List Byte) (s : State) : ReportStands s.inputs (channelsHandled p s).inputs := by
  unfold channelsHandled
  split
  · exact .refl _
  · exact (neutralCheck_report p _).after (handToMapper_untouched p s).report
  · split
    · exact enterFailsafe_report (restartHold s)
    · exact (handToMapper_untouched p (restartHold s)).report
  · split
    · exact .refl _
    · exact countRecovery_report (restartHold s)
  · exact (handToMapper_untouched p s).report

theorem channelsFrame_dispatched (p : List Byte) (u : State) : Dispatched u (channelsFrame p u) := by
  unfold channelsFrame
  by_cases hlen : p.length = 16
  swap
  · rw [if_pos hlen]
    exact ⟨rfl, rfl, id, fun _ => id⟩
  rw [if_neg (not_not.2 hlen)]
  split
  · exact ⟨rfl, rfl, id, fun _ => id⟩
  have hdiscarding : (decideTelemetry p (advanceTelemetry (channelsHandled p u))).link.discarding = u.link.discarding := by
    rw [decideTelemetry_link, advanceTelemetry_link, channelsHandled_link]
  have hreply : (advanceTelemetry (channelsHandled p u)).link.reply = u.link.reply := by
    rw [advanceTelemetry_link, channelsHandled_link]
  refine ⟨by simp, hdiscarding, fun hu => (channelsHandled_runStore hu p).of_eq ?_ ?_ ?_ (by simp), fun hr hu => ?_⟩
  · rw [decideTelemetry_link, advanceTelemetry_link]
  · rw [decideTelemetry_link, advanceTelemetry_link]
  · rw [decideTelemetry_link, advanceTelemetry_link]
  · obtain ⟨hpending, hreported⟩ := hu.idle hr
    refine .of_idle (by simpa using hpending) ?_ fun n => ?_
    · rw [decideTelemetry_inputs, advanceTelemetry_inputs]
      exact (channelsHandled_report p u).none.2 hreported
    · rw [decideTelemetry_link, hreply, hr]
      dsimp only
      split
      · exact not_carries_silent n _ _ _
      · exact not_carries_empty n

theorem queryFrame_dispatched (p : List Byte) (u : State) : Dispatched u (queryFrame p u) := by
  have hquiet (r : Result) (e : List Byte) := Dispatched.answered (.refl u) Config.kindQuery r e
  unfold queryFrame
  split_ifs
  · exact hquiet _ _
  · exact hquiet _ _
  split
  · exact hquiet _ _
  next q _ =>
  cases q
  case status =>
    refine ⟨rfl, rfl, fun hu => hu.of_eq rfl rfl rfl rfl, fun hr hu => ?_⟩
    obtain ⟨hpending, -⟩ := hu.idle hr
    refine ⟨iff_of_false hpending ?_, iff_of_true nofun ⟨_, rfl, List.mem_singleton.2 rfl⟩, ?_⟩
    · rintro ⟨_, ⟨⟩, h⟩
      cases h with | tail _ h => cases h
    · rintro r ⟨⟩ i hi
      exact hi
  all_goals exact hquiet _ _

theorem evaluateEnterSetup_dispatched {u : State} (h : u.link.run = .wait ∨ u.link.run = .run) :
    Dispatched u (evaluateEnterSetup u) := by
  unfold evaluateEnterSetup
  split
  · have hlink : (answerAction .done (onWinchEvent winchEnterSetup (deliverRun .setup (stopHold u)))).link =
        { u.link with run := .setup, hold := { u.link.hold with running := false }
                      reply := .pending { kind := 0x52, payload := [0x45, 0], answered := 0x45, notices := [] } } := by
      rw [answerAction, answer, answerWith, putReply, onWinchEvent_link, deliverRun_link]
      rfl
    refine ⟨by rw [hlink], by rw [hlink], fun hu => ?_, fun hr hu => ?_⟩
    · refine hu.entered (fun _ => ?_) ?_ ?_ ?_ ?_ ?_
      · rcases h with h | h <;> rw [h] <;> exact nofun
      · rw [hlink]; exact nofun
      · rcases h with h | h <;> rw [h] <;> exact nofun
      · rw [hlink]; exact iff_of_false nofun nofun
      · rw [hlink]
        refine fun hne => absurd (hu.recovery hne) ?_
        rcases h with h | h <;> rw [h] <;> exact nofun
      · simp
    · obtain ⟨hpending, hreported⟩ := hu.idle hr
      refine .of_idle (by simpa using hpending) ?_ fun n => by rw [hlink]; exact not_carries_silent n _ _ _
      rw [answerAction_inputs]
      exact (onWinchEvent_untouched _ _).report.none.2 (by simpa using hreported)
  · exact .answered (onWinchEvent_untouched _ u) _ _ _

theorem performAction_dispatched (a : Action) {u : State} (h : u.link.run ≠ .init) : Dispatched u (performAction a u) := by
  have hquiet (r : Result) : Dispatched u (answerAction r u) := .answered (.refl u) _ _ _
  cases a with
  | enterSetup =>
    simp only [performAction, performEnterSetup]
    split
    · exact hquiet _
    · next hr => exact evaluateEnterSetup_dispatched (.inl hr)
    · next hr => exact evaluateEnterSetup_dispatched (.inr hr)
    · exact hquiet _
    · exact hquiet _
  | leaveSetup =>
    simp only [performAction, performLeaveSetup]
    split_ifs with hsetup hflight
    · exact hquiet _
    · exact hquiet _
    · exact hquiet _
    · have hrun : u.link.run = .setup := not_not.1 hsetup
      refine ⟨by simp, by simp, fun hu => ?_, fun hr hu => ?_⟩
      · refine hu.entered (fun hf => absurd hf hflight) (by simp) h ?_ ?_ (by simp)
        · simpa [hrun] using hu.hold
        · intro hne
          have := hu.recovery (by simpa using hne)
          rw [hrun] at this
          cases this
      · obtain ⟨hpending, hreported⟩ := hu.idle hr
        exact .of_idle (by simpa using hpending) (by simpa using hreported) fun n => not_carries_silent n _ _ _
  | store =>
    simp only [performAction, performStore]
    split_ifs with hsetup
    · exact hquiet _
    · exact hquiet _
    · refine ⟨rfl, rfl, fun hu => ⟨hu.loading, hu.hold, hu.recovery, fun _ _ => not_not.1 hsetup, fun _ _ => rfl⟩,
        fun hr hu => ?_⟩
      obtain ⟨hpending, hreported⟩ := hu.idle hr
      exact .of_idle hpending hreported fun n => not_carries_silent n _ _ _
  | restoreDefaults =>
    simp only [performAction, performRestoreDefaults]
    split_ifs
    · exact hquiet _
    · exact hquiet _
    · exact .answered (defaultsRestored_untouched u) _ _ _
  | softReset =>
    simp only [performAction, performSoftReset]
    split_ifs
    · exact hquiet _
    · refine ⟨rfl, rfl, fun hu => hu.of_eq rfl rfl rfl rfl, fun hr hu => ?_⟩
      obtain ⟨-, hreported⟩ := hu.idle hr
      refine ⟨iff_of_true rfl ⟨_, rfl, List.mem_singleton.2 rfl⟩, iff_of_false (fun hne => hne hreported) ?_, fun r hr' => ?_⟩
      · rintro ⟨_, ⟨⟩, h⟩
        cases h with | tail _ h => cases h
      · exact nomatch hreported.symm.trans hr'
  | clearProtect =>
    simp only [performAction, performClearProtect]
    split_ifs
    · exact hquiet _
    · exact .answered (deliverProtection_untouched _ u) _ _ _
    · exact hquiet _
  | winchHome =>
    simp only [performAction, performWinchHome]
    split_ifs
    · exact .answered (onWinchEvent_untouched _ u) _ _ _
    · exact hquiet _
  | winchClear =>
    simp only [performAction, performWinchClear]
    split_ifs
    · exact .answered (onWinchEvent_untouched _ u) _ _ _
    · exact hquiet _

theorem dispatch_dispatched (k : Byte) (p : List Byte) (u : State) : Dispatched u (dispatch k p u) := by
  have hquiet (k : Byte) (r : Result) (e : List Byte) := Dispatched.answered (.refl u) k r e
  unfold dispatch
  split
  · exact channelsFrame_dispatched p u
  split
  · unfold setupWriteFrame
    split
    · exact hquiet _ _ _
    · exact .answered (entryWritten_untouched _ _ _ u) _ _ _
  split
  · unfold setupReadFrame
    repeat' split
    all_goals exact hquiet _ _ _
  split
  · exact queryFrame_dispatched p u
  split
  · unfold actionFrame
    split
    · exact hquiet _ _ _
    next hr =>
    split
    · exact hquiet _ _ _
    split
    · exact hquiet _ _ _
    · exact performAction_dispatched _ hr
  · exact hquiet _ _ _

end Sys2Proof.Machine

/-! # Sitting 5: the link's, the receiver's, the notices' and the store's invariants, command by command (O57) -/

namespace Sys2Proof.Machine

/-! ## The receiver byte by byte (Table 1-2) -/

theorem receiverHunting_sound : ReceiverSound receiverHunting :=
  ⟨Nat.zero_le _, nofun, (Or.elim · nofun nofun), nofun, nofun, (Or.elim · nofun (Or.elim · nofun nofun))⟩

theorem advanceReceiver_sound {r : Receiver} (h : ReceiverSound r) (b : Byte) : ReceiverSound (advanceReceiver r b) := by
  unfold advanceReceiver
  split
  · split
    · exact ⟨Nat.zero_le _, nofun, (Or.elim · nofun nofun), fun _ => rfl, nofun, (Or.elim · nofun (Or.elim · nofun nofun))⟩
    · exact receiverHunting_sound
  · next hphase =>
    refine ⟨h.length, nofun, (Or.elim · nofun nofun), nofun, fun _ => ?_, (Or.elim · nofun (Or.elim · nofun nofun))⟩
    dsimp only
    rw [h.crcKind hphase]
    rfl
  · next hphase =>
    split
    · exact receiverHunting_sound
    · next hlen =>
      refine ⟨Nat.le_of_not_lt hlen, fun hp => ?_, fun hp => ?_, fun hp => ?_, fun hp => ?_, fun _ => ?_⟩
      · dsimp only at hp ⊢
        split at hp
        · cases hp
        · next hne => exact Nat.pos_of_ne_zero hne
      · dsimp only at hp ⊢
        split at hp
        · next heq => exact heq.symm
        · rcases hp with hp | hp <;> cases hp
      · dsimp only at hp
        split at hp <;> cases hp
      · dsimp only at hp
        split at hp <;> cases hp
      · dsimp only
        rw [h.crcLen hphase, BitVec.ofNat_toNat, BitVec.setWidth_eq]
        rfl
  · next hphase =>
    have hmore := h.payload hphase
    refine ⟨h.length, fun hp => ?_, fun hp => ?_, fun hp => ?_, fun hp => ?_, fun _ => ?_⟩
    · dsimp only at hp ⊢
      split at hp
      · cases hp
      · next hlt => simpa using Nat.lt_of_not_le hlt
    · dsimp only at hp ⊢
      split at hp
      · next hle =>
        rw [List.length_append, List.length_singleton]
        omega
      · rcases hp with hp | hp <;> cases hp
    · dsimp only at hp
      split at hp <;> cases hp
    · dsimp only at hp
      split at hp <;> cases hp
    · dsimp only
      rw [h.crcPayload (.inl hphase), ← crc_snoc]
      rfl
  · next hphase =>
    exact ⟨h.length, nofun, fun _ => h.whole (.inl hphase), nofun, nofun, fun _ => h.crcPayload (.inr (.inl hphase))⟩
  · exact receiverHunting_sound

theorem advanceReceiver_gap (r : Receiver) (b : Byte) :
    (advanceReceiver r b).gapRunning = true ↔ (advanceReceiver r b).phase ≠ .hunt := by
  have hhunting : receiverHunting.gapRunning = true ↔ receiverHunting.phase ≠ .hunt := iff_of_false nofun (fun h => h rfl)
  unfold advanceReceiver
  split
  · split
    · exact iff_of_true rfl nofun
    · exact hhunting
  · exact iff_of_true rfl nofun
  · split
    · exact hhunting
    · refine iff_of_true rfl ?_
      dsimp only
      split <;> exact nofun
  · refine iff_of_true rfl ?_
    dsimp only
    split <;> exact nofun
  · exact iff_of_true rfl nofun
  · exact hhunting

/-! ## The line: the reply, the receiver, the mark of a frame to be discarded -/

/-- The receiver is sound; it hunts while a reply waits or is sent, and while a frame is to be discarded, with no reply
then; the gap timer runs outside HUNT. -/
structure LineSound (l : Link) : Prop where
  receiver : ReceiverSound l.receiver
  hunting : l.reply ≠ .empty → l.receiver = receiverHunting
  gap : l.receiver.gapRunning = true ↔ l.receiver.phase ≠ .hunt
  discarding : l.discarding = true → l.reply = .empty ∧ l.receiver = receiverHunting

/-- A hunting receiver, and no frame to be discarded. -/
theorem LineSound.of_hunting {l : Link} (hr : l.receiver = receiverHunting) (hd : l.discarding = true → l.reply = .empty) :
    LineSound l where
  receiver := by rw [hr]; exact receiverHunting_sound
  hunting _ := hr
  gap := by rw [hr]; exact iff_of_false nofun (fun h => h rfl)
  discarding h := ⟨hd h, hr⟩

theorem linkSound_iff {s : State} :
    LinkSound s ∧ ReceiverSound s.link.receiver ↔ RunStore False s ∧ LineSound s.link :=
  ⟨fun ⟨h, hr⟩ => ⟨⟨h.loading, h.hold, h.recovery, False.elim, False.elim⟩, hr, h.hunting, h.gap, h.discarding⟩,
    fun ⟨h, k⟩ => ⟨⟨h.loading, h.hold, h.recovery, k.hunting, k.gap, k.discarding⟩, k.receiver⟩⟩

/-! ## What a command keeps -/

/-- The three invariants: of the run state with the store, of the line, and of the notices. -/
structure LinkKept (s t : State) : Prop where
  runStore : ∀ {B : Prop}, RunStore B s → RunStore B t
  line : LineSound s.link → LineSound t.link
  notices : NoticesSound s → NoticesSound t

theorem LinkKept.refl (s : State) : LinkKept s s := ⟨id, id, id⟩

theorem LinkKept.after {s t u : State} (k : LinkKept t u) (h : LinkKept s t) : LinkKept s u :=
  ⟨k.runStore ∘ h.runStore, k.line ∘ h.line, k.notices ∘ h.notices⟩

theorem LinkKept.ite {p : Prop} [Decidable p] {s t : State} (h : p → LinkKept s t) : LinkKept s (if p then t else s) := by
  split
  · next hp => exact h hp
  · exact .refl s

/-- Where the run state and the store stay sound, the rest of the link stands, and the reported set does. -/
theorem LinkKept.of_runStore {s t : State} (h : ∀ {B : Prop}, RunStore B s → RunStore B t)
    (hlink : t.link = { s.link with run := t.link.run, hold := t.link.hold, recovery := t.link.recovery })
    (hpending : t.store.pendingSoftReset = s.store.pendingSoftReset) (hreport : ReportStands s.inputs t.inputs) : LinkKept s t where
  runStore := h
  line hs := by rw [hlink]; exact { hs with }
  notices hs := by
    have hreply : t.link.reply = s.link.reply := by rw [hlink]
    refine ⟨?_, ?_, hreport.subset hs.subset⟩
    · rw [hpending, hreply]; exact hs.softReset
    · rw [hreply]; exact (not_congr hreport.none).trans hs.reported

theorem Untouched.kept {s t : State} (h : Untouched s t) : LinkKept s t :=
  .of_runStore (fun hs => hs.untouched h) (by rw [h.link]) (by rw [h.store]) h.report

/-- A reset, from whatever state it is performed in, leaves all of it sound. -/
theorem linkKept_reset (k : ResetKind) (d : Bool) (s x : State) : LinkKept s (resetLeaving k d x) where
  runStore _ := ⟨iff_of_true rfl rfl, iff_of_false nofun (Or.elim · nofun nofun), fun h => absurd rfl h, fun _ => nofun, fun _ => nofun⟩
  line _ := .of_hunting rfl fun _ => rfl
  notices _ := .of_idle nofun rfl not_carries_empty

theorem putDiscarding_kept (s : State) : LinkKept s (putDiscarding false s) where
  runStore hs := hs.of_eq rfl rfl rfl rfl
  line hs := ⟨hs.receiver, hs.hunting, hs.gap, nofun⟩
  notices hs := ⟨hs.softReset, hs.reported, hs.subset⟩

theorem putReceiver_kept {r : Receiver} {s : State} (h : LineSound s.link → LineSound { s.link with receiver := r }) :
    LinkKept s (putReceiver r s) where
  runStore hs := hs.of_eq rfl rfl rfl rfl
  line := h
  notices hs := ⟨hs.softReset, hs.reported, hs.subset⟩

theorem hunting_kept (s : State) : LinkKept s (putReceiver receiverHunting s) :=
  putReceiver_kept fun hs => .of_hunting rfl fun hd => (hs.discarding hd).1

/-! ## The reply's progress (R9 to R11) -/

/-- The reply record without its notices, where none is a soft reset, and the reported set gone with the STATUS notice. -/
theorem linkKept_replied {s t : State} {r : ReplyContent} (hr : replyContent s.link.reply = some r)
    (hn : Notice.softReset ∉ r.notices) (hstore : t.store = s.store)
    (hrun : t.link.run = s.link.run) (hhold : t.link.hold = s.link.hold) (hrecovery : t.link.recovery = s.link.recovery)
    (hreply : t.link.reply = .empty) (hline : LineSound s.link → LineSound t.link)
    (hreported : t.inputs.reported = none ∨ Notice.statusReport ∉ r.notices ∧ t.inputs.reported = s.inputs.reported) :
    LinkKept s t where
  runStore hs := hs.of_eq hrun hhold hrecovery (by rw [hstore])
  line := hline
  notices hs := by
    have hcarries (n : Notice) : carries n s.link.reply → n ∈ r.notices := by
      rintro ⟨c, hc, hmem⟩
      cases hr.symm.trans hc
      exact hmem
    refine .of_idle ?_ ?_ fun n => by rw [hreply]; exact not_carries_empty n
    · rw [hstore]
      exact fun hp => hn (hcarries _ (hs.softReset.1 hp))
    · rcases hreported with h | ⟨hstatus, h⟩
      · exact h
      · rw [h]
        exact by_contra fun hp => hstatus (hcarries _ (hs.reported.1 hp))

theorem abandonReply_kept (s : State) : LinkKept s (abandonReply s) := by
  cases hreply : s.link.reply with
  | empty =>
    rw [show abandonReply s = s by unfold abandonReply; rw [hreply]]
    exact .refl s
  | sending c =>
    rw [show abandonReply s = s by unfold abandonReply; rw [hreply]]
    exact .refl s
  | pending c =>
    rw [abandonReply_pending hreply]
    by_cases hn : Notice.softReset ∈ c.notices
    · rw [noticesAbandoned_reset hn]
      exact linkKept_reset .soft true s s
    · rw [noticesAbandoned_report hn]
      refine linkKept_replied (by rw [hreply]; rfl) hn rfl rfl rfl rfl rfl (fun hs => ?_) ?_
      · exact .of_hunting (hs.hunting (by rw [hreply]; exact nofun)) fun _ => rfl
      · by_cases hstatus : Notice.statusReport ∈ c.notices
        · exact .inl (by rw [if_pos hstatus])
        · exact .inr ⟨hstatus, by rw [if_neg hstatus]; rfl⟩

/-- The notices of a completed reply: a soft reset, or the flags of the reported set cleared where STATUS asked. -/
theorem noticesCompleted_cases (ns : List Notice) (s : State) :
    (∃ x, ns.foldl (fun x n => noticeCompleted n x) s = resetLeaving .soft false x)
      ∨ Notice.softReset ∉ ns ∧ ∃ i, ns.foldl (fun x n => noticeCompleted n x) s = { s with inputs := i }
        ∧ (i.reported = none ∨ Notice.statusReport ∉ ns ∧ i.reported = s.inputs.reported) := by
  have hreset (ns : List Notice) (x : State) :
      ns.foldl (fun x n => noticeCompleted n x) (resetLeaving .soft false x) = resetLeaving .soft false x := by
    induction ns with
    | nil => rfl
    | cons n ns ih =>
      have hstill : noticeCompleted n (resetLeaving .soft false x) = resetLeaving .soft false x := by
        cases n with
        | statusReport => rfl
        | softReset => rw [noticeCompleted, resetPart_resetLeaving]; rfl
      rw [List.foldl_cons, hstill, ih]
  induction ns generalizing s with
  | nil => exact .inr ⟨List.not_mem_nil, s.inputs, rfl, .inr ⟨List.not_mem_nil, rfl⟩⟩
  | cons n ns ih =>
    cases n with
    | statusReport =>
      rcases ih { s with inputs := clearReported s.tables.input s.inputs } with h | ⟨hn, i, heq, hi⟩
      · exact .inl h
      · refine .inr ⟨by simpa using hn, i, heq, .inl ?_⟩
        rcases hi with h | ⟨-, h⟩
        · exact h
        · exact h.trans (clearReported_reported _ _)
    | softReset => exact .inl ⟨s, hreset ns s⟩

theorem completeReply_kept (s : State) : LinkKept s (completeReply s) := by
  cases hreply : s.link.reply with
  | empty =>
    rw [show completeReply s = s by unfold completeReply; rw [hreply]]
    exact .refl s
  | pending c =>
    rw [show completeReply s = s by unfold completeReply; rw [hreply]]
    exact .refl s
  | sending c =>
    rw [completeReply_sending hreply]
    rcases noticesCompleted_cases c.notices _ with ⟨x, heq⟩ | ⟨hn, i, heq, hi⟩
    · rw [heq]
      exact linkKept_reset .soft false s x
    · rw [heq]
      exact linkKept_replied (by rw [hreply]; rfl) hn rfl rfl rfl rfl rfl (fun _ => .of_hunting rfl fun _ => rfl) hi

theorem startReply_kept (s : State) : LinkKept s (startReply s) := by
  unfold startReply
  split
  · next c hreply =>
    have hcarries (n : Notice) : carries n (.sending c) ↔ carries n s.link.reply := by rw [hreply]; exact .rfl
    refine ⟨fun hs => hs.of_eq rfl rfl rfl rfl, fun hs => .of_hunting (hs.hunting (by rw [hreply]; exact nofun)) fun hd => ?_,
      fun hs => ⟨hs.softReset.trans (hcarries _).symm, hs.reported.trans (hcarries _).symm, hs.subset⟩⟩
    exact nomatch hreply.symm.trans (hs.discarding hd).1
  · exact .refl s
  · exact .refl s

/-! ## Bytes and frames on the line (R2 to R5) -/

theorem abandonReply_reply {s : State} (h : receiving s = true) : (abandonReply s).link.reply = .empty := by
  cases hreply : s.link.reply with
  | empty => rw [show abandonReply s = s by unfold abandonReply; rw [hreply]]; exact hreply
  | sending c => rw [receiving, hreply, Bool.and_false] at h; cases h
  | pending c =>
    rw [abandonReply_pending hreply]
    by_cases hn : Notice.softReset ∈ c.notices
    · rw [noticesAbandoned_reset hn]; rfl
    · rw [noticesAbandoned_report hn]; rfl

/-- On the line it is enough to keep the invariants from a part with no reply and no frame to be discarded. -/
theorem onLine_kept {f : State → State}
    (hf : ∀ u : State, u.link.reply = .empty → u.link.discarding = false → LinkKept u (f u)) (s : State) :
    LinkKept s (onLine f s) := by
  unfold onLine
  split
  · next hr =>
    refine LinkKept.after ?_ (abandonReply_kept s)
    unfold afterStartBit
    split
    · exact putDiscarding_kept _
    · next hd => exact hf _ (abandonReply_reply hr) (Bool.eq_false_iff.2 hd)
  · exact .refl s

theorem Dispatched.kept {u t : State} (h : Dispatched u t) (hr : u.link.receiver = receiverHunting)
    (he : u.link.reply = .empty) (hd : u.link.discarding = false) : LinkKept u t :=
  ⟨h.runStore, fun _ => .of_hunting (h.receiver.trans hr) fun ht => (nomatch (h.discarding.trans hd).symm.trans ht), h.notices he⟩

theorem takeFrame_kept {f : State → State} (hf : ∀ x, f x = x ∨ Dispatched x (f x)) (p : List Byte) (u : State)
    (he : u.link.reply = .empty) (hd : u.link.discarding = false) : LinkKept u (takeFrame f p u) := by
  unfold takeFrame
  split
  · exact hunting_kept u
  · refine LinkKept.after ?_ (hunting_kept u)
    rcases hf (putReceiver receiverHunting u) with h | h
    · rw [h]; exact .refl _
    · exact h.kept rfl he hd

theorem takeByte_kept (b : Byte) (u : State) (he : u.link.reply = .empty) (hd : u.link.discarding = false) :
    LinkKept u (takeByte b u) := by
  have hadvance : LinkKept u (putReceiver (advanceReceiver u.link.receiver b) u) :=
    putReceiver_kept fun hu => ⟨advanceReceiver_sound hu.receiver b, fun hne => absurd he hne, advanceReceiver_gap _ b,
      fun ht => nomatch hd.symm.trans ht⟩
  unfold takeByte
  dsimp only
  split
  · next h =>
    have hhunts : advanceReceiver u.link.receiver b = receiverHunting := by unfold advanceReceiver; rw [h.1]
    exact LinkKept.after (t := putReceiver (advanceReceiver u.link.receiver b) u)
      ((dispatch_dispatched _ _ _).kept hhunts he hd) hadvance
  · exact hadvance

/-! ## Every command -/

theorem loadCompleted_kept {s : State} (hloaded : s.store.loaded = false) (v : Vector Level 4) (a b : Level) :
    LinkKept s (loadCompleted v a b s) := by
  have hlink : (loadCompleted v a b s).link = { s.link with run := .wait } := by
    rw [loadCompleted_eq]
    simp [batteryLoaded, loadBegun]
  have hstore : (loadCompleted v a b s).store = { s.store with loaded := true } := by
    have htables : (loadTables s).store = { s.store with loaded := true } := by
      unfold loadTables
      split <;> rfl
    rw [loadCompleted_eq]
    simpa [batteryLoaded, loadBegun] using htables
  have hreport : ReportStands s.inputs (loadCompleted v a b s).inputs := by
    rw [show (loadCompleted v a b s).inputs = (acceptLevels v (loadTables s)).inputs by
      rw [loadCompleted_eq]; simp [batteryLoaded, loadBegun]]
    have htables : ReportStands s.inputs (loadTables s).inputs := by
      unfold loadTables
      split
      · exact .refl _
      · exact raiseFlag_report _ _
    exact (⟨.rfl, id⟩ : ReportStands (loadTables s).inputs (acceptLevels v (loadTables s)).inputs).after htables
  refine .of_runStore (fun hs => ?_) (by rw [hlink]) (by rw [hstore]) hreport
  have hrun := hs.loading.2 hloaded
  constructor
  · rw [Loading, hlink, hstore]; exact iff_of_false nofun nofun
  · rw [hlink]
    refine iff_of_false (fun hh => ?_) (Or.elim · nofun nofun)
    rcases hs.hold.1 hh with h | h <;> rw [hrun] at h <;> cases h
  · rw [hlink]
    intro hne
    have h := hs.recovery hne
    rw [hrun] at h
    cases h
  all_goals
    rw [hstore]
    intro hB hf
    have h := hs.inSetup hB hf
    rw [hrun] at h
    cases h

theorem eraseEnded_kept (s : State) : LinkKept s (eraseEnded s) := by
  unfold eraseEnded
  split
  · exact .refl s
  · next hstate =>
    have hflight : storeInFlight s.store = true := by rw [storeInFlight, hstate]
    exact .of_runStore (fun hs => ⟨hs.loading, hs.hold, hs.recovery, fun hB _ => hs.inSetup hB hflight,
      fun hB _ => hs.invalid hB hflight⟩) rfl rfl (.refl _)
  · exact .refl s

theorem programmingEnded_kept (v : Verify) (s : State) : LinkKept s (programmingEnded v s) := by
  unfold programmingEnded
  split
  · exact .refl s
  · exact .refl s
  · exact .of_runStore (fun hs => ⟨hs.loading, hs.hold, hs.recovery, fun _ => nofun, fun _ => nofun⟩) rfl rfl (raiseFlag_report _ _)

theorem holdExpired_kept (s : State) : LinkKept s (holdExpired s) := by
  refine .of_runStore holdExpired_runStore ?_ ?_ ?_
  all_goals
    unfold holdExpired
    split
  · rfl
  · rfl
  · rw [enterFailsafe_link]
  · rfl
  · rfl
  · rfl
  · rfl
  · simp [enterFailsafe]
  · rfl
  · rfl
  · exact .refl _
  · exact .refl _
  · exact enterFailsafe_report s
  · exact .refl _
  · exact .refl _

theorem LinkKept.of_next {s t u : State} (h : (.next u : Host.Outcome State Fault Refusal) = .next t)
    (k : LinkKept s u) : LinkKept s t := Host.Outcome.next.inj h ▸ k

theorem exec_notFrame_kept {c : Instr} {s t : State} (h : exec c s = .next t) (hf : frameOf c = none) : LinkKept s t := by
  have hticks (x : State) (hx : x.link = s.link ∧ x.store = s.store ∧ x.inputs = s.inputs) : LinkKept s x :=
    (Untouched.of_eq hx.1 hx.2.1 hx.2.2).kept
  cases c
  case checkMismatchFrame k p check =>
    refine .of_next h (onLine_kept (fun u => takeFrame_kept (fun x => ?_) p u) s)
    split
    · exact .inr (dispatch_dispatched k p x)
    · exact .inl rfl
  case gapTimeout => exact .of_next h (.ite fun _ => hunting_kept s)
  case framingError => exact .of_next h (onLine_kept (fun u _ _ => hunting_kept u) s)
  case lenDiscard b =>
    refine .of_next h (onLine_kept (fun u he hd => ?_) s)
    split
    · exact hunting_kept u
    · exact takeByte_kept b u he hd
  case byteReceived b => exact .of_next h (onLine_kept (takeByte_kept b) s)
  case replyStart => exact .of_next h (startReply_kept s)
  case replyAbandon => exact .of_next h (abandonReply_kept s)
  case replyComplete => exact .of_next h (completeReply_kept s)
  case holdTimerExpiry => exact .of_next h (.ite fun _ => holdExpired_kept s)
  case servoPeriodStart => exact .of_next h (.ite fun _ => hticks _ (by simp))
  case brakingTimerExpiry => exact .of_next h (.ite fun _ => hticks _ (by simp))
  case rampTick => exact .of_next h (.ite fun _ => (onWinchEvent_untouched _ s).kept)
  case stallTimerExpiry => exact .of_next h (.ite fun _ => (onWinchEvent_untouched _ s).kept)
  case noMotionTimerExpiry => exact .of_next h (.ite fun _ => (onWinchEvent_untouched _ s).kept)
  case clutchTimerExpiry => exact .of_next h (.ite fun _ => (onWinchEvent_untouched _ s).kept)
  case encoderCount a b => exact .of_next h (.ite fun _ => (onWinchEvent_untouched _ s).kept)
  case cueTick => exact .of_next h (.ite fun _ => hticks _ (by simp))
  case conversionEnd x => exact .of_next h (conversionEnded_untouched x s).kept
  case budgetTimerExpiry => exact .of_next h (.ite fun _ => hticks _ (by simp))
  case sampleTick => exact .of_next h (.ite fun _ => (takeSamples_untouched _ s).kept)
  case loadComplete =>
    refine .of_next h (.ite fun hr => loadCompleted_kept ?_ _ _ _)
    simp only [Bool.and_eq_true, Bool.not_eq_true'] at hr
    exact hr.2
  case eraseEnd => exact .of_next h (eraseEnded_kept s)
  case storeEnd v => exact .of_next h (programmingEnded_kept v s)
  case powerOnReset => exact .of_next h (linkKept_reset .powerOn false s s)
  case brownOutReset => exact .of_next h (linkKept_reset .brownOut false s s)
  case leaveReset => exact .of_next h (hticks _ ⟨rfl, rfl, rfl⟩)
  all_goals cases hf

theorem exec_kept {c : Instr} {s t : State} (h : exec c s = .next t) : LinkKept s t := by
  cases hf : frameOf c with
  | none => exact exec_notFrame_kept h hf
  | some f =>
    exact .of_next ((exec_frame hf s).symm.trans h)
      (onLine_kept (takeFrame_kept (fun x => .inr (dispatch_dispatched f.1 f.2 x)) f.2) s)

theorem step_kept {s t : State} (h : step s = .next t) : LinkKept s t := by
  unfold step at h
  split at h
  · exact .of_next h (.refl s)
  · next c rest _ => exact (exec_kept h).after (Untouched.of_eq rfl rfl rfl : Untouched s (s.withPending rest)).kept

/-- Settles O57: each command keeps the run state with the store, the line and the notices. -/
theorem linkAndStoreAreKept : Obligations.LinkAndStoreAreKept := by
  refine ⟨fun s t hs hr h => ?_, fun s t hs h => (step_kept h).notices hs, fun s t hs hx h => ?_⟩
  · obtain ⟨hrun, hline⟩ := linkSound_iff.1 ⟨hs, hr⟩
    exact linkSound_iff.2 ⟨(step_kept h).runStore hrun, (step_kept h).line hline⟩
  · have hrun : RunStore True s := ⟨hs.loading, hs.hold, hs.recovery, fun _ => hx.inSetup, fun _ => hx.invalid⟩
    obtain ⟨-, -, -, hsetup, hinvalid⟩ := (step_kept h).runStore hrun
    exact ⟨hsetup trivial, hinvalid trivial⟩

end Sys2Proof.Machine

/-! # Sitting 5: the winch at its own operations (O59: R86 to R90, R93 to R111) -/

namespace Sys2Proof.Machine

/-! ## The winch in what it reads of the part -/

/-- What stands in every state of the winch: the command, the clutch width of the state, the request of the record
held, the line count within its ends. -/
structure WinchBase (c : WinchContext) (w : Winch) : Prop where
  command : c.run ≠ .run → w.command = 0
  clutch : w.ticking = true → w.clutchWidth = positionFor c.record w.state
  request : w.request = freespoolRequest c.record w.record
  line : w.line.natAbs ≤ 65535

/-- The figures of the winch are those of its state, and it moves or is released only in RUN and out of CUTOFF. -/
structure WinchFits (c : WinchContext) (w : Winch) : Prop extends WinchBase c w where
  duty : w.duty ≠ 0 → winchMoves w.state = true
  target : w.target ≠ 0 → hauling w.state = true
  demand : w.filed ≠ 0 → hauling w.state = true
  direction : directionFits w.state w.direction = true
  running : hauling w.state = true ∨ released w.state = true → c.run = .run ∧ c.prot ≠ .cutoff
  clutchTimer : w.clutchTimer.running = true → w.state = .clutchOut ∨ w.state = .clutchIn
  fault : w.state = .fault ↔ w.cause ≠ .none
  further : w.further = true → w.state = .fault

/-- The stall and the no-motion timer run only while the duty is above 0 (R107, R108). -/
structure DutyTimers (w : Winch) : Prop where
  stall : w.stallTimer.running = true → 0 < w.duty
  noMotion : w.noMotionTimer.running = true → 0 < w.duty

/-- The winch is sound in its context: its figures, and its timers. -/
def WinchHolds (c : WinchContext) (w : Winch) : Prop := WinchFits c w ∧ DutyTimers w

theorem winchSound_iff (s : State) :
    WinchSound s ↔ winchInRange s.tables.winch = true ∧ WinchHolds (winchContext s) s.winch :=
  ⟨fun h => ⟨h.record, ⟨⟨h.command, h.clutch, h.request, h.line⟩, h.duty, h.target, h.demand, h.direction, h.running,
      h.clutchTimer, h.fault, h.further⟩, h.stallTimer, h.noMotionTimer⟩,
    fun ⟨hr, h, k⟩ => ⟨h.duty, h.target, h.demand, h.direction, h.running, h.command, h.clutchTimer, k.stall, k.noMotion,
      hr, h.fault, h.further, h.clutch, h.request, h.line⟩⟩

section
variable {c : WinchContext} {w : Winch}

/-- Out of a moving state the duty is 0, and the target and the demand out of a hauling one. -/
theorem WinchFits.duty_zero (h : WinchFits c w) (hst : winchMoves w.state = false) : w.duty = 0 :=
  by_contra fun hne => by rw [h.duty hne] at hst; cases hst

theorem WinchFits.target_zero (h : WinchFits c w) (hst : hauling w.state = false) : w.target = 0 :=
  by_contra fun hne => by rw [h.target hne] at hst; cases hst

theorem WinchFits.demand_zero (h : WinchFits c w) (hst : hauling w.state = false) : w.filed = 0 :=
  by_contra fun hne => by rw [h.demand hne] at hst; cases hst

theorem WinchFits.unfaulted (h : WinchFits c w) (hst : w.state ≠ .fault) : w.cause = .none ∧ w.further = false :=
  ⟨by_contra fun hne => hst (h.fault.2 hne), Bool.eq_false_iff.2 fun hf => hst (h.further hf)⟩

theorem not_moves_of_released {st : WinchState} (h : released st = true) : winchMoves st = false := by
  rcases (released_iff st).1 h with rfl | rfl <;> rfl

theorem not_hauling_of_still {st : WinchState} (h : winchMoves st = false) : hauling st = false := by
  refine Bool.eq_false_iff.2 fun hst => ?_
  rcases (hauling_iff st).1 hst with rfl | rfl <;> cases h

theorem WinchBase.engaged (h : WinchBase c w) (ht : w.ticking = true) : engagedWidth c w = c.record.engagePosition := by
  cases hr : released w.state with
  | true => exact engagedWidth_released c hr
  | false => rw [engagedWidth_engaged c hr, h.clutch ht, positionFor, hr]; rfl

/-- The command and the record replaced, the request re-evaluated. -/
theorem WinchFits.changed {w' : Winch} {c' : WinchContext} (h : WinchFits c w) (hcommand : c'.run ≠ .run → w'.command = 0)
    (hrequest : w'.request = freespoolRequest c'.record w'.record)
    (hclutch : w.ticking = true → w.clutchWidth = positionFor c.record w.state → w'.clutchWidth = positionFor c'.record w'.state)
    (hrunning : hauling w.state = true ∨ released w.state = true → c.run = .run ∧ c.prot ≠ .cutoff →
      c'.run = .run ∧ c'.prot ≠ .cutoff)
    (hw : w' = { w with command := w'.command, record := w'.record, request := w'.request, releaseBlock := w'.releaseBlock
                        clutchWidth := w'.clutchWidth }) : WinchFits c' w' := by
  refine ⟨⟨hcommand, fun ht => hclutch ?_ ?_, hrequest, ?_⟩, ?_, ?_, ?_, ?_, ?_, ?_, ?_, ?_⟩
  · rw [hw] at ht; exact ht
  · exact h.clutch (by rw [hw] at ht; exact ht)
  all_goals rw [hw]
  · exact h.line
  · exact h.duty
  · exact h.target
  · exact h.demand
  · exact h.direction
  · exact fun hst => hrunning hst (h.running hst)
  · exact h.clutchTimer
  · exact h.fault
  · exact h.further

/-! ## The states entered -/

theorem idleWinch_fits (h : WinchBase c w) (hduty : w.duty = 0) (hcause : w.cause = .none) (hfurther : w.further = false) :
    WinchFits c (idleWinch c w) where
  command := h.command
  clutch ht := h.engaged ht
  request := h.request
  line := h.line
  duty hne := absurd hduty hne
  target hne := absurd rfl hne
  demand hne := absurd rfl hne
  direction := rfl
  running := (Or.elim · nofun nofun)
  clutchTimer := nofun
  fault := iff_of_false nofun fun hne => hne hcause
  further hf := nomatch hfurther.symm.trans hf

theorem releasedWinch_fits (h : WinchFits c w) (hidle : w.state = .idle) (hdue : releaseDue c w = true) :
    WinchFits c (releasedWinch c w) := by
  obtain ⟨-, hrun, hprot, -⟩ := (releaseDue_iff c w).1 hdue
  have hstill : winchMoves w.state = false := by rw [hidle]; rfl
  obtain ⟨hcause, hfurther⟩ := h.unfaulted (by rw [hidle]; exact nofun)
  exact { command := h.command
          clutch := fun _ => rfl
          request := h.request
          line := h.line
          duty := fun hne => absurd (h.duty_zero hstill) hne
          target := fun hne => absurd (h.target_zero (not_hauling_of_still hstill)) hne
          demand := fun hne => absurd (h.demand_zero (not_hauling_of_still hstill)) hne
          direction := rfl
          running := fun _ => ⟨hrun, hprot⟩
          clutchTimer := fun _ => .inl rfl
          fault := iff_of_false nofun fun hne => hne hcause
          further := fun hf => nomatch hfurther.symm.trans hf }

theorem engagingWinch_fits (h : WinchBase c w) (hduty : w.duty = 0) (htarget : w.target = 0) (hcause : w.cause = .none)
    (hfurther : w.further = false) : WinchFits c (engagingWinch c w) where
  command := h.command
  clutch ht := h.engaged ht
  request := h.request
  line := h.line
  duty hne := absurd hduty hne
  target hne := absurd htarget hne
  demand hne := absurd rfl hne
  direction := rfl
  running := (Or.elim · nofun nofun)
  clutchTimer _ := .inr rfl
  fault := iff_of_false nofun fun hne => hne hcause
  further hf := nomatch hfurther.symm.trans hf

theorem WinchBase.idle (h : WinchBase c w) (hduty : w.duty = 0) (hcause : w.cause = .none) (hfurther : w.further = false) :
    WinchFits c (if releaseDue c w then releasedWinch c (idleWinch c w) else idleWinch c w) := by
  have hidle := idleWinch_fits h hduty hcause hfurther
  split
  · next hdue => exact releasedWinch_fits hidle rfl (by rw [releaseDue_idleWinch]; exact hdue)
  · exact hidle

theorem rampingWinch_fits (h : WinchFits c w) (hdir : w.direction ≠ .none) (hst : w.state ≠ .fault)
    (hclutch : w.clutchTimer.running ≠ true) : WinchFits c (rampingWinch c w) := by
  obtain ⟨hcause, hfurther⟩ := h.unfaulted hst
  exact { command := h.command
          clutch := fun ht => h.engaged ht
          request := h.request
          line := h.line
          duty := fun _ => rfl
          target := fun hne => absurd rfl hne
          demand := fun hne => absurd rfl hne
          direction := by
            show (w.direction != .none) = true
            simpa using hdir
          running := (Or.elim · nofun nofun)
          clutchTimer := fun ht => absurd ht hclutch
          fault := iff_of_false nofun fun hne => hne hcause
          further := fun hf => nomatch hfurther.symm.trans hf }

theorem faultedWinch_fits (h : WinchBase c w) {cause : FaultCause} (hcause : cause ≠ .none) :
    WinchFits c (faultedWinch c w cause) where
  command := h.command
  clutch ht := h.engaged ht
  request := h.request
  line := h.line
  duty hne := absurd rfl hne
  target hne := absurd rfl hne
  demand hne := absurd rfl hne
  direction := rfl
  running := (Or.elim · nofun nofun)
  clutchTimer := nofun
  fault := iff_of_true rfl hcause
  further := nofun

theorem WinchFits.refiled (h : WinchFits c w) : WinchFits c { w with filed := winchDemand c w } where
  toWinchBase := ⟨h.command, h.clutch, h.request, h.line⟩
  duty := h.duty
  target := h.target
  demand hne := by_contra fun hst => hne (if_neg hst)
  direction := h.direction
  running := h.running
  clutchTimer := h.clutchTimer
  fault := h.fault
  further := h.further

theorem WinchFits.retargeted (h : WinchFits c w) : WinchFits c { w with target := targetDuty c w } where
  toWinchBase := ⟨h.command, h.clutch, h.request, h.line⟩
  duty := h.duty
  target hne := by_contra fun hst => hne (if_neg hst)
  demand := h.demand
  direction := h.direction
  running := h.running
  clutchTimer := h.clutchTimer
  fault := h.fault
  further := h.further

/-- A hauling winch has the direction of its state, and its clutch timer rests. -/
theorem WinchFits.of_hauling (h : WinchFits c w) (hst : hauling w.state = true) :
    w.direction ≠ .none ∧ w.state ≠ .fault ∧ w.clutchTimer.running ≠ true := by
  have hdir := h.direction
  refine ⟨?_, ?_, fun ht => ?_⟩
  · rcases (hauling_iff _).1 hst with hs | hs <;> rw [hs] at hdir <;> intro hd <;> rw [hd] at hdir <;> cases hdir
  · intro hf
    rw [hf] at hst
    cases hst
  · rcases h.clutchTimer ht with hs | hs <;> rw [hs] at hst <;> cases hst

/-- A start or a resumption from IDLE or RAMP_DOWN (R93, R95). -/
theorem toHauling_fits {x : WinchStep} (h : WinchFits c x.winch) {st : WinchState} {d : Direction}
    (hst : hauling st = true) (hfrom : x.winch.state = .idle ∨ x.winch.state = .rampDown)
    (hd : directionFits st d = true) (hallowed : startAllowed c x.winch = true) : WinchFits c (toHauling c st d x).winch := by
  obtain ⟨hrun, hprot, -⟩ := (startAllowed_iff c x.winch).1 hallowed
  have hreleased : released st = false := hauling_not_released hst
  have hstays : released x.winch.state = false := by rcases hfrom with hf | hf <;> rw [hf] <;> rfl
  obtain ⟨hcause, hfurther⟩ := h.unfaulted (by rcases hfrom with hf | hf <;> rw [hf] <;> exact nofun)
  have hmoves : winchMoves st = true := by rcases (hauling_iff st).1 hst with hs | hs <;> rw [hs] <;> rfl
  have hfault : st ≠ .fault := by rcases (hauling_iff st).1 hst with hs | hs <;> rw [hs] <;> exact nofun
  have hentered : WinchFits c (enterWinch c st d x).winch := by
    rw [enterWinch_engaged c x hreleased]
    exact { command := h.command
            clutch := fun ht => by
              show engagedWidth c x.winch = positionFor c.record st
              rw [h.engaged ht, positionFor, hreleased]
              rfl
            request := h.request
            line := h.line
            duty := fun _ => hmoves
            target := fun _ => hst
            demand := fun _ => hst
            direction := hd
            running := fun _ => ⟨hrun, hprot⟩
            clutchTimer := fun ht => by
              rcases h.clutchTimer ht with hs | hs <;> rcases hfrom with hf | hf <;> rw [hf] at hs <;> cases hs
            fault := iff_of_false hfault fun hne => hne hcause
            further := fun hf => nomatch hfurther.symm.trans hf }
  exact hentered.retargeted.refiled

/-! ## The request and the command acted on (R90, R93 to R95, R101 to R103) -/

theorem toClutchIn_fits {x : WinchStep} (h : WinchFits c x.winch) (hst : released x.winch.state = true) :
    WinchFits c (toClutchIn c x).winch := by
  have hstill := not_moves_of_released hst
  obtain ⟨hcause, hfurther⟩ := h.unfaulted fun hs => by rw [hs] at hst; cases hst
  have hengaging := engagingWinch_fits h.toWinchBase (h.duty_zero hstill) (h.target_zero (not_hauling_of_still hstill)) hcause
    hfurther
  rw [toClutchIn_winch]
  split
  · exact hengaging.toWinchBase.idle (h.duty_zero hstill) hcause hfurther
  · exact hengaging

theorem tryRelease_fits {x : WinchStep} (h : WinchFits c x.winch) : WinchFits c (tryRelease c x).winch := by
  by_cases hst : x.winch.state = .idle
  · rw [tryRelease_winch_idle c x hst]
    split
    · next hdue => exact releasedWinch_fits h hst hdue
    · exact h
  · rw [tryRelease_other c hst]
    exact h

theorem actOnRequest_fits {x : WinchStep} (h : WinchFits c x.winch) : WinchFits c (actOnRequest c x).winch := by
  unfold actOnRequest
  split
  · next hst =>
    split
    · exact h
    · exact toClutchIn_fits h hst
  · exact tryRelease_fits h

theorem toRampDown_fits {x : WinchStep} (h : WinchFits c x.winch) (hst : hauling x.winch.state = true) :
    WinchFits c (toRampDown c x).winch := by
  obtain ⟨hdir, hfault, hclutch⟩ := h.of_hauling hst
  rw [toRampDown_winch]
  exact rampingWinch_fits h hdir hfault hclutch

theorem actOnCommand_fits {x : WinchStep} (h : WinchFits c x.winch) : WinchFits c (actOnCommand c x).winch := by
  have hin (hfrom : x.winch.state = .idle ∨ x.winch.state = .rampDown) (hallowed : haulAllowed c x.winch = true) :
      WinchFits c (toHauling c .haulIn .haulIn x).winch :=
    toHauling_fits h rfl hfrom rfl ((haulAllowed_iff c _).1 hallowed).1
  have hout (hfrom : x.winch.state = .idle ∨ x.winch.state = .rampDown) (hallowed : payAllowed c x.winch = true) :
      WinchFits c (toHauling c .payOut .payOut x).winch :=
    toHauling_fits h rfl hfrom rfl ((payAllowed_iff c _).1 hallowed).1
  simp only [actOnCommand]
  split
  · next hst =>
    split_ifs with h₁ h₂
    · exact hin (.inl hst) (Bool.and_eq_true_iff.1 h₁).2
    · exact hout (.inl hst) (Bool.and_eq_true_iff.1 h₂).2
    · exact h
  · next hst =>
    split
    · exact h.retargeted
    · exact toRampDown_fits h (by rw [hst]; rfl)
  · next hst =>
    split
    · exact h.retargeted
    · exact toRampDown_fits h (by rw [hst]; rfl)
  · next hst =>
    split_ifs with h₁ h₂
    · exact hin (.inr hst) (Bool.and_eq_true_iff.1 h₁).2
    · exact hout (.inr hst) (Bool.and_eq_true_iff.1 h₂).2
    · exact h
  all_goals exact h

end

end Sys2Proof.Machine

/-! # Sitting 5: every event of the winch keeps it sound (O59: R89 to R111) -/

namespace Sys2Proof.Machine

/-! ## The duty and its timers through the transitions -/

/-- From `v` to `w` the duty, the stall timer and the no-motion timer stand. -/
structure DutyKept (v w : Winch) : Prop where
  duty : w.duty = v.duty
  stall : w.stallTimer = v.stallTimer
  noMotion : w.noMotionTimer = v.noMotionTimer

theorem DutyKept.refl (w : Winch) : DutyKept w w := ⟨rfl, rfl, rfl⟩

theorem DutyKept.after {u v w : Winch} (k : DutyKept v w) (h : DutyKept u v) : DutyKept u w :=
  ⟨k.duty.trans h.duty, k.stall.trans h.stall, k.noMotion.trans h.noMotion⟩

theorem DutyKept.timers {v w : Winch} (k : DutyKept v w) (h : DutyTimers v) : DutyTimers w :=
  ⟨by rw [k.stall, k.duty]; exact h.stall, by rw [k.noMotion, k.duty]; exact h.noMotion⟩

theorem DutyTimers.same {v w : Winch} (h : DutyTimers v) (hduty : w.duty = v.duty) (hstall : w.stallTimer = v.stallTimer)
    (hnoMotion : w.noMotionTimer = v.noMotionTimer) : DutyTimers w := DutyKept.timers ⟨hduty, hstall, hnoMotion⟩ h

section
variable (c : WinchContext) (x : WinchStep)

theorem tryRelease_duty : DutyKept x.winch (tryRelease c x).winch := by
  unfold tryRelease
  split <;> exact ⟨rfl, rfl, rfl⟩

theorem toIdle_duty : DutyKept x.winch (toIdle c x).winch := (tryRelease_duty c _).after ⟨rfl, rfl, rfl⟩

theorem toClutchIn_duty : DutyKept x.winch (toClutchIn c x).winch := by
  unfold toClutchIn
  dsimp only
  split
  · exact (toIdle_duty c _).after ⟨rfl, rfl, rfl⟩
  · exact ⟨rfl, rfl, rfl⟩

theorem actOnRequest_duty : DutyKept x.winch (actOnRequest c x).winch := by
  unfold actOnRequest
  split <;> [split; skip]
  · exact .refl _
  · exact toClutchIn_duty c x
  · exact tryRelease_duty c x

theorem actOnCommand_kept : DutyKept x.winch (actOnCommand c x).winch := by
  simp only [actOnCommand]
  repeat' split
  all_goals exact ⟨rfl, rfl, rfl⟩

end

section
variable {c : WinchContext} {w : Winch}

/-! ## Where the context changes: a function update, a run state, a protection state, a record -/

theorem winchUpdate_holds (h : WinchHolds c w) (r : FunctionRecord) : WinchHolds c (winchUpdate c r w).winch := by
  have hinformed : WinchFits c (informed c w r) :=
    h.1.changed (fun hrun => if_neg hrun) rfl (fun _ hc => hc) (fun _ hr => hr) rfl
  rw [winchUpdate_eq]
  have hacted := actOnCommand_fits (actOnRequest_fits (x := winchBegin (informed c w r)) hinformed)
  refine ⟨hacted.refiled, DutyKept.timers ?_ h.2⟩
  exact DutyKept.after (v := (actOnCommand c (actOnRequest c (winchBegin (informed c w r)))).winch) ⟨rfl, rfl, rfl⟩
    ((actOnCommand_kept c _).after ((actOnRequest_duty c _).after ⟨rfl, rfl, rfl⟩))

theorem commandless_fits (h : WinchFits c w) : WinchFits c (commandless w) :=
  h.changed (fun _ => rfl) h.request (fun _ hc => hc) (fun _ hr => hr) rfl

/-- A winch at rest under command 0 is sound in any run state and protection state. -/
theorem WinchFits.at_rest (h : WinchFits c w) {c' : WinchContext} (hrecord : c'.record = c.record) (hcommand : w.command = 0)
    (hstate : hauling w.state = false) (hreleased : released w.state = false) : WinchFits c' w := by
  refine h.changed (fun _ => hcommand) (by rw [hrecord]; exact h.request) (fun _ hc => by rw [hrecord]; exact hc) (fun hst => ?_) rfl
  rw [hstate, hreleased] at hst
  rcases hst with hst | hst <;> cases hst

theorem rampingWinch_halts (h : WinchFits c w) {c' : WinchContext} (hrecord : c'.record = c.record) (hst : hauling w.state = true) :
    WinchFits c' (rampingWinch c' (commandless w)) := by
  obtain ⟨hdir, hfault, hclutch⟩ := h.of_hauling hst
  have hramping : WinchFits c (rampingWinch c' (commandless w)) := by
    rw [rampingWinch, engagedWidth, hrecord]
    exact rampingWinch_fits (commandless_fits h) hdir hfault hclutch
  exact hramping.at_rest hrecord rfl rfl rfl

/-- A forced stop that returns a released clutch (R96, R102, R103). -/
theorem haltedWinch_fits (h : WinchFits c w) {c' : WinchContext} (hrecord : c'.record = c.record) :
    WinchFits c' (haltedWinch c' w) := by
  cases hh : hauling w.state with
  | true =>
    rw [haltedWinch_hauling c' hh]
    exact rampingWinch_halts h hrecord hh
  | false =>
    cases hr : released w.state with
    | true =>
      have hstill := not_moves_of_released hr
      obtain ⟨hcause, hfurther⟩ := h.unfaulted fun hs => by rw [hs] at hr; cases hr
      have hengaging : WinchFits c (engagingWinch c' (commandless w)) := by
        rw [engagingWinch, engagedWidth, hrecord]
        exact engagingWinch_fits (commandless_fits h).toWinchBase (h.duty_zero hstill) (h.target_zero hh) hcause hfurther
      rw [haltedWinch_released c' hr]
      split
      · have hidle : WinchFits c (idleWinch c' (engagingWinch c' (commandless w))) := by
          rw [idleWinch, engagedWidth, hrecord]
          exact idleWinch_fits hengaging.toWinchBase (h.duty_zero hstill) hcause hfurther
        exact hidle.at_rest hrecord rfl rfl rfl
      · exact hengaging.at_rest hrecord rfl rfl rfl
    | false =>
      rw [haltedWinch, if_neg (by rw [hh]; exact nofun), if_neg (by rw [hr]; exact nofun)]
      exact (commandless_fits h).at_rest hrecord rfl hh hr

theorem haltedWinch_duty (c : WinchContext) (w : Winch) : DutyKept w (haltedWinch c w) := by
  unfold haltedWinch
  split_ifs <;> exact ⟨rfl, rfl, rfl⟩

/-- A run-state change: no run state but RUN and FAILSAFE is entered with a released clutch. -/
theorem winchRunChange_holds (h : WinchHolds c w) (n : RunState)
    (hn : n ≠ .run → n ≠ .failsafe → released w.state = false) :
    WinchHolds { c with run := n } (winchRunChange { c with run := n } w).winch := by
  by_cases hrun : n = .run
  · rw [winchRunChange_run hrun]
    exact ⟨h.1.changed (fun hne => absurd hrun hne) h.1.request (fun _ hc => hc) (fun _ hr => ⟨hrun, hr.2⟩) rfl, h.2⟩
  rw [winchRunChange_halts hrun]
  by_cases hfailsafe : n = .failsafe
  · rw [show (n == .failsafe) = true by simp [hfailsafe], winchHalt_winch_returns _ (.inl hrun)]
    exact ⟨haltedWinch_fits h.1 rfl, (haltedWinch_duty _ w).timers h.2⟩
  · rw [show (n == .failsafe) = false by simp [hfailsafe], winchHalt_winch_stays]
    split
    · next hst => exact ⟨rampingWinch_halts h.1 rfl hst, h.2.same rfl rfl rfl⟩
    · next hst =>
      exact ⟨(commandless_fits h.1).at_rest rfl rfl (eq_false_of_ne_true hst) (hn hrun hfailsafe),
        h.2.same rfl rfl rfl⟩

theorem winchProtChange_holds (h : WinchHolds c w) (p : ProtState) :
    WinchHolds { c with prot := p } (winchProtChange { c with prot := p } w).winch := by
  unfold winchProtChange
  split
  · next hp =>
    rw [winchHalt_winch_returns _ (.inr hp)]
    exact ⟨haltedWinch_fits h.1 rfl, (haltedWinch_duty _ w).timers h.2⟩
  · next hp => exact ⟨h.1.changed h.1.command h.1.request (fun _ hc => hc) (fun _ hr => ⟨hr.1, hp⟩) rfl, h.2⟩

/-- A new WINCH record (R88). -/
theorem winchWritten_holds (h : WinchHolds c w) (r : WinchRecord) :
    WinchHolds { c with record := r } (winchWritten { c with record := r } w).winch := by
  generalize hc' : ({ c with record := r } : WinchContext) = c'
  have hrun : c'.run = c.run := by rw [← hc']
  have hprot : c'.prot = c.prot := by rw [← hc']
  have hwritten : WinchFits c' (evaluateRequest c' { w with clutchWidth := positionFor c'.record w.state }) := by
    refine h.1.changed ?_ rfl (fun _ _ => rfl) (fun _ hr => ?_) rfl
    · rw [hrun]; exact h.1.command
    · rw [hrun, hprot]; exact hr
  have hacted := actOnRequest_fits (x := winchBegin _) hwritten
  refine ⟨hacted.retargeted.refiled, DutyKept.timers ?_ h.2⟩
  exact DutyKept.after (v := (actOnRequest c' (winchBegin
    (evaluateRequest c' { w with clutchWidth := positionFor c'.record w.state }))).winch) ⟨rfl, rfl, rfl⟩
    ((actOnRequest_duty c' _).after ⟨rfl, rfl, rfl⟩)

/-! ## Faults (R105 to R110) -/

theorem winchFaulted_holds {x : WinchStep} (h : WinchFits c x.winch) (hd : DutyTimers x.winch) {cause : FaultCause}
    (hcause : cause ≠ .none) : WinchHolds c (winchFaulted c cause x).winch := by
  by_cases hst : x.winch.state = .fault
  · rw [winchFaulted_again c hst]
    exact ⟨{ h with toWinchBase := { h.toWinchBase with }, further := fun _ => hst }, hd.1, hd.2⟩
  · rw [winchFaulted_winch c hst]
    exact ⟨faultedWinch_fits h.toWinchBase hcause, nofun, nofun⟩

theorem stallExpired_holds (h : WinchHolds c w) : WinchHolds c (stallExpired c w).winch :=
  winchFaulted_holds (x := winchBegin { w with stallTimer := stopTimer w.stallTimer }) (cause := .stall)
    { h.1 with toWinchBase := { h.1.toWinchBase with } } ⟨nofun, h.2.noMotion⟩ nofun

theorem noMotionExpired_holds (h : WinchHolds c w) : WinchHolds c (noMotionExpired c w).winch :=
  winchFaulted_holds (x := winchBegin { w with noMotionTimer := stopTimer w.noMotionTimer }) (cause := .noMotion)
    { h.1 with toWinchBase := { h.1.toWinchBase with } } ⟨h.2.stall, nofun⟩ nofun

theorem clutchExpired_holds (h : WinchHolds c w) : WinchHolds c (clutchExpired c w).winch :=
  winchFaulted_holds (x := winchBegin { w with clutchTimer := stopTimer w.clutchTimer }) (cause := .clutch)
    { h.1 with toWinchBase := { h.1.toWinchBase with }, clutchTimer := nofun } ⟨h.2.stall, h.2.noMotion⟩ nofun

theorem winchCurrent_holds (h : WinchHolds c w) (v : Int) : WinchHolds c (winchCurrent c v w).winch := by
  refine ⟨{ h.1 with toWinchBase := { h.1.toWinchBase with } }, fun hs => ?_, h.2.noMotion⟩
  simp only [winchCurrent, winchBegin_winch] at hs ⊢
  split_ifs at hs with h₁ h₂
  · exact h₂.1
  · exact h.2.stall hs
  · cases hs

theorem winchTemp_holds (h : WinchHolds c w) (v : Int) : WinchHolds c (winchTemp c v w).winch := by
  have htaken : WinchFits c { w with temp := v } := { h.1 with toWinchBase := { h.1.toWinchBase with } }
  unfold winchTemp
  dsimp only
  split
  · exact winchFaulted_holds (x := winchBegin _) htaken ⟨h.2.stall, h.2.noMotion⟩ nofun
  · exact ⟨htaken, h.2.stall, h.2.noMotion⟩

/-! ## The encoder and the line count (R97 to R100) -/

/-- A valid line count in place of the old one. -/
theorem WinchFits.recounted (h : WinchFits c w) {n : Int} (hn : n.natAbs ≤ 65535) (homed : Bool) :
    WinchFits c { w with line := n, homed := homed } :=
  { h with toWinchBase := { h.toWinchBase with line := hn } }

theorem lineEndStep_holds (h : WinchHolds c w) (d : Int) : WinchHolds c (lineEndStep c d w).winch := by
  unfold lineEndStep
  split
  · dsimp only
    split
    · next hst =>
      refine ⟨toRampDown_fits (x := ⟨w, _, _⟩) h.1 (by show hauling w.state = true; rw [hst]; rfl), ?_⟩
      rw [toRampDown_winch]
      exact h.2.same rfl rfl rfl
    · exact h
  · exact h

theorem countedWinch_holds (h : WinchHolds c w) {d : Int} (hline : (w.line + d).natAbs ≤ 65535) :
    WinchHolds c (countedWinch c d w) := by
  refine ⟨{ h.1.recounted hline w.homed with toWinchBase := { (h.1.recounted hline w.homed).toWinchBase with } }, h.2.stall,
    fun hm => ?_⟩
  simp only [countedWinch] at hm ⊢
  split at hm
  · next hrunning => exact h.2.noMotion hrunning
  · exact h.2.noMotion hm

theorem winchEncoder_holds (h : WinchHolds c w) (a b : Level) : WinchHolds c (winchEncoder c a b w).winch := by
  have hpaired : WinchHolds c (paired a b w) := ⟨{ h.1 with toWinchBase := { h.1.toWinchBase with } }, h.2.stall, h.2.noMotion⟩
  by_cases hcounted : encoderStep w a b ≠ 0 ∧ (w.line + encoderStep w a b).natAbs ≤ 65535
  · rw [winchEncoder_counted c hcounted, winchCounted_eq]
    have hcount := countedWinch_holds hpaired hcounted.2
    have hend := lineEndStep_holds hcount (encoderStep w a b)
    split
    · exact winchFaulted_holds hend.1 hend.2 nofun
    · exact hend
  · rw [winchEncoder_ignored c hcounted]
    exact hpaired

theorem homed_holds (h : WinchHolds c w) : WinchHolds c { w with line := 0, homed := true } :=
  ⟨h.1.recounted (Nat.zero_le _) true, h.2.stall, h.2.noMotion⟩

theorem winchHomeEvent_holds (h : WinchHolds c w) : WinchHolds c (winchHomeEvent c w).winch := by
  by_cases hst : w.state = .haulIn
  · obtain ⟨hcause, hfurther⟩ := h.1.unfaulted (by rw [hst]; exact nofun)
    have hbase : WinchBase c (homedWinch w) := { h.1.toWinchBase with line := Nat.zero_le _ }
    have hidle := hbase.idle rfl hcause hfurther
    rw [(winchHomeEvent_hauling c hst).1]
    refine ⟨hidle, ?_⟩
    have hstopped : DutyTimers (homedWinch w) := ⟨nofun, nofun⟩
    split
    · exact hstopped.same rfl rfl rfl
    · exact hstopped.same rfl rfl rfl
  · rw [winchHomeEvent_elsewhere c hst]
    exact homed_holds h

/-! ## The clutch and the actions (R102 to R104, R111) -/

theorem winchEngaged_holds (h : WinchHolds c w) : WinchHolds c (winchEngaged c w).winch := by
  by_cases hst : w.state = .clutchIn
  · obtain ⟨hcause, hfurther⟩ := h.1.unfaulted (by rw [hst]; exact nofun)
    refine ⟨?_, ?_⟩
    · rw [winchEngaged_engaging c hst]
      exact h.1.toWinchBase.idle (h.1.duty_zero (by rw [hst]; rfl)) hcause hfurther
    · rw [winchEngaged, if_pos hst]
      exact (toIdle_duty c (winchBegin w)).timers h.2
  · rw [winchEngaged_other c hst]
    exact h

theorem winchDisengaged_holds (h : WinchHolds c w) : WinchHolds c (winchDisengaged c w).winch := by
  by_cases hst : w.state = .clutchOut
  · have hstill : winchMoves w.state = false := by rw [hst]; rfl
    obtain ⟨hcause, hfurther⟩ := h.1.unfaulted (by rw [hst]; exact nofun)
    rw [winchDisengaged_released c hst]
    refine ⟨?_, h.2.stall, h.2.noMotion⟩
    exact { command := h.1.command
            clutch := fun ht => by
              show w.clutchWidth = c.record.releasePosition
              rw [h.1.clutch ht, positionFor, hst]
              rfl
            request := h.1.request
            line := h.1.line
            duty := fun hne => absurd (h.1.duty_zero hstill) hne
            target := fun hne => absurd (h.1.target_zero (not_hauling_of_still hstill)) hne
            demand := fun hne => absurd rfl hne
            direction := rfl
            running := fun _ => h.1.running (.inr (by rw [hst]; rfl))
            clutchTimer := nofun
            fault := iff_of_false nofun fun hne => hne hcause
            further := fun hf => nomatch hfurther.symm.trans hf }
  · rw [winchDisengaged_other c hst]
    exact h

theorem winchLineEvent_holds (h : WinchHolds c w) (n : Fin 4) (active : Bool) :
    WinchHolds c (winchLineEvent n active c w).winch := by
  unfold winchLineEvent
  split_ifs
  · exact winchHomeEvent_holds h
  · exact h
  · exact winchEngaged_holds h
  · exact winchDisengaged_holds h
  · exact h

theorem winchEnterSetup_holds (h : WinchHolds c w) : WinchHolds c (winchEnterSetup c w).winch := by
  unfold winchEnterSetup
  split
  · next hst =>
    have hblocked : WinchFits c { w with releaseBlock := true } := { h.1 with toWinchBase := { h.1.toWinchBase with } }
    exact ⟨toClutchIn_fits (x := winchBegin _) hblocked hst,
      (toClutchIn_duty c (winchBegin { w with releaseBlock := true })).timers (h.2.same rfl rfl rfl)⟩
  · exact h

theorem winchCleared_holds (h : WinchHolds c w) (hallowed : clearAllowed c w = true) : WinchHolds c (winchCleared c w).winch := by
  obtain ⟨hst, -, -⟩ := (clearAllowed_iff c w).1 hallowed
  have hbase : WinchBase c (unfaulted w) := { h.1.toWinchBase with }
  have hduty := h.1.duty_zero (by rw [hst]; rfl)
  have htarget := h.1.target_zero (by rw [hst]; rfl)
  rw [winchCleared_winch]
  by_cases he : c.engaged = true
  · rw [if_pos he]
    refine ⟨hbase.idle hduty rfl rfl, ?_⟩
    split
    · exact h.2.same rfl rfl rfl
    · exact h.2.same rfl rfl rfl
  · rw [if_neg he]
    exact ⟨engagingWinch_fits hbase hduty htarget rfl rfl, h.2.same rfl rfl rfl⟩

/-! ## The ramp tick (R89, R107, R108) -/

theorem rampMove_fits (h : WinchFits c w) : WinchFits c (rampMove c w) where
  toWinchBase := { h.toWinchBase with }
  duty hne := by
    by_contra hst
    have hstill : winchMoves w.state = false := eq_false_of_ne_true hst
    refine hne ?_
    simp only [rampMove, hstill]
    exact h.duty_zero hstill
  target hne := by_contra fun hst => hne (if_neg hst)
  demand := h.demand
  direction := h.direction
  running := h.running
  clutchTimer := h.clutchTimer
  fault := h.fault
  further := h.further

theorem rampedWinch_fits (h : WinchFits c w) : WinchFits c (rampedWinch c w) := by
  unfold rampedWinch
  split
  · next hst =>
    obtain ⟨hcause, hfurther⟩ := h.unfaulted (by rw [hst.1]; exact nofun)
    rw [toIdle_winch]
    exact (rampMove_fits h).toWinchBase.idle hst.2 hcause hfurther
  · exact rampMove_fits h

theorem winchTick_holds (h : WinchHolds c w) (hr : winchInRange c.record = true) : WinchHolds c (winchTick c w).winch := by
  have hleast : 100 ≤ c.record.noMotionDuty := by
    simp only [winchInRange, between, Bool.and_eq_true, decide_eq_true_eq] at hr
    omega
  have hramped := rampedWinch_fits h.1
  have htimers : WinchFits c (rampTimers c (rampedWinch c w)) := { hramped with toWinchBase := { hramped.toWinchBase with } }
  rw [winchTick_winch]
  refine ⟨{ htimers with toWinchBase := { htimers.toWinchBase with }, demand := fun hne => by_contra fun hst => hne (if_neg hst) }, fun hs => ?_, fun hm => ?_⟩
  · simp only [rampTimers] at hs ⊢
    split at hs
    · cases hs
    · next hne => exact Nat.pos_of_ne_zero hne
  · simp only [rampTimers] at hm ⊢
    split at hm
    · omega
    · cases hm

end

end Sys2Proof.Machine

/-! # Sitting 5: the winch stays sound through every step (O59: R86 to R111) -/

namespace Sys2Proof.Machine

/-! ## The winch in the part -/

/-- WCH is sound under the record, the run state and the protection state of the part. -/
def WinchStands (s : State) : Prop := winchInRange s.tables.winch = true ∧ WinchHolds (winchContext s) s.winch

theorem WinchHolds.congr {c c' : WinchContext} {w : Winch} (h : WinchHolds c w) (hrecord : c'.record = c.record)
    (hrun : c'.run = c.run) (hprot : c'.prot = c.prot) : WinchHolds c' w := by
  refine ⟨h.1.changed ?_ ?_ ?_ ?_ rfl, h.2⟩
  · rw [hrun]; exact h.1.command
  · rw [hrecord]; exact h.1.request
  · rw [hrecord]; exact fun _ hc => hc
  · rw [hrun, hprot]; exact fun _ hr => hr

/-- A change that leaves WCH sound in the context `c`, which is the one it finds after the change. -/
theorem WinchStands.of_holds {s t : State} (hs : WinchStands s) {c : WinchContext} {w : Winch} (h : WinchHolds c w)
    (hw : t.winch = w) (htables : t.tables = s.tables) (hrecord : c.record = s.tables.winch)
    (hrun : t.link.run = c.run) (hprot : t.protection.state = c.prot) : WinchStands t := by
  refine ⟨by rw [htables]; exact hs.1, ?_⟩
  rw [hw]
  exact h.congr (by rw [hrecord, ← htables]; rfl) hrun hprot

theorem WinchStands.of_same {s t : State} (hs : WinchStands s) (hw : t.winch = s.winch) (htables : t.tables = s.tables)
    (hrun : t.link.run = s.link.run) (hprot : t.protection.state = s.protection.state) : WinchStands t :=
  hs.of_holds hs.2 hw htables rfl hrun hprot

theorem onWinchEvent_stands {s : State} (hs : WinchStands s) {f : WinchContext → Winch → WinchStep}
    (hf : WinchHolds (winchContext s) (f (winchContext s) s.winch).winch) : WinchStands (onWinchEvent f s) :=
  hs.of_holds hf (by simp) (by simp) rfl (by simp; rfl) (by simp; rfl)

theorem functionUpdate_stands {s : State} (hs : WinchStands s) (r : FunctionRecord) : WinchStands (functionUpdate r s) :=
  hs.of_holds (winchUpdate_holds hs.2 r) (functionUpdate_winch_eq r s) (by simp) rfl (by simp; rfl) (by simp; rfl)

theorem deliverRun_stands {s : State} (hs : WinchStands s) {n : RunState}
    (hn : n ≠ .run → n ≠ .failsafe → released s.winch.state = false) : WinchStands (deliverRun n s) :=
  hs.of_holds (winchRunChange_holds hs.2 n hn) (deliverRun_winch_eq n s) (by simp) rfl (by simp) (by simp; rfl)

theorem deliverProtection_stands {s : State} (hs : WinchStands s) (p : Protection) : WinchStands (deliverProtection p s) :=
  hs.of_holds (winchProtChange_holds hs.2 p.state) (deliverProtection_winch_eq p s) (by simp) rfl (by simp; rfl) (by simp)

theorem evaluatePass_stands {s : State} (hs : WinchStands s) (l : Vector ScanEntry 8) : WinchStands (evaluatePass l s) := by
  rcases evaluatePass_cases l s with ⟨p, heq, hstate, -⟩ | ⟨p, c, heq, -⟩
  · rw [heq]
    exact hs.of_same rfl rfl rfl hstate
  · rw [heq]
    exact deliverProtection_stands hs p

theorem conversionEnded_stands {s : State} (hs : WinchStands s) (x : SenseInputs) : WinchStands (conversionEnded x s) := by
  have hhanded (q : Quantity) (v : Int) (u : State) (hu : WinchStands u) : WinchStands (handValue q v u) := by
    unfold handValue
    split
    · exact onWinchEvent_stands hu (winchCurrent_holds hu.2 v)
    · exact onWinchEvent_stands hu (winchTemp_holds hu.2 v)
    · exact hu
  simp only [conversionEnded, completeSlot]
  repeat' split
  · exact hs
  · exact hs
  · exact hhanded _ _ _ (hs.of_same rfl rfl rfl rfl)
  · exact evaluatePass_stands (hhanded _ _ (putScanner _ _ _ s) (hs.of_same rfl rfl rfl rfl)) _
  · exact hs.of_same rfl rfl rfl rfl

theorem lineEvent_stands {s : State} (hs : WinchStands s) (n : Fin 4) (active : Bool) : WinchStands (lineEvent n active s) := by
  have hedge : WinchStands { s with inputs := edgeAtEvent n active s.inputs } := hs.of_same rfl rfl rfl rfl
  exact (onWinchEvent_stands hedge (winchLineEvent_holds hedge.2 n active)).of_same
    (by simp only [lineEvent, lightEvent_winch]) (by simp) (by simp) (by simp)

theorem lineRewritten_stands {s : State} (hs : WinchStands s) (l : Level) (n : Fin 4) : WinchStands (lineRewritten l n s) := by
  unfold lineRewritten
  split
  · exact hs
  · exact lineEvent_stands hs n _

theorem takeSample_stands {s : State} (hs : WinchStands s) (v : Level) (n : Fin 4) : WinchStands (takeSample v n s) := by
  have hline (l : Line) : WinchStands (putLine n l s) := hs.of_same rfl rfl rfl rfl
  unfold takeSample
  dsimp only
  split
  · exact lineEvent_stands (hline _) n _
  · exact hline _

/-! ## New tables (R88, R186) -/

theorem tablesWith_winch {t u : Tables} {id : TableId} {i : Nat} {e : List Byte} (h : tablesWith t id i e = some u)
    (hid : id ≠ .winch) : u.winch = t.winch := by
  cases id
  case winch => exact absurd rfl hid
  all_goals
    simp only [tablesWith, Option.map_eq_some_iff] at h
    obtain ⟨_, -, rfl⟩ := h
    rfl

theorem tablesWith_winchInRange {t u : Tables} {i : Nat} {e : List Byte} (h : tablesWith t .winch i e = some u) :
    winchInRange u.winch = true := by
  obtain ⟨x, _, hx, rfl⟩ := taken_entry h
  exact hx

/-- A new WINCH record in force, which WCH has taken. -/
theorem winchWritten_stands {s : State} (hs : WinchStands s) {u : State} (hw : u.winch = s.winch)
    (hrecord : winchInRange u.tables.winch = true) (hrun : u.link.run = s.link.run)
    (hprot : u.protection.state = s.protection.state) : WinchStands (onWinchEvent winchWritten u) := by
  have hcontext : winchContext u = { winchContext s with
      record := u.tables.winch, grant := (winchContext u).grant, homeActive := (winchContext u).homeActive
      engaged := (winchContext u).engaged } := by
    rw [winchContext, hrun, hprot]
    rfl
  have hheld : WinchHolds { winchContext s with
      grant := (winchContext u).grant, homeActive := (winchContext u).homeActive
      engaged := (winchContext u).engaged } s.winch := hs.2.congr rfl rfl rfl
  refine ⟨by simpa using hrecord, ?_⟩
  rw [onWinchEvent_winch, hw, hcontext]
  exact (winchWritten_holds hheld u.tables.winch).congr (by simp [winchContext]) (by simp [winchContext, hrun])
    (by simp [winchContext, hprot])

theorem putTables_stands {s : State} (hs : WinchStands s) {t : Tables} (ht : t.winch = s.tables.winch) :
    WinchStands (putTables t s) :=
  ⟨by rw [show (putTables t s).tables.winch = s.tables.winch from ht]; exact hs.1, hs.2.congr ht rfl rfl⟩

theorem entryWritten_stands {s : State} (hs : WinchStands s) {id : TableId} {i : Nat} {e : List Byte} {t : Tables}
    (ht : tablesWith s.tables id i e = some t) : WinchStands (entryWritten id i t s) := by
  by_cases hid : id = .winch
  · subst hid
    exact winchWritten_stands hs rfl (tablesWith_winchInRange ht) rfl rfl
  have htables := putTables_stands hs (tablesWith_winch ht hid)
  unfold entryWritten ownerWritten
  cases id
  case winch => exact absurd rfl hid
  case input =>
    dsimp only
    split
    · exact lineRewritten_stands htables _ _
    · exact htables
  case cue =>
    dsimp only
    split
    · exact htables.of_same (by simp) (by simp) (by simp) (by simp)
    · exact htables
  case protect => exact htables.of_same rfl rfl rfl rfl
  all_goals exact htables.of_same (by simp) (by simp) (by simp) (by simp)

theorem defaultTables_winchInRange : winchInRange defaultTables.winch = true := by decide

theorem defaultsRestored_stands {s : State} (hs : WinchStands s) : WinchStands (defaultsRestored s) := by
  have howners : WinchStands (ownersRestored s) := by
    have hwritten := winchWritten_stands hs (u := driveCompute (putSteering (steerFile defaultTables.steer s.steering)
      (putTables defaultTables s))) (by simp) (by rw [driveCompute_tables, putSteering_tables]; exact defaultTables_winchInRange) (by simp) (by simp)
    generalize hu : driveCompute (putSteering (steerFile defaultTables.steer s.steering) (putTables defaultTables s)) = u at hwritten
    have hwinch : (ownersRestored s).winch = (onWinchEvent winchWritten u).winch := by
      rw [← hu]
      simp only [ownersRestored, recomputeCap, wakeScanner_winch, putLights_winch]
      rfl
    refine hwritten.of_same hwinch ?_ ?_ ?_
    · rw [← hu]; simp [ownersRestored]
    · rw [← hu]; simp [ownersRestored]
    · rw [← hu]; simp [ownersRestored]
  exact lineRewritten_fold_keeps (R := fun x y => WinchStands x → WinchStands y) (fun _ => id) (fun k h => k ∘ h) s.tables.input
    (fun n x hx => lineRewritten_stands hx _ n) (List.finRange 4) (ownersRestored s) howners

/-! ## Load complete and every step (R115) -/

/-- WCH at load complete: at rest before, it stands in IDLE, or in CLUTCH_IN with its timer (R115). -/
theorem winchPlaced_holds {c c' : WinchContext} {w : Winch} (h : WinchHolds c w) (hstate : w.state = .idle)
    (htimer : w.clutchTimer.running = false) (hcommand : w.command = 0) (a b : Level)
    (hrequest : w.request = freespoolRequest c'.record w.record) : WinchHolds c' (winchPlaced c' a b w) := by
  have hstill : winchMoves w.state = false := by rw [hstate]; rfl
  obtain ⟨hcause, hfurther⟩ := h.1.unfaulted (by rw [hstate]; exact nofun)
  have hrests : (winchPlaced c' a b w).state = .idle ∨ (winchPlaced c' a b w).state = .clutchIn := by
    unfold winchPlaced
    dsimp only
    split
    · exact .inl rfl
    · exact .inr rfl
  have hstands : winchMoves (winchPlaced c' a b w).state = false ∧ released (winchPlaced c' a b w).state = false
      ∧ (winchPlaced c' a b w).state ≠ .fault := by
    rcases hrests with hr | hr <;> rw [hr] <;> exact ⟨rfl, rfl, nofun⟩
  obtain ⟨hmoves, hreleased, hfault⟩ := hstands
  refine ⟨⟨⟨fun _ => hcommand, fun _ => ?_, hrequest, h.1.line⟩, fun hne => absurd (h.1.duty_zero hstill) hne,
    fun hne => absurd (h.1.target_zero (not_hauling_of_still hstill)) hne,
    fun hne => absurd (h.1.demand_zero (not_hauling_of_still hstill)) hne, ?_, fun hst => ?_, fun ht => ?_,
    iff_of_false hfault fun hne => hne hcause, fun hf => (nomatch hfurther.symm.trans hf)⟩, h.2.stall, h.2.noMotion⟩
  · rw [positionFor, hreleased]
    rfl
  · have hdir := h.1.direction
    rw [hstate] at hdir
    rcases hrests with hr | hr <;> rw [hr] <;> exact hdir
  · rw [not_hauling_of_still hmoves, hreleased] at hst
    rcases hst with hst | hst <;> cases hst
  · refine .inr ?_
    simp only [winchPlaced] at ht ⊢
    split at ht
    · rw [htimer] at ht
      cases ht
    · next he => exact if_neg he

theorem loadCompleted_stands {s : State} (hup : StartUp s) (hs : WinchStands s) (hl : s.store.loaded = false) (v : Vector Level 4)
    (a b : Level) : WinchStands (loadCompleted v a b s) := by
  have hinit : s.link.run = .init := hup.initLoading.2 hl
  obtain ⟨hstate, htimer, -, -⟩ := hup.winch hl
  have hnone (r : WinchRecord) : freespoolRequest r s.winch.record = false := by
    rw [(hup.records hl).2]
    unfold freespoolRequest
    split <;> rfl
  have htables : (loadCompleted v a b s).tables = (loadTables s).tables := loadCompleted_tables v a b s
  have hwinch : ∃ c : WinchContext, c.record = (loadTables s).tables.winch ∧ c.run = .wait ∧ c.prot = s.protection.state
      ∧ (loadCompleted v a b s).winch = winchPlaced c a b s.winch := by
    refine ⟨winchContext (driveCompute { loadBegun v s with drive := driveStarted (loadBegun v s) }), ?_, ?_, ?_, ?_⟩
    · simp [winchContext, loadBegun]
    · simp [winchContext, loadBegun]
    · simp [winchContext, loadBegun]
    · rw [loadCompleted_eq]
      simp [batteryLoaded, winchLoaded, loadBegun]
  obtain ⟨c, hrecord, hrun, hprot, hwinch⟩ := hwinch
  have hvalid : winchInRange (loadTables s).tables.winch = true :=
    (validTables_of_tablesValid (loadTables_valid s)).winch
  refine ⟨by rw [htables]; exact hvalid, ?_⟩
  have hplaced : WinchHolds c (winchPlaced c a b s.winch) := by
    refine winchPlaced_holds hs.2 hstate htimer (hs.2.1.command ?_) a b ?_
    · show s.link.run ≠ .run
      rw [hinit]
      exact nofun
    · rw [hnone, hs.2.1.request, hnone]
  rw [hwinch]
  refine hplaced.congr ?_ ?_ ?_
  · rw [hrecord, ← htables]; rfl
  · rw [hrun, show (winchContext (loadCompleted v a b s)).run = (loadCompleted v a b s).link.run from rfl, loadCompleted_eq]
    simp [batteryLoaded, loadBegun]
  · rw [hprot, show (winchContext (loadCompleted v a b s)).prot = (loadCompleted v a b s).protection.state from rfl,
      loadCompleted_protection]

theorem Move.winchStands {c : Instr} {s t : State} (h : Move c s t) (hup : StartUp s) (hs : WinchStands s) : WinchStands t := by
  cases h
  case update p hrun => exact functionUpdate_stands hs _
  case failsafeValues hrun => exact functionUpdate_stands hs _
  case enterRun hrun => exact deliverRun_stands hs fun hne => absurd rfl hne
  case leaveRun hrun => exact deliverRun_stands hs fun _ hne => absurd rfl hne
  case enterSetup hrun hwinch =>
    exact deliverRun_stands hs fun _ _ => by rcases hwinch with hw | hw <;> rw [hw] <;> rfl
  case leaveSetup hrun =>
    refine deliverRun_stands hs fun _ _ => Bool.eq_false_iff.2 fun hr => ?_
    have hrunning : s.link.run = .run := (hs.2.1.running (.inr hr)).1
    rw [hrun] at hrunning
    cases hrunning
  case winch hf =>
    refine onWinchEvent_stands hs ?_
    cases hf with
    | enterSetup => exact winchEnterSetup_holds hs.2
    | homed => exact homed_holds hs.2
    | clear _ hallowed => exact winchCleared_holds hs.2 hallowed
    | tick => exact winchTick_holds hs.2 hs.1
    | stall => exact stallExpired_holds hs.2
    | noMotion => exact noMotionExpired_holds hs.2
    | clutch => exact clutchExpired_holds hs.2
  case encoder a b hc hticking => exact onWinchEvent_stands hs (winchEncoder_holds hs.2 a b)
  case entry ht => exact entryWritten_stands hs ht
  case restore => exact defaultsRestored_stands hs
  case clearProtect => exact deliverProtection_stands hs _
  case conversion => exact conversionEnded_stands hs _
  case sample v n _ => exact takeSample_stands hs v n
  case load hheld hloaded => exact loadCompleted_stands hup hs hloaded _ _ _
  case link l hrun => exact hs.of_same rfl rfl hrun rfl
  all_goals exact hs.of_same (by simp) (by simp) (by simp) (by simp)

/-- After a reset WCH is at rest; a soft reset keeps the line count (R114). -/
theorem winchStands_resetLeaving {s : State} (hs : WinchStands s) (k : ResetKind) (d : Bool) :
    WinchStands (resetLeaving k d s) := by
  have hrest (n : Int) (homed : Bool) (hn : n.natAbs ≤ 65535) :
      WinchHolds (winchContext (resetLeaving k d s)) { winchAfterReset with line := n, homed := homed } :=
    ⟨⟨⟨fun _ => rfl, nofun, rfl, hn⟩, fun hne => absurd rfl hne, fun hne => absurd rfl hne, fun hne => absurd rfl hne, rfl,
      (Or.elim · nofun nofun), nofun, iff_of_false nofun fun hne => hne rfl, nofun⟩, nofun, nofun⟩
  refine ⟨defaultTables_winchInRange, ?_⟩
  cases k
  · exact hrest 0 false (Nat.zero_le _)
  · exact hrest 0 false (Nat.zero_le _)
  · exact hrest s.winch.line s.winch.homed hs.2.1.line

theorem step_winchSound {s t : State} (hup : StartUp s) (hs : WinchSound s) (h : step s = .next t) : WinchSound t := by
  have hboth := step_keeps (P := fun x => StartUp x ∧ WinchStands x) (fun _ _ hx => ⟨{ hx.1 with }, hx.2.of_same rfl rfl rfl rfl⟩)
    (fun c x y hm hx => ⟨hm.startUp hx.1, hm.winchStands hx.1 hx.2⟩)
    (fun k d x hx => ⟨startUp_resetLeaving k d x, winchStands_resetLeaving hx.2 k d⟩) ⟨hup, (winchSound_iff s).1 hs⟩ h
  exact (winchSound_iff t).2 hboth.2

/-- Settles O59: the step lemma, and the bridge mode of each state by its direction. -/
theorem winchIsKept : Obligations.WinchIsKept := by
  refine ⟨fun s t => step_winchSound, fun s hs => ?_⟩
  have hdir := hs.direction
  unfold bridgeCycle bridgeMode
  cases hst : s.winch.state with
  | haulIn | payOut =>
    rw [hst] at hdir
    cases hd : s.winch.direction <;> rw [hd] at hdir <;> cases hdir
    rfl
  | rampDown =>
    rw [hst] at hdir
    cases hd : s.winch.direction <;> rw [hd] at hdir <;> cases hdir <;> rfl
  | idle | clutchOut | freespool | clutchIn | fault =>
    rw [hst] at hdir
    cases hd : s.winch.direction <;> rw [hd] at hdir <;> cases hdir
    rfl

end Sys2Proof.Machine

/-! # Sitting 5: the active cue list through every event of LTC (R124 to R131) -/

namespace Sys2Proof.Machine

/-! ## What the list goes through (R124 to R130) -/

/-- From `l` the list has lost cues, admitted cues that `C` allows and that were not in it, and had cues replaced. -/
inductive ListMoves (cues : Vector CueEntry 16) (C : Fin 16 → Prop) (l : List CueInstance) : List CueInstance → Prop where
  | refl : ListMoves cues C l l
  | remove {m : List CueInstance} (h : ListMoves cues C l m) (p : CueInstance → Bool) : ListMoves cues C l (m.filter p)
  | asked {r : Roster} (h : ListMoves cues C l r.active) {k : Fin 16} (hC : C k) (hidle : isActive k r.active = false) :
      ListMoves cues C l (admitCue cues k r).active
  | replace {m : List CueInstance} (h : ListMoves cues C l m) (i : CueInstance) :
      ListMoves cues C l (replaceInstance i.cue i m)

section
variable {cues : Vector CueEntry 16} {C : Fin 16 → Prop} {l : List CueInstance}

theorem ListMoves.startCue {r : Roster} (h : ListMoves cues C l r.active) {kept : Vector Bool 33} {chained : Bool} {k : Fin 16}
    (hC : cues[k].enabled = true → (chained = true → cues[k].mode = .whileTrue → triggerTrue kept cues[k] = true) → C k) :
    ListMoves cues C l (startCue cues kept chained k r).active := by
  unfold Machine.startCue
  split_ifs with henabled hactive hchained
  · exact h
  · exact h
  · exact h
  · refine h.asked (hC (by simpa using henabled) fun hc hm => ?_) (Bool.eq_false_iff.2 hactive)
    have hallowed : cues[k].mode = .whileTrue → triggerTrue kept cues[k] = true := by simpa [hc] using hchained
    exact hallowed hm

theorem ListMoves.startCues {r : Roster} (h : ListMoves cues C l r.active) {kept : Vector Bool 33} {ks : List (Fin 16)}
    (hC : ∀ k ∈ ks, C k) : ListMoves cues C l (startCues cues kept ks r).active := by
  induction ks generalizing r with
  | nil => exact h
  | cons k ks ih =>
    exact ih (h.startCue fun _ _ => hC k List.mem_cons_self) fun j hj => hC j (List.mem_cons_of_mem k hj)

theorem ListMoves.completeCue {r : Roster} (h : ListMoves cues C l r.active) {kept : Vector Bool 33} (k : Fin 16)
    (hchained : ∀ j, (cues[j].mode = .whileTrue → triggerTrue kept cues[j] = true) → C j)
    (hedge : ∀ j e, cues[j].trigger = some (.edge e) → C j) : ListMoves cues C l (completeCue cues kept k r).active := by
  unfold Machine.completeCue
  dsimp only
  refine ListMoves.startCues ?_ fun j hj => ?_
  · have hleft := (h.remove fun i => i.cue != k).remove fun i => !removedAt cues kept kept (some (.cueDone k)) i
    split
    · exact ListMoves.startCue (r := ⟨_, r.started, true⟩) hleft fun _ hc => hchained _ (hc rfl)
    · exact hleft
  · have hhappens : happens kept kept (some (.cueDone k)) cues[j].trigger = true := by
      have hmem := (List.mem_filter.1 hj).2
      simp only [Bool.and_eq_true] at hmem
      exact hmem.1.2
    cases htrigger : cues[j].trigger with
    | none => rw [htrigger] at hhappens; cases hhappens
    | some src =>
      cases src with
      | level s =>
        rw [htrigger, happens_level, rises] at hhappens
        cases hkept : keptValue kept s <;> rw [hkept] at hhappens <;> cases hhappens
      | edge e => exact hedge j e htrigger

theorem ListMoves.countDown {r : Roster} (h : ListMoves cues C l r.active) {kept : Vector Bool 33} (i : CueInstance)
    (hchained : ∀ j, (cues[j].mode = .whileTrue → triggerTrue kept cues[j] = true) → C j)
    (hedge : ∀ j e, cues[j].trigger = some (.edge e) → C j) : ListMoves cues C l (countDown cues kept i r).active := by
  simp only [Machine.countDown]
  split
  · split
    · exact h.replace { i with phaseOn := false, timeLeft := _ }
    · split
      · split
        · exact h.completeCue i.cue hchained hedge
        · exact h.replace { i with phaseOn := true, timeLeft := _, cyclesLeft := _ }
      · exact h.replace { i with phaseOn := true, timeLeft := _ }
  · exact h.replace { i with timeLeft := i.timeLeft - 1 }

theorem ListMoves.walkCues {r : Roster} (h : ListMoves cues C l r.active) {kept : Vector Bool 33} (ks : List (Fin 16))
    (hchained : ∀ j, (cues[j].mode = .whileTrue → triggerTrue kept cues[j] = true) → C j)
    (hedge : ∀ j e, cues[j].trigger = some (.edge e) → C j) : ListMoves cues C l (walkCues cues kept ks r).active := by
  induction ks generalizing r with
  | nil => exact h
  | cons k ks ih =>
    unfold Machine.walkCues
    split
    · exact ih h
    · split
      · exact ih h
      · exact ih (h.countDown _ hchained hedge)

/-- The cues of the list before and of those admitted. -/
theorem ListMoves.cue_mem {m : List CueInstance} (h : ListMoves cues C l m) {i : CueInstance} (hi : i ∈ m) :
    i.cue ∈ l.map (·.cue) ∨ C i.cue := by
  induction h generalizing i with
  | refl => exact .inl (List.mem_map.2 ⟨i, hi, rfl⟩)
  | remove _ p ih => exact ih (List.mem_filter.1 hi).1
  | @asked r _ k hC hidle ih =>
    have hfresh (j : CueInstance) (hj : j ∈ [newInstance cues k]) : C j.cue := by
      rw [List.mem_singleton.1 hj]
      exact hC
    unfold admitCue at hi
    split at hi
    · exact (List.mem_append.1 hi).elim ih fun hj => .inr (hfresh i hj)
    · split at hi
      · exact ih hi
      · split at hi
        · exact (List.mem_append.1 hi).elim (fun hj => ih (List.mem_filter.1 hj).1) fun hj => .inr (hfresh i hj)
        · exact ih hi
  | replace _ j ih =>
    obtain ⟨x, hx, hxi⟩ := List.mem_map.1 hi
    split at hxi
    · next hcue =>
      rw [← hxi, ← beq_iff_eq.1 hcue]
      exact ih hx
    · exact hxi ▸ ih hx

/-! ## At most 8, and never two of one cue (R126) -/

/-- The list holds at most 8, of distinct cues. -/
def ListSound (l : List CueInstance) : Prop := l.length ≤ 8 ∧ (l.map (·.cue)).Nodup

theorem listSound_nil : ListSound [] := ⟨Nat.zero_le _, List.nodup_nil⟩

theorem ListSound.filter (h : ListSound l) (p : CueInstance → Bool) : ListSound (l.filter p) :=
  ⟨(List.length_filter_le p l).trans h.1, h.2.sublist (List.filter_sublist.map _)⟩

theorem ListSound.admitted {k : Fin 16} (h : ListSound l) (hlen : l.length < 8) (hidle : isActive k l = false) :
    ListSound (l ++ [newInstance cues k]) := by
  refine ⟨by rw [List.length_append, List.length_singleton]; omega, ?_⟩
  rw [List.map_append, List.nodup_append]
  refine ⟨h.2, List.nodup_singleton _, fun a ha b hb hab => ?_⟩
  rw [List.mem_singleton.1 hb] at hab
  have hactive : isActive k l = true := (isActive_iff l).2 (by rw [← show a = k from hab]; exact ha)
  rw [hidle] at hactive
  cases hactive

theorem filter_length_lt {v : CueInstance} (hv : v ∈ l) : (l.filter fun i => i.cue != v.cue).length < l.length := by
  refine Nat.lt_of_le_of_ne (List.length_filter_le _ l) fun heq => ?_
  have hall := List.length_filter_eq_length_iff.1 heq v hv
  simp at hall

theorem ListMoves.sound {m : List CueInstance} (h : ListMoves cues C l m) (hl : ListSound l) : ListSound m := by
  induction h with
  | refl => exact hl
  | remove _ p ih => exact ih.filter p
  | @asked r _ k _ hidle ih =>
    unfold admitCue
    split
    · next hlen => exact ih.admitted hlen hidle
    · split
      · exact ih
      · next v hv =>
        split
        · refine (ih.filter _).admitted (lt_of_lt_of_le (filter_length_lt (victimOf_mem cues hv)) ih.1) ?_
          refine Bool.eq_false_iff.2 fun hactive => ?_
          have hmem := (isActive_iff _).1 hactive
          obtain ⟨x, hx, hxk⟩ := List.mem_map.1 hmem
          have hactive' : isActive k r.active = true := (isActive_iff _).2 (List.mem_map.2 ⟨x, (List.mem_filter.1 hx).1, hxk⟩)
          rw [hidle] at hactive'
          cases hactive'
        · exact ih
  | @replace m _ i ih =>
    have hcues : (replaceInstance i.cue i m).map (·.cue) = m.map (·.cue) := by
      rw [replaceInstance, List.map_map]
      refine List.map_congr_left fun x _ => ?_
      show (if x.cue == i.cue then i else x).cue = x.cue
      split
      · next heq => exact (beq_iff_eq.1 heq).symm
      · rfl
    exact ⟨by rw [replaceInstance, List.length_map]; exact ih.1, by rw [hcues]; exact ih.2⟩

end

/-! ## An event that changes nothing (R124) -/

section
variable {cues : Vector CueEntry 16} {kept : Vector Bool 33} {r : Roster}

theorem admitCue_unchanged {k : Fin 16} (h : (admitCue cues k r).changed = false) : admitCue cues k r = r := by
  unfold admitCue at h ⊢
  by_cases hlen : r.active.length < Config.maxInstances
  · rw [if_pos hlen] at h
    cases h
  · rw [if_neg hlen] at h ⊢
    split at h
    · rfl
    · next v _ =>
      by_cases hlower : cues[v.cue].priority < cues[k].priority
      · rw [if_pos hlower] at h
        cases h
      · exact if_neg hlower

theorem startCue_unchanged {chained : Bool} {k : Fin 16} (h : (startCue cues kept chained k r).changed = false) :
    startCue cues kept chained k r = r := by
  unfold startCue at h ⊢
  split_ifs at h ⊢
  · rfl
  · rfl
  · rfl
  · exact admitCue_unchanged h

theorem startCues_unchanged {ks : List (Fin 16)} (h : (startCues cues kept ks r).changed = false) :
    startCues cues kept ks r = r := by
  induction ks generalizing r with
  | nil => rfl
  | cons k ks ih =>
    have hrest : startCues cues kept (k :: ks) r = startCue cues kept false k r := ih h
    rw [hrest] at h ⊢
    exact startCue_unchanged h

theorem rosterAt_unchanged {old new : Vector Bool 33} {fired : Option EdgeSource} {l : List CueInstance}
    (h : (rosterAt cues old new fired l).changed = false) : (rosterAt cues old new fired l).active = l := by
  unfold rosterAt at h ⊢
  have hsame := startCues_unchanged h
  rw [hsame] at h
  rw [hsame]
  refine List.filter_eq_self.2 fun i hi => ?_
  have hnone := List.any_eq_false.1 h i hi
  simpa using hnone

end

end Sys2Proof.Machine

/-! # Sitting 5: what LTC takes at each change of the part (R119, R121, R124, R128, R131, R135) -/

namespace Sys2Proof.Machine

/-! ## LTC's own operations, under the tables and the grant in force -/

/-- One operation of LTC. -/
inductive LightStep (t : Tables) (g : Nat) : Lights → Lights → Prop where
  | event (x : Lights) (m : LightMsg) : LightStep t g x (lightsEvent t g false m x)
  | update (x : Lights) (m : LightMsg) (scene : Fin 8) :
      LightStep t g x (lightsEvent t g (x.scene != scene) m { x with scene := scene })
  | recompose (x : Lights) : LightStep t g x (compose t g x)
  | cueWritten (x : Lights) (k : Fin 16) : LightStep t g x (lightsCueWritten t g k x)
  | restored (x : Lights) : LightStep t g x (lightsRestored t g x)
  | tick (x : Lights) : LightStep t g x (lightsTick t g x)
  | start (x : Lights) (m : LightMsg) : LightStep t g x (lightsEvent t g true m { x with ticking := true, pwm := true })

/-- Operations of LTC one after another. -/
abbrev LightRun (t : Tables) (g : Nat) : Lights → Lights → Prop := Relation.ReflTransGen (LightStep t g)

theorem LightRun.keeps {t : Tables} {g : Nat} {P : Lights → Prop} (hP : ∀ x y, LightStep t g x y → P x → P y) {x y : Lights}
    (h : LightRun t g x y) (hx : P x) : P y := by
  induction h with
  | refl => exact hx
  | tail _ hstep ih => exact hP _ _ hstep ih

/-- From `s` to `t`, under the same tables and grants, LTC's operations alone have changed LTC. -/
structure LightsMove (s t : State) : Prop where
  run : LightRun s.tables (grantOf s 3) s.lights t.lights
  tables : t.tables = s.tables
  grant : t.budget.grant = s.budget.grant

theorem LightsMove.of_eq {s t : State} (hlights : t.lights = s.lights) (htables : t.tables = s.tables)
    (hgrant : t.budget.grant = s.budget.grant) : LightsMove s t := ⟨by rw [hlights], htables, hgrant⟩

theorem LightsMove.refl (s : State) : LightsMove s s := .of_eq rfl rfl rfl

theorem LightsMove.after {s t u : State} (k : LightsMove t u) (h : LightsMove s t) : LightsMove s u := by
  obtain ⟨krun, ktables, kgrant⟩ := k
  rw [show grantOf t 3 = grantOf s 3 by rw [grantOf, h.grant]; rfl, h.tables] at krun
  exact ⟨h.run.trans krun, ktables.trans h.tables, kgrant.trans h.grant⟩

theorem lightEvent_move (m : LightMsg) (s : State) : LightsMove s (lightEvent m s) :=
  ⟨.single (.event s.lights m), by simp, putLights_grant _ s⟩

theorem lightEvents_move (ms : List LightMsg) (s : State) : LightsMove s (lightEvents ms s) := by
  induction ms generalizing s with
  | nil => exact .refl s
  | cons m ms ih => exact (ih (lightEvent m s)).after (lightEvent_move m s)

theorem putSteering_move (x : Steering) (s : State) : LightsMove s (putSteering x s) :=
  (lightEvents_move _ _).after (.of_eq rfl rfl (fileClaim_grant _ _ _ _))

theorem putDrive_move (x : Drive) (s : State) : LightsMove s (putDrive x s) :=
  (lightEvents_move _ _).after (.of_eq rfl rfl (fileClaim_grant _ _ _ _))

theorem onWinchEvent_move (f : WinchContext → Winch → WinchStep) (s : State) : LightsMove s (onWinchEvent f s) :=
  (lightEvents_move _ _).after (.of_eq rfl rfl (fileClaim_grant _ _ _ _))

theorem functionUpdate_move (r : FunctionRecord) (s : State) : LightsMove s (functionUpdate r s) := by
  have hlights (u : State) : LightsMove u (lightsUpdate r u) :=
    ⟨.single (.update u.lights _ (sceneOf r.lightSelBand)), by simp, putLights_grant _ u⟩
  exact (hlights _).after ((onWinchEvent_move _ _).after ((putDrive_move _ _).after ((putSteering_move _ _).after (.of_eq rfl rfl rfl))))

theorem deliverRun_move (n : RunState) (s : State) : LightsMove s (deliverRun n s) :=
  (lightEvent_move _ _).after ((onWinchEvent_move _ _).after ((putDrive_move _ _).after (.of_eq rfl rfl rfl)))

theorem deliverProtection_move (p : Protection) (s : State) : LightsMove s (deliverProtection p s) :=
  (lightEvent_move _ _).after ((onWinchEvent_move _ _).after ((putDrive_move _ _).after (.of_eq rfl rfl rfl)))

theorem conversionEnded_move (x : SenseInputs) (s : State) : LightsMove s (conversionEnded x s) := by
  have hhanded (q : Quantity) (v : Int) (u : State) : LightsMove u (handValue q v u) := by
    unfold handValue
    split
    · exact onWinchEvent_move _ u
    · exact onWinchEvent_move _ u
    · exact .refl u
  have hevaluated (l : Vector ScanEntry 8) (u : State) : LightsMove u (evaluatePass l u) := by
    rcases evaluatePass_cases l u with ⟨p, heq, -⟩ | ⟨p, c, heq, -⟩
    · rw [heq]; exact .of_eq rfl rfl rfl
    · rw [heq]; exact deliverProtection_move p u
  simp only [conversionEnded, completeSlot]
  repeat' split
  · exact .refl s
  · exact .refl s
  · exact (hhanded _ _ _).after (.of_eq rfl rfl rfl)
  · exact (hevaluated _ _).after ((hhanded _ _ _).after (.of_eq rfl rfl rfl))
  · exact .of_eq rfl rfl rfl

theorem lineEvent_move (n : Fin 4) (active : Bool) (s : State) : LightsMove s (lineEvent n active s) :=
  (lightEvent_move _ _).after ((onWinchEvent_move _ _).after (.of_eq rfl rfl rfl))

theorem lineRewritten_move (l : Level) (n : Fin 4) (s : State) : LightsMove s (lineRewritten l n s) := by
  unfold lineRewritten
  split
  · exact .refl s
  · exact lineEvent_move n _ s

theorem takeSample_move (v : Level) (n : Fin 4) (s : State) : LightsMove s (takeSample v n s) := by
  have hline (l : Line) : LightsMove s (putLine n l s) := .of_eq rfl rfl rfl
  unfold takeSample
  dsimp only
  split
  · exact (lineEvent_move n _ _).after (hline _)
  · exact hline _

theorem servoPeriodStarted_move (s : State) : LightsMove s (servoPeriodStarted s) := by
  have hdrive (u : State) : LightsMove u (driveTakesPeriod u) := by
    unfold driveTakesPeriod
    split
    · exact .of_eq rfl rfl rfl
    · exact putDrive_move _ u
  exact (LightsMove.of_eq rfl rfl rfl : LightsMove (driveTakesPeriod (steeringTakesPeriod (startPeriod s))) (servoPeriodStarted s)).after
    ((hdrive _).after ((putSteering_move _ (startPeriod s)).after (.of_eq rfl rfl rfl)))

/-! ## What a change is for LTC -/

/-- A write of another block's entry, after its table is in place. -/
theorem entryWritten_move {id : TableId} (i : Nat) (t : Tables) (s : State)
    (hid : id ≠ .lamp ∧ id ≠ .scene ∧ id ≠ .cue) : LightsMove (putTables t s) (entryWritten id i t s) := by
  obtain ⟨hlamp, hscene, hcue⟩ := hid
  unfold entryWritten ownerWritten
  cases id
  case lamp => exact absurd rfl hlamp
  case scene => exact absurd rfl hscene
  case cue => exact absurd rfl hcue
  case steer => exact putSteering_move _ _
  case drive => exact putDrive_move _ _
  case winch => exact onWinchEvent_move _ _
  case input =>
    dsimp only
    split
    · exact lineRewritten_move _ _ _
    · exact .refl _
  case scan => exact .of_eq (by simp) (by simp) (by simp)
  case protect => exact .of_eq rfl rfl rfl
  all_goals exact .refl _

/-- RESTORE_DEFAULTS: LTC empties its list and composes; then the lines deliver their events. -/
theorem defaultsRestored_lights (s : State) : ∃ x, LightRun defaultTables (grantOf s 3) s.lights x
    ∧ LightRun defaultTables (grantOf s 3) (lightsRestored defaultTables (grantOf s 3) x) (defaultsRestored s).lights := by
  have howners : ∃ u, LightsMove (putTables defaultTables s) u ∧ ownersRestored s =
      recomputeCap (wakeScanner (putLights (lightsRestored u.tables (grantOf u 3) u.lights) u)) :=
    ⟨_, (onWinchEvent_move winchWritten _).after ((putDrive_move _ _).after (putSteering_move _ _)), rfl⟩
  obtain ⟨u, hbefore, howners⟩ := howners
  have hgrant : grantOf u 3 = grantOf s 3 := congrArg (fun v => v[(3 : Fin 4)]) hbefore.grant
  have hlights : (ownersRestored s).lights = lightsRestored defaultTables (grantOf s 3) u.lights := by
    rw [howners, recomputeCap, show (wakeScanner _).lights = _ from wakeScanner_lights _, hbefore.tables, hgrant]
    rfl
  have htables : (ownersRestored s).tables = defaultTables := by
    rw [howners, recomputeCap, show (wakeScanner _).tables = _ from wakeScanner_tables _]
    exact hbefore.tables
  have hgrants : grantOf (ownersRestored s) 3 = grantOf s 3 := by
    rw [← hgrant, howners, recomputeCap, grantOf, show (wakeScanner _).budget = _ from wakeScanner_budget _]
    exact congrArg (fun v => v[(3 : Fin 4)]) (putLights_grant _ u)
  have hlines : LightsMove (ownersRestored s) (defaultsRestored s) :=
    lineRewritten_fold_keeps LightsMove.refl LightsMove.after s.tables.input (fun n x => lineRewritten_move _ n x)
      (List.finRange 4) (ownersRestored s)
  refine ⟨u.lights, hbefore.run, ?_⟩
  have hrun := hlines.run
  rw [htables, hgrants, hlights] at hrun
  exact hrun

end Sys2Proof.Machine

/-! # Sitting 5: the active list, its WHILE cues and the levels through every step (O43, O44: R126, R130, R132 to R134) -/

namespace Sys2Proof.Machine

/-! ## The list of the part (R126) -/

section
variable {t : Tables} {g : Nat} {x y : Lights}

theorem rosterAt_moves (cues : Vector CueEntry 16) {C : Fin 16 → Prop} (old new : Vector Bool 33) (fired : Option EdgeSource)
    (l : List CueInstance) (hC : ∀ k ∈ requestedAt cues old new fired l, C k) :
    ListMoves cues C (l.filter fun i => !removedAt cues old new fired i) (rosterAt cues old new fired l).active :=
  ListMoves.startCues (r := ⟨_, [], _⟩) .refl hC

theorem lightsEvent_listSound (b : Bool) (m : LightMsg) (h : ListSound x.active) :
    ListSound (lightsEvent t g b m x).active := by
  rw [lightsEvent_active]
  exact (rosterAt_moves (C := fun _ => True) t.cue _ _ _ _ fun _ _ => trivial).sound (h.filter _)

theorem lightsTick_active (t : Tables) (g : Nat) (x : Lights) : (lightsTick t g x).active =
    (walkCues t.cue x.kept (x.active.map (·.cue)) { active := x.active, started := [], changed := false }).active := by
  unfold lightsTick
  dsimp only
  split <;> rfl

/-- The lists that a write of a CUE entry and RESTORE_DEFAULTS leave. -/
theorem lightsCueWritten_moves {C : Fin 16 → Prop} {k : Fin 16}
    (hC : t.cue[k].mode = .whileTrue → triggerTrue x.kept t.cue[k] = true → C k) :
    ListMoves t.cue C (x.active.filter fun i => i.cue != k) (lightsCueWritten t g k x).active := by
  unfold lightsCueWritten
  show ListMoves t.cue C _ (if t.cue[k].mode == .whileTrue && triggerTrue x.kept t.cue[k] then
    startCue t.cue x.kept false k ⟨x.active.filter fun i => i.cue != k, [], true⟩
    else ⟨x.active.filter fun i => i.cue != k, [], true⟩).active
  split
  · next h =>
    obtain ⟨hmode, htrue⟩ := Bool.and_eq_true_iff.1 h
    exact ListMoves.startCue (r := ⟨_, [], true⟩) .refl fun _ _ => hC (beq_iff_eq.1 hmode) htrue
  · exact .refl

theorem lightsRestored_moves {C : Fin 16 → Prop}
    (hC : ∀ k, t.cue[k].mode = .whileTrue → triggerTrue x.kept t.cue[k] = true → C k) :
    ListMoves t.cue C [] (lightsRestored t g x).active := by
  refine ListMoves.startCues (r := ⟨[], [], true⟩) .refl fun k hk => ?_
  obtain ⟨hmode, htrue⟩ := Bool.and_eq_true_iff.1 (List.mem_filter.1 hk).2
  exact hC k (beq_iff_eq.1 hmode) htrue

theorem LightStep.listSound (h : LightStep t g x y) (hx : ListSound x.active) : ListSound y.active := by
  cases h with
  | event m => exact lightsEvent_listSound _ m hx
  | update m scene => exact lightsEvent_listSound _ m hx
  | recompose => exact hx
  | cueWritten k => exact (lightsCueWritten_moves (C := fun _ => True) fun _ _ => trivial).sound (hx.filter _)
  | restored => exact (lightsRestored_moves (C := fun _ => True) fun _ _ _ => trivial).sound listSound_nil
  | tick =>
    rw [lightsTick_active]
    exact (ListMoves.walkCues (C := fun _ => True) (r := ⟨x.active, [], false⟩) .refl _ (fun _ _ => trivial)
      fun _ _ _ => trivial).sound hx
  | start m => exact lightsEvent_listSound (x := { x with ticking := true, pwm := true }) _ m hx

/-! ## WHILE cues (R130) -/

/-- Cue `k`, if it is a WHILE cue, has a trigger source whose kept value is true. -/
def WhileHolds (cues : Vector CueEntry 16) (kept : Vector Bool 33) (k : Fin 16) : Prop :=
  cues[k].mode = .whileTrue → triggerTrue kept cues[k] = true

/-- Every WHILE cue of the list has a trigger source whose kept value is true. -/
def WhilesHold (t : Tables) (x : Lights) : Prop := ∀ i ∈ x.active, WhileHolds t.cue x.kept i.cue

/-- The trigger source of a WHILE cue is a level source (R127). -/
def WhilesLevel (t : Tables) : Prop := ∀ k : Fin 16, t.cue[k].mode = .whileTrue → ∃ l, t.cue[k].trigger = some (.level l)

theorem whilesLevel_of_valid (h : tablesValid t = true) : WhilesLevel t := by
  intro k hmode
  have hk := (validTables_of_tablesValid h).cue k
  simp only [cueInRange, hmode, Bool.and_eq_true] at hk
  obtain ⟨-, htrigger⟩ := hk
  split at htrigger
  · next l hl => exact ⟨l, hl⟩
  · exact absurd htrigger (by decide)

theorem lightsEvent_whiles (ht : WhilesLevel t) (b : Bool) (m : LightMsg) (h : WhilesHold t x) :
    WhilesHold t (lightsEvent t g b m x) := by
  intro i hi
  rw [lightsEvent_active] at hi
  rw [lightsEvent_kept]
  have hmoves := rosterAt_moves (C := WhileHolds t.cue (keptAfter m.sets x.kept)) t.cue x.kept (keptAfter m.sets x.kept) m.fired
    x.active fun k hk hmode => ?_
  · rcases hmoves.cue_mem hi with hold | hnew
    · obtain ⟨j, hj, hji⟩ := List.mem_map.1 hold
      obtain ⟨hjx, hkept⟩ := List.mem_filter.1 hj
      rw [← show j.cue = i.cue from hji]
      intro hmode
      obtain ⟨l, hl, htrue⟩ := (triggerTrue_iff _ _).1 (h j hjx hmode)
      refine (triggerTrue_iff _ _).2 ⟨l, hl, by_contra fun hfalls => ?_⟩
      have hremoved : removedAt t.cue x.kept (keptAfter m.sets x.kept) m.fired j = true :=
        (removedAt_iff ..).2 (.inl ⟨hmode, l, hl, htrue, Bool.eq_false_iff.2 hfalls⟩)
      rw [hremoved] at hkept
      cases hkept
    · exact hnew
  · obtain ⟨l, hl⟩ := ht k hmode
    have hhappens := (List.mem_filter.1 hk).2
    simp only [hl, happens_level, rises, Bool.and_eq_true] at hhappens
    exact (triggerTrue_iff _ _).2 ⟨l, hl, hhappens.1.2.2⟩

theorem LightStep.whiles (ht : WhilesLevel t) (h : LightStep t g x y) (hx : WhilesHold t x) : WhilesHold t y := by
  cases h with
  | event m => exact lightsEvent_whiles ht _ m hx
  | update m scene => exact lightsEvent_whiles (x := { x with scene := scene }) ht _ m hx
  | recompose => exact hx
  | cueWritten k =>
    intro i hi
    rcases (lightsCueWritten_moves (C := WhileHolds t.cue x.kept) fun _ htrue _ => htrue).cue_mem hi with hold | hnew
    · obtain ⟨j, hj, hji⟩ := List.mem_map.1 hold
      rw [← show j.cue = i.cue from hji]
      exact hx j (List.mem_filter.1 hj).1
    · exact hnew
  | restored =>
    intro i hi
    rcases (lightsRestored_moves (C := WhileHolds t.cue x.kept) fun _ _ htrue _ => htrue).cue_mem hi with hold | hnew
    · cases hold
    · exact hnew
  | tick =>
    intro i hi
    rw [lightsTick_active] at hi
    have hkept : (lightsTick t g x).kept = x.kept := by
      unfold lightsTick
      dsimp only
      split <;> rfl
    rw [hkept]
    have hedges (j : Fin 16) (e : EdgeSource) (hedge : t.cue[j].trigger = some (.edge e)) : WhileHolds t.cue x.kept j := by
      intro hmode
      obtain ⟨l, hl⟩ := ht j hmode
      exact nomatch hl.symm.trans hedge
    rcases (ListMoves.walkCues (r := ⟨x.active, [], false⟩) .refl _ (fun _ hC => hC) hedges).cue_mem hi with hold | hnew
    · obtain ⟨j, hj, hji⟩ := List.mem_map.1 hold
      rw [← show j.cue = i.cue from hji]
      exact hx j hj
    · exact hnew
  | start m => exact lightsEvent_whiles (x := { x with ticking := true, pwm := true }) ht _ m hx

/-! ## The levels (R132 to R134) -/

/-- The levels are composed, once the cue tick runs; the output levels always are those of the factor. -/
structure Composed (t : Tables) (x : Lights) : Prop where
  composed : x.ticking = true → ∀ o : Fin 12, x.levels[o] = composedLevel t x.scene x.active o
  demand : x.ticking = true → x.filed = lightsDemand t.lamp x.levels
  dimming : x.ticking = true → x.dimming = dimmingFor x.filed x.grantUsed
  outputs : ∀ o : Fin 12, x.outputs[o] = x.levels[o] * x.dimming / 1000

theorem compose_composed (t : Tables) (g : Nat) (x : Lights) : Composed t (compose t g x) := by
  refine ⟨fun _ o => composed_level t g x o, fun _ => ?_, fun _ => ?_, fun o => ?_⟩
  · simp only [compose]
  · simp only [compose]
  · simp only [compose, Fin.getElem_fin, tab_getElem]

theorem Composed.of_tables {u : Tables} (h : Composed t x) (hlamp : u.lamp = t.lamp) (hscene : u.scene = t.scene)
    (hcue : u.cue = t.cue) : Composed u x := by
  refine ⟨fun ht o => (h.composed ht o).trans ?_, fun ht => by rw [hlamp]; exact h.demand ht, h.dimming, h.outputs⟩
  unfold composedLevel
  rw [hlamp, hscene, hcue]

theorem lightsEvent_composed {b : Bool} (m : LightMsg) (h : b = false → Composed t x) : Composed t (lightsEvent t g b m x) := by
  simp only [lightsEvent]
  split
  · exact compose_composed _ _ _
  · next hc =>
    rw [Bool.not_eq_true, Bool.or_eq_false_iff] at hc
    have hsame := rosterAt_unchanged hc.2
    have hx := h hc.1
    rw [hsame]
    exact ⟨hx.composed, hx.demand, hx.dimming, hx.outputs⟩

/-- What of a list is seen in the levels: its cues in order, each with its phase. -/
def shown (l : List CueInstance) : List (Fin 16 × Bool) := l.map fun i => (i.cue, i.phaseOn)

theorem winnerOf_shown (cues : Vector CueEntry 16) (o : Fin 12) {l m : List CueInstance} (h : shown l = shown m) :
    (winnerOf cues o l).map (fun i => (i.cue, i.phaseOn)) = (winnerOf cues o m).map fun i => (i.cue, i.phaseOn) := by
  induction l generalizing m with
  | nil =>
    cases m with
    | nil => rfl
    | cons j m => cases h
  | cons i l ih =>
    cases m with
    | nil => cases h
    | cons j m =>
      obtain ⟨hij, hrest⟩ := List.cons.inj h
      obtain ⟨hcue, -⟩ := Prod.mk.inj hij
      have hw := ih hrest
      have hentry : cues[i.cue] = cues[j.cue] := congrArg (fun k : Fin 16 => cues[k]) hcue
      unfold winnerOf
      rw [hentry]
      cases hl : winnerOf cues o l with
      | none =>
        rw [hl] at hw
        rw [Option.map_eq_none_iff.1 hw.symm]
        dsimp only
        split
        · exact congrArg some hij
        · rfl
      | some v =>
        rw [hl] at hw
        obtain ⟨w, hm, hvw⟩ := Option.map_eq_some_iff.1 hw.symm
        obtain ⟨hvcue, -⟩ := Prod.mk.inj hvw
        have hother : cues[v.cue] = cues[w.cue] := congrArg (fun k : Fin 16 => cues[k]) hvcue.symm
        rw [hm]
        dsimp only
        rw [hother]
        split
        · exact congrArg some hij
        · exact congrArg some hvw.symm

theorem composedLevel_shown (t : Tables) (scene : Fin 8) (o : Fin 12) {l m : List CueInstance} (h : shown l = shown m) :
    composedLevel t scene l o = composedLevel t scene m o := by
  have hw := winnerOf_shown t.cue o h
  unfold composedLevel
  split
  · rfl
  · cases hl : winnerOf t.cue o l with
    | none =>
      rw [hl] at hw
      rw [Option.map_eq_none_iff.1 hw.symm]
    | some v =>
      rw [hl] at hw
      obtain ⟨w, hm, hvw⟩ := Option.map_eq_some_iff.1 hw.symm
      obtain ⟨hcue, hphase⟩ := Prod.mk.inj hvw
      have hentry : t.cue[v.cue] = t.cue[w.cue] := congrArg (fun k : Fin 16 => t.cue[k]) hcue.symm
      rw [hm]
      dsimp only
      rw [hentry, hphase]

/-- A countdown that changes nothing shown (R128). -/
theorem countDown_unchanged {cues : Vector CueEntry 16} {kept : Vector Bool 33} {i : CueInstance} {r : Roster}
    (hi : i ∈ r.active) (hr : (r.active.map (·.cue)).Nodup) (h : (countDown cues kept i r).changed = false) :
    shown (countDown cues kept i r).active = shown r.active ∧ r.changed = false := by
  have hcompleted (s : Roster) (k : Fin 16) (hk : (completeCue cues kept k s).changed = false) : False := by
    have hsame := startCues_unchanged hk
    have hk' := hk
    unfold completeCue at hk'
    dsimp only at hk'
    rw [startCues_unchanged hk'] at hk'
    split at hk'
    · rw [startCue_unchanged hk'] at hk'
      cases hk'
    · cases hk'
  simp only [countDown] at h ⊢
  split at h
  · split at h
    · simp at h
    · split at h
      · split at h
        · exact (hcompleted _ _ h).elim
        · simp at h
      · simp at h
  · next hmore =>
    rw [if_neg hmore]
    refine ⟨?_, by simpa using h⟩
    rw [shown, replaceInstance, List.map_map]
    refine List.map_congr_left fun j hj => ?_
    show (fun i => (i.cue, i.phaseOn)) (if j.cue == i.cue then { i with timeLeft := i.timeLeft - 1 } else j) = _
    split
    · next heq =>
      have hij : j = i := List.inj_on_of_nodup_map hr hj hi (beq_iff_eq.1 heq)
      rw [hij]
    · rfl

theorem shown_cues {l m : List CueInstance} (h : shown l = shown m) : l.map (·.cue) = m.map (·.cue) := by
  have hfst := congrArg (List.map Prod.fst) h
  simpa [shown, List.map_map, Function.comp_def] using hfst

theorem walkCues_unchanged {cues : Vector CueEntry 16} {kept : Vector Bool 33} {ks : List (Fin 16)} {r : Roster}
    (hr : ListSound r.active) (h : (walkCues cues kept ks r).changed = false) :
    shown (walkCues cues kept ks r).active = shown r.active ∧ r.changed = false := by
  induction ks generalizing r with
  | nil => exact ⟨rfl, h⟩
  | cons k ks ih =>
    unfold walkCues at h ⊢
    split at h
    · next hstarted =>
      rw [if_pos hstarted]
      exact ih hr h
    · next hstarted =>
      rw [if_neg hstarted]
      split at h
      · exact ih hr h
      · next i hfound =>
        have hi : i ∈ r.active := List.mem_of_find?_eq_some hfound
        have hsound := (ListMoves.countDown (C := fun _ => True) (cues := cues) (kept := kept) .refl i (fun _ _ => trivial)
          fun _ _ _ => trivial).sound hr
        obtain ⟨hshown, hchanged⟩ := ih hsound h
        obtain ⟨hstep, hbefore⟩ := countDown_unchanged hi hr.2 hchanged
        exact ⟨hshown.trans hstep, hbefore⟩

theorem lightsTick_composed (h : Composed t x) (hl : ListSound x.active) : Composed t (lightsTick t g x) := by
  simp only [lightsTick]
  split
  · exact compose_composed _ _ _
  · next hc =>
    rw [Bool.not_eq_true, Bool.or_eq_false_iff] at hc
    obtain ⟨hchanged, hgrant⟩ := hc
    have hg : g = x.grantUsed := by simpa using hgrant
    obtain ⟨hshown, -⟩ := walkCues_unchanged (r := ⟨x.active, [], false⟩) hl hchanged
    refine ⟨fun ht o => (h.composed ht o).trans (composedLevel_shown t _ o hshown).symm, h.demand, fun ht => ?_, h.outputs⟩
    dsimp only
    rw [hg]
    exact h.dimming ht

theorem LightStep.composed (h : LightStep t g x y) (hx : Composed t x) (hl : ListSound x.active) : Composed t y := by
  cases h with
  | event m => exact lightsEvent_composed m fun _ => hx
  | update m scene =>
    refine lightsEvent_composed m fun hsame => ?_
    have hscene : scene = x.scene := by
      simp only [bne_eq_false_iff_eq] at hsame
      exact hsame.symm
    rw [hscene]
    exact hx
  | recompose => exact compose_composed _ _ _
  | cueWritten k => exact compose_composed _ _ _
  | restored => exact compose_composed _ _ _
  | tick => exact lightsTick_composed hx hl
  | start m => exact lightsEvent_composed m nofun

/-- The list and the levels through any run of LTC. -/
theorem LightRun.composed (h : LightRun t g x y) (hx : Composed t x) (hl : ListSound x.active) :
    Composed t y ∧ ListSound y.active :=
  h.keeps (P := fun z => Composed t z ∧ ListSound z.active) (fun _ _ hs hp => ⟨hs.composed hp.1 hp.2, hs.listSound hp.2⟩) ⟨hx, hl⟩

theorem LightRun.listSound (h : LightRun t g x y) (hl : ListSound x.active) : ListSound y.active :=
  h.keeps (P := fun z => ListSound z.active) (fun _ _ hs => hs.listSound) hl

theorem LightRun.whiles (ht : WhilesLevel t) (h : LightRun t g x y) (hx : WhilesHold t x) : WhilesHold t y :=
  h.keeps (P := WhilesHold t) (fun _ _ hs => hs.whiles ht) hx

end

end Sys2Proof.Machine

/-! # Sitting 5: the list, its WHILE cues and the levels through every step of the part (O43, O44) -/

namespace Sys2Proof.Machine

/-! ## LTC at each change of the part -/

theorem LightsMove.run_tables {s t : State} (h : LightsMove s t) : LightRun t.tables (grantOf s 3) s.lights t.lights := by
  rw [h.tables]
  exact h.run

/-- Load complete at LTC: what DRV's first computation delivers, and the start-up event with its composition (R136). -/
theorem loadCompleted_lightRun (v : Vector Level 4) (a b : Level) (s : State) : ∃ x m,
    LightRun (loadCompleted v a b s).tables (grantOf s 3) s.lights x
      ∧ (loadCompleted v a b s).lights =
        lightsEvent (loadCompleted v a b s).tables (grantOf s 3) true m { x with ticking := true, pwm := true } := by
  have hstarted (u : State) : LightsMove u (batteryLoaded (winchLoaded a b u)) := .of_eq rfl rfl rfl
  have hbegun : LightsMove { loadBegun v s with drive := driveStarted (loadBegun v s) }
      (batteryLoaded (winchLoaded a b (driveCompute { loadBegun v s with drive := driveStarted (loadBegun v s) }))) :=
    (hstarted _).after (putDrive_move _ _)
  have hlights : (loadBegun v s).lights = s.lights := by simp [loadBegun]
  have hgrant : grantOf (loadBegun v s) 3 = grantOf s 3 := by simp [loadBegun, grantOf]
  have htables : (loadCompleted v a b s).tables = (loadBegun v s).tables := by
    rw [loadCompleted_tables]
    simp [loadBegun]
  rw [loadCompleted_eq] at htables ⊢
  generalize batteryLoaded (winchLoaded a b (driveCompute { loadBegun v s with drive := driveStarted (loadBegun v s) })) = u at *
  have hrun := hbegun.run
  refine ⟨u.lights, { sets := presentSources u, fired := none }, ?_, ?_⟩
  · rw [htables, ← hgrant, ← hlights]
    exact hrun
  · have hu : grantOf u 3 = grantOf s 3 := (congrArg (fun w => w[(3 : Fin 4)]) hbegun.grant).trans hgrant
    rw [htables, ← hu]
    exact congrArg (fun t => lightsEvent t (grantOf u 3) true { sets := presentSources u, fired := none }
      { u.lights with ticking := true, pwm := true }) hbegun.tables

/-- LTC takes every change as its own operations under the tables that are then in force. -/
theorem Move.lightRun {c : Instr} {s t : State} (h : Move c s t) : LightRun t.tables (grantOf s 3) s.lights t.lights := by
  cases h with
  | update | failsafeValues => exact (functionUpdate_move _ s).run_tables
  | enterRun | leaveRun | enterSetup | leaveSetup => exact (deliverRun_move _ s).run_tables
  | winch | encoder => exact (onWinchEvent_move _ s).run_tables
  | clearProtect => exact (deliverProtection_move _ s).run_tables
  | conversion => exact (conversionEnded_move _ s).run_tables
  | period => exact (servoPeriodStarted_move s).run_tables
  | braking => exact (putDrive_move _ s).run_tables
  | sample => exact (takeSample_move _ _ s).run_tables
  | cueTick => exact .single (.tick _)
  | entry id i e t hrun hclass hi ht =>
    rw [entryWritten_tables]
    by_cases hid : id ≠ .lamp ∧ id ≠ .scene ∧ id ≠ .cue
    · exact (entryWritten_move i t s hid).run
    · rcases (by tauto : id = .lamp ∨ id = .scene ∨ id = .cue) with rfl | rfl | rfl
      · exact .single (.recompose _)
      · exact .single (.recompose _)
      · have hwritten : entryWritten .cue i t s = cueWritten ⟨i, hi⟩ (putTables t s) := dif_pos hi
        rw [hwritten]
        exact .single (.cueWritten _ _)
  | restore =>
    obtain ⟨x, hbefore, hafter⟩ := defaultsRestored_lights s
    rw [defaultsRestored_tables]
    exact (hbefore.tail (.restored x)).trans hafter
  | load v a b =>
    obtain ⟨x, m, hbefore, hlights⟩ := loadCompleted_lightRun v a b s
    rw [hlights]
    exact hbefore.tail (.start x m)
  | budget =>
    have hlights : (startBudgetTimer (computeBudget s)).lights = s.lights := by simp
    rw [hlights]
  | link | unreport | report | clearFlags | flag | store | release => exact .refl

/-! ## The list of the part (R126) -/

theorem cueListSound_iff (s : State) : CueListSound s ↔ ListSound s.lights.active :=
  ⟨fun h => ⟨h.bounded, h.distinct⟩, fun h => ⟨h.1, h.2⟩⟩

theorem step_cueListSound {s t : State} (hs : CueListSound s) (h : step s = .next t) : CueListSound t :=
  (cueListSound_iff t).2 (step_keeps (P := fun x => ListSound x.lights.active) (fun _ _ hx => hx)
    (fun _ _ _ hm hx => hm.lightRun.listSound hx) (fun _ _ _ _ => listSound_nil) ((cueListSound_iff s).1 hs) h)

/-! ## The levels of the part (R132 to R134) -/

theorem levelsSound_iff (s : State) : LevelsSound s ↔ Composed s.tables s.lights :=
  ⟨fun h => ⟨h.composed, h.demand, h.dimming, h.outputs⟩, fun h => ⟨h.composed, h.demand, h.dimming, h.outputs⟩⟩

theorem tablesWith_lights {t u : Tables} {id : TableId} {i : Nat} {e : List Byte} (h : tablesWith t id i e = some u)
    (hid : id ≠ .lamp ∧ id ≠ .scene ∧ id ≠ .cue) : u.lamp = t.lamp ∧ u.scene = t.scene ∧ u.cue = t.cue := by
  obtain ⟨hlamp, hscene, hcue⟩ := hid
  cases id
  case lamp => exact absurd rfl hlamp
  case scene => exact absurd rfl hscene
  case cue => exact absurd rfl hcue
  all_goals
    simp only [tablesWith, Option.map_eq_some_iff] at h
    obtain ⟨_, -, rfl⟩ := h
    exact ⟨rfl, rfl, rfl⟩

theorem Move.composed {c : Instr} {s t : State} (h : Move c s t) (hs : Composed s.tables s.lights)
    (hl : ListSound s.lights.active) : Composed t.tables t.lights := by
  have hstands (htables : t.tables = s.tables) : Composed t.tables t.lights :=
    (h.lightRun.composed (by rw [htables]; exact hs) hl).1
  cases h with
  | entry id i e t hrun hclass hi ht =>
    by_cases hid : id ≠ .lamp ∧ id ≠ .scene ∧ id ≠ .cue
    · obtain ⟨hlamp, hscene, hcue⟩ := tablesWith_lights ht hid
      rw [entryWritten_tables]
      exact ((entryWritten_move i t s hid).run.composed (hs.of_tables hlamp hscene hcue) hl).1
    · rw [entryWritten_tables]
      rcases (by tauto : id = .lamp ∨ id = .scene ∨ id = .cue) with rfl | rfl | rfl
      · exact compose_composed _ _ _
      · exact compose_composed _ _ _
      · have hwritten : entryWritten .cue i t s = cueWritten ⟨i, hi⟩ (putTables t s) := dif_pos hi
        rw [hwritten]
        exact compose_composed _ _ _
  | restore =>
    obtain ⟨x, hbefore, hafter⟩ := defaultsRestored_lights s
    rw [defaultsRestored_tables]
    exact (hafter.composed (compose_composed _ _ _) ((LightStep.restored x).listSound (hbefore.listSound hl))).1
  | load v a b =>
    obtain ⟨x, m, -, hlights⟩ := loadCompleted_lightRun v a b s
    rw [hlights]
    exact lightsEvent_composed m nofun
  | _ => exact hstands (by simp)

theorem step_levelsSound {s t : State} (hs : LevelsSound s) (hl : CueListSound s) (h : step s = .next t) : LevelsSound t := by
  have hboth := step_keeps (P := fun x => Composed x.tables x.lights ∧ ListSound x.lights.active) (fun _ _ hx => hx)
    (fun _ _ _ hm hx => ⟨hm.composed hx.1 hx.2, hm.lightRun.listSound hx.2⟩)
    (fun _ _ _ _ => ⟨⟨nofun, nofun, nofun, fun o => by simp [resetLeaving, resetPart, lightsAfterReset]⟩, listSound_nil⟩)
    ⟨(levelsSound_iff s).1 hs, (cueListSound_iff s).1 hl⟩ h
  exact (levelsSound_iff t).2 hboth.1

/-! ## WHILE cues in the part (R130) -/

/-- A change before load complete: load complete itself, the BRAKING timer's expiry, or one that leaves LTC alone. -/
theorem Move.asleep {c : Instr} {s t : State} (h : Move c s t) (hs : StartUp s) (hl : s.store.loaded = false) :
    (∃ v a b, t = loadCompleted v a b s) ∨ t = brakingExpired s ∨ t.lights = s.lights ∧ t.store.loaded = s.store.loaded := by
  have hinit : s.link.run = .init := hs.initLoading.mpr hl
  cases h with
  | load v a b => exact .inl ⟨v, a, b, rfl⟩
  | braking => exact .inr (.inl rfl)
  | link | unreport | report | flag | release | clearFlags => exact .inr (.inr ⟨rfl, rfl⟩)
  | store x hloaded => exact .inr (.inr ⟨rfl, hloaded⟩)
  | update p hrun => simp [hinit] at hrun
  | enterRun hrun => simp [hinit] at hrun
  | leaveRun hrun => simp [hinit] at hrun
  | failsafeValues hrun => simp [hinit] at hrun
  | enterSetup hrun _ => simp [hinit] at hrun
  | leaveSetup hrun => simp [hinit] at hrun
  | winch hf => simp [hf.loaded hs] at hl
  | encoder a b _ ht => simp [hs.rampTick, hl] at ht
  | entry id i e t hrun _ _ _ => exact absurd hinit hrun
  | restore hrun => simp [hinit] at hrun
  | clearProtect hrun _ _ => exact absurd hinit hrun
  | conversion x hp => exact absurd (hs.scanner hl) hp
  | period _ hp => simp [hs.period, hl] at hp
  | cueTick ht => simp [hs.cueTick, hl] at ht
  | budget _ ht => simp [hs.budget, hl] at ht
  | sample v n ht => simp [hs.sampleTick, hl] at ht

/-- What BRAKING's timer delivers at its expiry: BRAKING, false, where it was true. -/
theorem brakingExpired_lights (s : State) : (brakingExpired s).lights =
    if s.drive.braking = true then lightsEvent s.tables (grantOf s 3) false { sets := [(.braking, false)], fired := none } s.lights
    else s.lights := by
  unfold brakingExpired putDrive driveMsgs
  rw [if_pos rfl]
  split
  · next hb =>
    rw [if_neg (by rw [show s.drive.braking = false from hb]; exact nofun)]
    rfl
  · next hb =>
    rw [if_pos (by simpa using hb)]
    simp [lightEvents, grantOf]

/-- With no cue active, BRAKING's fall starts none. -/
theorem brakingExpired_empty {s : State} (h : s.lights.active = []) : (brakingExpired s).lights.active = [] := by
  rw [brakingExpired_lights]
  split
  · rw [lightsEvent_active, h]
    have hnone : requestedAt s.tables.cue s.lights.kept (keptAfter [(.braking, false)] s.lights.kept) none [] = [] := by
      refine List.filter_eq_nil_iff.2 fun k _ hk => ?_
      simp only [Bool.and_eq_true] at hk
      rcases (happens_iff ..).1 hk.1.2 with ⟨l, -, hbefore, hafter⟩ | ⟨e, -, hfired⟩
      · rw [keptAfter, keptAfter, keptValue_set] at hafter
        split at hafter
        · cases hafter
        · rw [hbefore] at hafter
          cases hafter
      · cases hfired
    show (startCues _ _ (requestedAt _ _ _ none []) _).active = []
    rw [hnone]
    rfl
  · exact h

theorem cuesFollowSources_iff (s : State) : CuesFollowSources s ↔
    (s.store.loaded = false → s.lights.active = []) ∧ WhilesHold s.tables s.lights :=
  ⟨fun h => ⟨h.resting, fun i hi hmode => (triggerTrue_iff _ _).2 (h.whileTrue i hi hmode)⟩,
    fun h => ⟨h.1, fun i hi hmode => (triggerTrue_iff _ _).1 (h.2 i hi hmode)⟩⟩

theorem Move.resting {c : Instr} {s t : State} (h : Move c s t) (hup : StartUp s)
    (hs : s.store.loaded = false → s.lights.active = []) (hl : t.store.loaded = false) : t.lights.active = [] := by
  by_cases hloaded : s.store.loaded = true
  · rcases h.parts with ⟨v, a, b, _, _, hn, _⟩ | hp
    · rw [hn] at hloaded
      cases hloaded
    · have hrun := (hp.keeps (fun _ _ h => h.unitsRun) (hup.unitsRun hloaded)).loaded
      rw [hl] at hrun
      cases hrun
  · have hn : s.store.loaded = false := Bool.eq_false_iff.2 hloaded
    rcases h.asleep hup hn with ⟨v, a, b, rfl⟩ | rfl | ⟨heq, -⟩
    · have hloads : (loadCompleted v a b s).store.loaded = true := by
        have htables : (loadTables s).store.loaded = true := by
          unfold loadTables
          split <;> rfl
        rw [loadCompleted_eq]
        simpa [batteryLoaded, loadBegun] using htables
      rw [hl] at hloads
      cases hloads
    · exact brakingExpired_empty (hs hn)
    · rw [heq]
      exact hs hn

theorem tablesWith_cue {t u : Tables} {id : TableId} {i : Nat} {e : List Byte} (h : tablesWith t id i e = some u)
    (hid : id ≠ .cue) : u.cue = t.cue := by
  cases id
  case cue => exact absurd rfl hid
  all_goals
    simp only [tablesWith, Option.map_eq_some_iff] at h
    obtain ⟨_, -, rfl⟩ := h
    rfl

theorem Move.whiles {c : Instr} {s t : State} (h : Move c s t) (hv : tablesValid s.tables = true)
    (hrest : s.store.loaded = false → s.lights.active = []) (hs : WhilesHold s.tables s.lights) : WhilesHold t.tables t.lights := by
  have hlevel := whilesLevel_of_valid (h.tables_valid hv)
  have hstands (hcue : t.tables.cue = s.tables.cue) : WhilesHold t.tables t.lights :=
    h.lightRun.whiles hlevel fun i hi => by rw [hcue]; exact hs i hi
  cases h with
  | entry id i e t hrun hclass hi ht =>
    by_cases hid : id = .cue
    · subst hid
      have hwritten : entryWritten .cue i t s = cueWritten ⟨i, hi⟩ (putTables t s) := dif_pos hi
      have hother (k : Fin 16) (hk : k ≠ ⟨i, hi⟩) : t.cue[k] = s.tables.cue[k] := by
        obtain ⟨x, -, -, rfl⟩ := taken_entry ht
        refine (Vector.getElem_setIfInBounds ..).trans (if_neg fun hik => hk (Fin.ext hik.symm))
      rw [hwritten]
      intro j hj
      rcases (lightsCueWritten_moves (t := t) (g := grantOf s 3) (x := s.lights) (k := ⟨i, hi⟩)
        (C := WhileHolds t.cue s.lights.kept) fun _ htrue _ => htrue).cue_mem hj with hold | hnew
      · obtain ⟨y, hy, hyj⟩ := List.mem_map.1 hold
        obtain ⟨hmem, hne⟩ := List.mem_filter.1 hy
        rw [← show y.cue = j.cue from hyj]
        intro hmode
        have hentry := hother y.cue (by simpa using hne)
        have hkept := hs y hmem
        unfold WhileHolds at hkept
        rw [← hentry] at hkept
        exact hkept hmode
      · exact hnew
    · refine hstands ?_
      rw [entryWritten_tables]
      exact tablesWith_cue ht hid
  | restore =>
    obtain ⟨x, -, hafter⟩ := defaultsRestored_lights s
    rw [defaultsRestored_tables] at hlevel ⊢
    refine hafter.whiles hlevel fun i hi => ?_
    rcases (lightsRestored_moves (C := WhileHolds defaultTables.cue x.kept) fun _ _ htrue _ => htrue).cue_mem hi with hold | hnew
    · cases hold
    · exact hnew
  | load v a b hc hheld hl =>
    refine LightRun.whiles hlevel (Move.lightRun (.load s v a b hc hheld hl)) fun i hi => ?_
    rw [hrest hl] at hi
    cases hi
  | _ => exact hstands (by simp)

theorem step_cuesFollowSources {s t : State} (hup : StartUp s) (hv : tablesValid s.tables = true) (hs : CuesFollowSources s)
    (h : step s = .next t) : CuesFollowSources t := by
  obtain ⟨hrest, hwhiles⟩ := (cuesFollowSources_iff s).1 hs
  have hall := step_keeps (P := fun x => StartUp x ∧ tablesValid x.tables = true ∧ (x.store.loaded = false → x.lights.active = [])
      ∧ WhilesHold x.tables x.lights) (fun _ _ hx => ⟨{ hx.1 with }, hx.2⟩)
    (fun _ _ _ hm ⟨hup, hv, hr, hw⟩ => ⟨hm.startUp hup, hm.tables_valid hv, hm.resting hup hr, hm.whiles hv hr hw⟩)
    (fun k d x _ => ⟨startUp_resetLeaving k d x, defaultTables_valid, fun _ => rfl, fun i hi => by cases hi⟩)
    ⟨hup, hv, hrest, hwhiles⟩ h
  exact (cuesFollowSources_iff t).2 ⟨hall.2.2.1, hall.2.2.2⟩

end Sys2Proof.Machine

/-! # Sitting 5: what every event of WCH delivers of its sources (O44: R112) -/

namespace Sys2Proof.Machine

/-! ## Deliveries that follow the winch state (R112) -/

/-- The three sources of WCH. -/
def winchSource : LevelSource → Bool
  | .winchMoving | .winchFree | .winchFault => true
  | _ => false

/-- Deliveries that take the three sources from those of the state `old` to those of `new`, and no other source. -/
structure SetsTrack (old new : WinchState) (ms : List (LevelSource × Bool)) : Prop where
  moving : ∀ k, keptValue k .winchMoving = winchMoves old → keptValue (keptAfter ms k) .winchMoving = winchMoves new
  free : ∀ k, keptValue k .winchFree = winchFrees old → keptValue (keptAfter ms k) .winchFree = winchFrees new
  fault : ∀ k, keptValue k .winchFault = (old == .fault) → keptValue (keptAfter ms k) .winchFault = (new == .fault)
  other : ∀ k l, winchSource l = false → keptValue (keptAfter ms k) l = keptValue k l

theorem SetsTrack.refl (st : WinchState) : SetsTrack st st [] := ⟨fun _ => id, fun _ => id, fun _ => id, fun _ _ _ => rfl⟩

theorem SetsTrack.append {a b c : WinchState} {ms ns : List (LevelSource × Bool)} (h : SetsTrack a b ms) (k : SetsTrack b c ns) :
    SetsTrack a c (ms ++ ns) := by
  refine ⟨fun v hv => ?_, fun v hv => ?_, fun v hv => ?_, fun v l hl => ?_⟩ <;> rw [keptAfter_append]
  · exact k.moving _ (h.moving v hv)
  · exact k.free _ (h.free v hv)
  · exact k.fault _ (h.fault v hv)
  · rw [k.other _ l hl, h.other v l hl]

theorem winchSets_track (old new : WinchState) : SetsTrack old new (winchSets old new) := by
  refine ⟨fun k hk => ?_, fun k hk => ?_, fun k hk => ?_, fun k l hl => ?_⟩
  · rw [winchSets_moving]
    split
    · next heq => exact hk.trans heq
    · rfl
  · rw [winchSets_free]
    split
    · next heq => exact hk.trans heq
    · rfl
  · rw [winchSets_fault]
    split
    · next heq => exact hk.trans heq
    · rfl
  · refine keptAfter_other _ k l fun m hm heq => ?_
    rw [← heq] at hl
    simp only [winchSets, List.mem_append, List.mem_ite_nil_left, List.mem_singleton] at hm
    rcases hm with (⟨-, rfl⟩ | ⟨-, rfl⟩) | ⟨-, rfl⟩ <;> cases hl

/-- What WCH has delivered since it stood as `w` takes its sources to those of its present state. -/
def Tracks (w : Winch) (x : WinchStep) : Prop := SetsTrack w.state x.winch.state x.sets

section
variable {w : Winch} {x y : WinchStep} (c : WinchContext)

theorem Tracks.same (h : Tracks w x) (hstate : y.winch.state = x.winch.state) (hsets : y.sets = x.sets) : Tracks w y := by
  rw [Tracks, hstate, hsets]
  exact h

/-- WCH begins an event in its state, with nothing delivered of its sources. -/
theorem Tracks.begin {v : Winch} (hstate : y.winch.state = v.state) (hsets : y.sets = []) : Tracks v y := by
  rw [Tracks, hstate, hsets]
  exact .refl _

theorem Tracks.enter (h : Tracks w x) (st : WinchState) (d : Direction) : Tracks w (enterWinch c st d x) := by
  rw [Tracks, enterWinch_sets, enterWinch_state]
  exact SetsTrack.append h (winchSets_track _ _)

theorem Tracks.tryRelease (h : Tracks w x) : Tracks w (tryRelease c x) := by
  rw [Tracks, tryRelease_sets]
  exact SetsTrack.append h (winchSets_track _ _)

theorem Tracks.toIdle (h : Tracks w x) : Tracks w (toIdle c x) :=
  Tracks.tryRelease c ((h.enter c .idle .none).same rfl rfl)

theorem Tracks.toRampDown (h : Tracks w x) : Tracks w (toRampDown c x) :=
  (h.enter c .rampDown x.winch.direction).same (x := enterWinch c .rampDown x.winch.direction x) rfl rfl

theorem Tracks.toClutchIn (h : Tracks w x) : Tracks w (toClutchIn c x) := by
  have hengaging := h.enter c .clutchIn .none
  unfold Machine.toClutchIn
  dsimp only
  split
  · exact Tracks.toIdle c (hengaging.same rfl rfl)
  · exact hengaging.same rfl rfl

theorem Tracks.toHauling (h : Tracks w x) (st : WinchState) (d : Direction) : Tracks w (toHauling c st d x) :=
  (h.enter c st d).same rfl rfl

theorem Tracks.faulted (h : Tracks w x) (cause : FaultCause) : Tracks w (winchFaulted c cause x) := by
  unfold winchFaulted
  split
  · exact h.same rfl rfl
  · exact (h.enter c .fault .none).same rfl rfl

theorem Tracks.actOnRequest (h : Tracks w x) : Tracks w (actOnRequest c x) := by
  unfold Machine.actOnRequest
  split
  · split
    · exact h
    · exact h.toClutchIn c
  · exact h.tryRelease c

theorem Tracks.actOnCommand (h : Tracks w x) : Tracks w (actOnCommand c x) := by
  simp only [Machine.actOnCommand]
  split
  · split_ifs
    · exact h.toHauling c _ _
    · exact h.toHauling c _ _
    · exact h
  · split
    · exact h.same rfl rfl
    · exact h.toRampDown c
  · split
    · exact h.same rfl rfl
    · exact h.toRampDown c
  · split_ifs
    · exact h.toHauling c _ _
    · exact h.toHauling c _ _
    · exact h
  all_goals exact h

end

section
variable (c : WinchContext) (w : Winch)

theorem winchHalt_tracks (returns : Bool) : Tracks w (winchHalt c returns w) := by
  have hbegin : Tracks w (winchBegin { w with command := 0 }) := .begin rfl rfl
  unfold winchHalt
  dsimp only
  split_ifs
  · exact hbegin.toRampDown c
  · exact hbegin.toClutchIn c
  · exact hbegin

theorem lineEndStep_tracks (d : Int) : Tracks w (lineEndStep c d w) := by
  unfold lineEndStep
  split
  · have hbegin : Tracks w { winch := w, msgs := [{ sets := [], fired := some .lineEnd }], flags := [.lineEnd] } :=
      .begin rfl rfl
    dsimp only
    split
    · exact hbegin.toRampDown c
    · exact hbegin
  · exact .begin rfl rfl

theorem winchEncoder_tracks (a b : Level) : Tracks w (winchEncoder c a b w) := by
  by_cases hcounted : encoderStep w a b ≠ 0 ∧ (w.line + encoderStep w a b).natAbs ≤ 65535
  · rw [winchEncoder_counted c hcounted, winchCounted_eq]
    have hend : Tracks w (lineEndStep c (encoderStep w a b) (countedWinch c (encoderStep w a b) (paired a b w))) :=
      lineEndStep_tracks c (countedWinch c (encoderStep w a b) (paired a b w)) (encoderStep w a b)
    split
    · exact hend.faulted c _
    · exact hend
  · rw [winchEncoder_ignored c hcounted]
    exact .begin rfl rfl

theorem winchLineEvent_tracks (n : Fin 4) (active : Bool) : Tracks w (winchLineEvent n active c w) := by
  have hself : Tracks w (winchBegin w) := .begin rfl rfl
  unfold winchLineEvent
  split_ifs
  · unfold winchHomeEvent
    dsimp only
    split
    · exact Tracks.toIdle c (.begin rfl rfl)
    · exact .begin rfl rfl
  · exact hself
  · unfold winchEngaged
    split
    · exact hself.toIdle c
    · exact hself
  · unfold winchDisengaged
    split
    · have hstopped : Tracks w (winchBegin { w with clutchTimer := stopTimer w.clutchTimer }) := .begin rfl rfl
      exact (hstopped.enter c .freespool .none).same rfl rfl
    · exact hself
  · exact hself

theorem winchTick_tracks : Tracks w (winchTick c w) := by
  have hmoved : Tracks w (winchBegin (rampMove c w)) := .begin rfl rfl
  unfold winchTick
  dsimp only
  split
  · exact (hmoved.toIdle c).same rfl rfl
  · exact hmoved.same rfl rfl

/-- Every event of WCH delivers what its state change makes of its sources. -/
theorem WinchOp.tracks {i : Instr} {s : State} {f : WinchContext → Winch → WinchStep} (h : WinchOp i s f) : Tracks w (f c w) := by
  have hself : Tracks w (winchBegin w) := .begin rfl rfl
  cases h with
  | update r =>
    show Tracks w (winchUpdate c r w)
    rw [winchUpdate_eq]
    have hinformed : Tracks w (winchBegin (informed c w r)) := .begin rfl rfl
    exact ((hinformed.actOnRequest c).actOnCommand c).same rfl rfl
  | runChange =>
    unfold winchRunChange
    split
    · exact hself
    · exact winchHalt_tracks c w _
  | protChange =>
    unfold winchProtChange
    split
    · exact winchHalt_tracks c w _
    · exact hself
  | written =>
    have hwritten : Tracks w (winchBegin (evaluateRequest c { w with clutchWidth := positionFor c.record w.state })) :=
      .begin rfl rfl
    exact (hwritten.actOnRequest c).same rfl rfl
  | current v => exact .begin rfl rfl
  | temp v =>
    have htaken : Tracks w (winchBegin { w with temp := v }) := .begin rfl rfl
    simp only [winchTemp]
    split
    · exact htaken.faulted c _
    · exact htaken
  | line n active => exact winchLineEvent_tracks c w n active
  | encoder a b => exact winchEncoder_tracks c w a b
  | event hf =>
    cases hf with
    | enterSetup =>
      unfold winchEnterSetup
      split
      · exact Tracks.toClutchIn c (.begin rfl rfl)
      · exact hself
    | homed => exact .begin rfl rfl
    | clear =>
      have hbegin : Tracks w (winchBegin { w with cause := .none, further := false }) := .begin rfl rfl
      unfold winchCleared
      dsimp only
      split
      · exact hbegin.toIdle c
      · exact (hbegin.enter c .clutchIn .none).same rfl rfl
    | tick => exact winchTick_tracks c w
    | stall => exact Tracks.faulted c (x := winchBegin { w with stallTimer := stopTimer w.stallTimer }) (.begin rfl rfl) _
    | noMotion => exact Tracks.faulted c (x := winchBegin { w with noMotionTimer := stopTimer w.noMotionTimer }) (.begin rfl rfl) _
    | clutch => exact Tracks.faulted c (x := winchBegin { w with clutchTimer := stopTimer w.clutchTimer }) (.begin rfl rfl) _

end

end Sys2Proof.Machine

/-! # Sitting 5: LTC's kept values follow their owners (O44: R121, R122, R136) -/

namespace Sys2Proof.Machine

/-! ## The conditions of the owners -/

/-- The condition that a level source of another block stands for. LTC's own turn sources have none. -/
def ownerValue (s : State) : LevelSource → Bool
  | .reverse => s.drive.reverse
  | .braking => s.drive.braking
  | .turnLeft | .turnRight => false
  | .aligning => s.steering.status == .align
  | .winchMoving => winchMoves s.winch.state
  | .winchFree => winchFrees s.winch.state
  | .winchFault => s.winch.state == .fault
  | .protCaution => s.protection.state != .normal
  | .protLimit => s.protection.state == .limit || s.protection.state == .cutoff
  | .protCutoff => s.protection.state == .cutoff
  | .failsafe => s.link.run == .failsafe
  | .setup => s.link.run == .setup
  | .aux1Band b => s.record.aux1Band == some b
  | .aux2Band b => s.record.aux2Band == some b
  | .inLevel n => inputActive s n

/-- A source that another block owns, or a band source. -/
def Owned (l : LevelSource) : Prop := l ≠ .turnLeft ∧ l ≠ .turnRight

/-- The kept values of the sources of `G` are their owners' conditions. -/
def Follows (G : LevelSource → Prop) (s : State) : Prop := ∀ l, G l → keptValue s.lights.kept l = ownerValue s l

section
variable {G : LevelSource → Prop} {s t : State}

theorem Follows.weaken {H : LevelSource → Prop} (h : Follows G s) (hsub : ∀ l, H l → G l) : Follows H s :=
  fun l hl => h l (hsub l hl)

/-- A change that moves neither a kept value nor a condition of `G`. -/
theorem Follows.of_same (h : Follows G s) (hkept : t.lights.kept = s.lights.kept) (howner : ∀ l, G l → ownerValue t l = ownerValue s l) :
    Follows G t := fun l hl => by rw [hkept, howner l hl, h l hl]

/-- An event that delivers the owners' present conditions settles the sources that it names. -/
theorem Follows.delivered {ms : List (LevelSource × Bool)} (h : Follows (fun l => G l ∧ l ∉ ms.map Prod.fst) s)
    (hdistinct : (ms.map Prod.fst).Nodup) (hpresent : ∀ m ∈ ms, G m.1 → m.2 = ownerValue s m.1)
    (hkept : t.lights.kept = keptAfter ms s.lights.kept) (howner : ∀ l, ownerValue t l = ownerValue s l) : Follows G t := by
  intro l hl
  rw [hkept, howner]
  by_cases hm : l ∈ ms.map Prod.fst
  · obtain ⟨m, hmem, rfl⟩ := List.mem_map.1 hm
    rw [keptAfter_mem hdistinct (v := m.2) hmem, hpresent m hmem hl]
  · rw [keptAfter_other ms _ l fun m hmem heq => hm (List.mem_map.2 ⟨m, hmem, heq⟩)]
    exact h l ⟨hl, hm⟩

theorem ownerValue_putLights (x : Lights) (s : State) (l : LevelSource) : ownerValue (putLights x s) l = ownerValue s l := by
  cases l <;> rfl

theorem ownerValue_lightEvents (ms : List LightMsg) (s : State) (l : LevelSource) :
    ownerValue (lightEvents ms s) l = ownerValue s l := by
  induction ms generalizing s with
  | nil => rfl
  | cons m ms ih => exact (ih (lightEvent m s)).trans (ownerValue_putLights _ s l)

/-! ## The blocks' changes -/

theorem Follows.putSteering (h : Follows G s) (x : Steering) : Follows G (putSteering x s) := by
  intro l hl
  unfold Machine.putSteering
  rw [ownerValue_lightEvents, lightEvents_kept]
  by_cases haligning : l = .aligning
  · subst haligning
    split
    · next hsame => exact (h _ hl).trans (by simp only [ownerValue, hsame])
    · exact (keptValue_set _ _ _ _).trans (if_pos rfl)
  · rw [keptAfter_other]
    · refine (h l hl).trans ?_
      cases l
      case aligning => exact absurd rfl haligning
      all_goals rfl
    · intro m hm
      simp only [List.mem_flatMap, List.mem_ite_nil_left, List.mem_singleton] at hm
      obtain ⟨_, ⟨-, rfl⟩, hm⟩ := hm
      rw [List.mem_singleton.1 hm]
      exact fun heq => haligning heq.symm

theorem Follows.putDrive (h : Follows G s) (x : Drive) : Follows G (putDrive x s) := by
  intro l hl
  have hold := h l hl
  unfold Machine.putDrive
  rw [ownerValue_lightEvents, lightEvents_kept]
  show keptValue (keptAfter ((driveMsgs s.drive x).flatMap (·.sets)) s.lights.kept) l = _
  by_cases hdrive : l = .reverse ∨ l = .braking
  · rcases hdrive with rfl | rfl <;> unfold driveMsgs ownerValue <;>
      split_ifs with hr hb hb <;> simp [keptAfter, keptValue_set, hold, ownerValue, hr, hb]
  · rw [not_or] at hdrive
    rw [keptAfter_other]
    · refine hold.trans ?_
      cases l
      case reverse => exact absurd rfl hdrive.1
      case braking => exact absurd rfl hdrive.2
      all_goals rfl
    · intro m hm
      obtain ⟨y, hy, hm⟩ := List.mem_flatMap.1 hm
      exact driveMsgs_sources hdrive.1 hdrive.2 y hy m hm

theorem Follows.driveCompute (h : Follows G s) : Follows G (driveCompute s) := h.putDrive _

theorem Follows.winchEvent (h : Follows G s) {i : Instr} {u : State} {f : WinchContext → Winch → WinchStep} (hf : WinchOp i u f) :
    Follows G (onWinchEvent f s) := by
  intro l hl
  have htracks := hf.tracks (winchContext s) s.winch
  have hold := h l hl
  have howner (l : LevelSource) : ownerValue (onWinchEvent f s) l =
      ownerValue { s with winch := (f (winchContext s) s.winch).winch, inputs := (onWinchEvent f s).inputs } l := by
    cases l <;> simp [ownerValue, inputActive]
  rw [onWinchEvent_kept, howner]
  cases hsource : winchSource l with
  | true =>
    cases l
    case winchMoving => exact htracks.moving _ hold
    case winchFree => exact htracks.free _ hold
    case winchFault => exact htracks.fault _ hold
    all_goals cases hsource
  | false =>
    rw [htracks.other _ l hsource, hold]
    cases l
    case winchMoving | winchFree | winchFault => cases hsource
    case inLevel n => simp [ownerValue, inputActive, lineActive, onWinchEvent, putWinch]
    all_goals rfl

theorem Follows.lightEvent {m : LightMsg} (h : Follows (fun l => G l ∧ l ∉ m.sets.map Prod.fst) s)
    (hdistinct : (m.sets.map Prod.fst).Nodup) (hpresent : ∀ x ∈ m.sets, G x.1 → x.2 = ownerValue s x.1) :
    Follows G (lightEvent m s) :=
  h.delivered hdistinct hpresent (lightsEvent_kept _ _ _ _ _) (ownerValue_putLights _ s)

/-- A function update settles the bands (R122). -/
theorem functionUpdate_follows (h : Follows Owned s) (r : FunctionRecord) : Follows Owned (functionUpdate r s) := by
  have hrecord : Follows (fun l => Owned l ∧ ∀ b, l ≠ .aux1Band b ∧ l ≠ .aux2Band b) { s with record := r } := by
    intro l hl
    refine (h l hl.1).trans ?_
    cases l
    case aux1Band b => exact absurd rfl (hl.2 b).1
    case aux2Band b => exact absurd rfl (hl.2 b).2
    all_goals rfl
  have hblocks := ((hrecord.putSteering (steeringUpdate s.tables r s.steering)).putDrive
    { throttlePath s.tables.drive s.link.run s.protection.state
        (grantOf (steeringTakesUpdate r { s with record := r }) 1) { s.drive with record := r } with
      s6Active := true, s6Width := auxWidth r.aux2 }).winchEvent (.update (c := .cueTick) (s := s) r)
  have hupdated : ∃ u, functionUpdate r s = lightsUpdate r u ∧ u.record = r
      ∧ Follows (fun l => Owned l ∧ ∀ b, l ≠ .aux1Band b ∧ l ≠ .aux2Band b) u :=
    ⟨winchTakesUpdate r (driveUpdate r (steeringTakesUpdate r { s with record := r })), rfl, by
      simp [winchTakesUpdate, driveUpdate, steeringTakesUpdate], by
      have hstand : driveUpdate r (steeringTakesUpdate r { s with record := r }) = Machine.putDrive
        { throttlePath s.tables.drive s.link.run s.protection.state
            (grantOf (steeringTakesUpdate r { s with record := r }) 1) { s.drive with record := r } with
          s6Active := true, s6Width := auxWidth r.aux2 } (steeringTakesUpdate r { s with record := r }) := by
        simp [driveUpdate, steeringTakesUpdate]
      rw [winchTakesUpdate, hstand]
      exact hblocks⟩
  obtain ⟨u, heq, hu, hfollows⟩ := hupdated
  rw [heq]
  refine Follows.delivered (ms := updateSources u.tables.steer.indicatorThreshold r) (s := u)
    (hfollows.weaken fun l hl => ⟨hl.1, fun b => ⟨fun hband => hl.2 ?_, fun hband => hl.2 ?_⟩⟩)
    (updateSources_nodup _ _) ?_ (lightsEvent_kept _ _ _ _ _) (ownerValue_putLights _ u)
  · rw [hband]
    simp [updateSources]
  · rw [hband]
    simp [updateSources]
  · intro m hm howned
    simp only [updateSources, List.mem_append, List.mem_map, List.mem_cons, List.not_mem_nil, or_false] at hm
    rcases hm with ((rfl | rfl) | ⟨b, -, rfl⟩) | ⟨b, -, rfl⟩
    · exact absurd rfl howned.1
    · exact absurd rfl howned.2
    · rw [ownerValue, hu]
    · rw [ownerValue, hu]

/-- A run-state change settles FAILSAFE and SETUP (R121). -/
theorem deliverRun_follows (h : Follows G s) (n : RunState) : Follows G (deliverRun n s) := by
  have hrun : Follows (fun l => G l ∧ l ∉ (runSources n).sets.map Prod.fst) (putRun n s) := by
    intro l hl
    refine (h l hl.1).trans ?_
    cases l
    case failsafe | setup => exact absurd (by simp [runSources]) hl.2
    all_goals rfl
  have hblocks := (hrun.driveCompute).winchEvent (.runChange (c := .cueTick) (s := s))
  refine Follows.lightEvent hblocks (by simp [runSources]) ?_
  intro m hm _
  simp only [runSources, List.mem_cons, List.not_mem_nil, or_false] at hm
  rcases hm with rfl | rfl <;> simp [ownerValue]

/-- A change of the protection state settles its three sources (R121). -/
theorem deliverProtection_follows (h : Follows G s) (p : Protection) : Follows G (deliverProtection p s) := by
  have hstate : Follows (fun l => G l ∧ l ∉ (protSources p.state).sets.map Prod.fst) (setFlag .protChanged { s with protection := p }) := by
    intro l hl
    refine (h l hl.1).trans ?_
    cases l
    case protCaution | protLimit | protCutoff => exact absurd (by simp [protSources]) hl.2
    all_goals rfl
  have hblocks := (hstate.driveCompute).winchEvent (.protChange (c := .cueTick) (s := s))
  refine Follows.lightEvent hblocks (by simp [protSources]) ?_
  intro m hm _
  simp only [protSources, List.mem_cons, List.not_mem_nil, or_false] at hm
  rcases hm with rfl | rfl | rfl <;> simp [ownerValue]

/-- An event of a line settles that line's source. -/
theorem lineEvent_follows {n : Fin 4} (h : Follows (fun l => G l ∧ l ≠ .inLevel n) s) :
    Follows G (lineEvent n (inputActive s n) s) := by
  have hedge : Follows (fun l => G l ∧ l ≠ .inLevel n) { s with inputs := edgeAtEvent n (inputActive s n) s.inputs } := by
    refine h.of_same rfl fun l _ => ?_
    cases l
    case inLevel m _ => exact edgeAtEvent_lineActive n m _ _ _
    all_goals rfl
  have hwinch := hedge.winchEvent (.line (c := .cueTick) (s := s) n (inputActive s n))
  refine Follows.lightEvent (hwinch.weaken fun l hl => ⟨hl.1, fun hn => hl.2 ?_⟩) (by simp [lineLightMsg]) ?_
  · rw [hn]
    simp [lineLightMsg]
  · intro m hm _
    rw [List.mem_singleton.1 hm]
    have hactive := edgeAtEvent_lineActive n n (inputActive s n) s.inputs s.tables.input
    simpa [ownerValue, inputActive, lineActive] using hactive.symm

/-- Lines whose active level may have been rewritten, each judged once, are settled. -/
theorem lineRewritten_fold_follows {before : Vector InputEntry 4} (ns : List (Fin 4))
    (h : Follows (fun l => G l ∧ ∀ n ∈ ns, l = .inLevel n → before[n].active = s.tables.input[n].active) s) :
    Follows G (ns.foldl (fun x n => lineRewritten before[n].active n x) s) := by
  induction ns generalizing s with
  | nil => exact h.weaken fun l hl => ⟨hl, nofun⟩
  | cons n ns ih =>
    refine ih (s := lineRewritten before[n].active n s) ?_
    rw [lineRewritten_tables]
    unfold lineRewritten
    split
    · next hsame =>
      refine h.weaken fun l hl => ⟨hl.1, fun m hm hline => ?_⟩
      rcases List.mem_cons.1 hm with rfl | hm
      · exact hsame.symm
      · exact hl.2 m hm hline
    · refine lineEvent_follows (h.weaken fun l hl => ⟨hl.1.1, fun m hm hline => ?_⟩)
      rcases List.mem_cons.1 hm with rfl | hm
      · exact absurd hline hl.2
      · exact hl.1.2 m hm hline

theorem takeSample_follows (h : Follows G s) (v : Level) (n : Fin 4) : Follows G (takeSample v n s) := by
  have hput (l : Line) : Follows (fun k => G k ∧ k ≠ .inLevel n) (putLine n l s) := by
    intro k hk
    refine (h k hk.1).trans ?_
    cases k
    case inLevel m =>
      have hnm : n ≠ m := fun heq => hk.2 (by rw [heq])
      simp only [ownerValue, inputActive, lineActive, putLine_line_other hnm]
      rfl
    all_goals rfl
  have hquiet {l : Line} (hl : l.level = s.inputs.lines[n].level) : Follows G (putLine n l s) := by
    refine h.of_same rfl fun k _ => ?_
    cases k
    case inLevel m _ =>
      by_cases hnm : n = m
      · subst hnm
        simp only [ownerValue, inputActive, lineActive, putLine_line_same, hl]
        rfl
      · simp only [ownerValue, inputActive, lineActive, putLine_line_other hnm]
        rfl
    all_goals rfl
  unfold takeSample
  dsimp only
  split
  · exact lineEvent_follows (hput _)
  · next hturn =>
    refine hquiet ?_
    revert hturn
    unfold sampleLine
    split_ifs
    · exact fun _ => rfl
    · exact fun hturn => absurd rfl hturn
    · exact fun _ => rfl

theorem servoPeriodStarted_follows (h : Follows G s) : Follows G (servoPeriodStarted s) := by
  have hstart : Follows G (startPeriod s) := h.of_same rfl fun l _ => by cases l <;> rfl
  have hsteer := hstart.putSteering (steeringPeriod s.tables (grantOf s 0) s.winch.state s.steering)
  have hdrive {u : State} (hu : Follows G u) : Follows G (beginPulses (driveTakesPeriod u)) := by
    unfold driveTakesPeriod
    split
    · exact hu.of_same rfl fun l _ => by cases l <;> rfl
    · exact (hu.driveCompute).of_same rfl fun l _ => by cases l <;> rfl
  exact hdrive hsteer

theorem evaluatePass_follows (h : Follows G s) (l : Vector ScanEntry 8) : Follows G (evaluatePass l s) := by
  rcases evaluatePass_cases l s with ⟨p, heq, hp, -⟩ | ⟨p, c, heq, -⟩
  · rw [heq]
    exact h.of_same rfl fun l _ => by cases l <;> simp [ownerValue, hp, inputActive]
  · rw [heq]
    exact deliverProtection_follows h p

theorem conversionEnded_follows (h : Follows G s) (x : SenseInputs) : Follows G (conversionEnded x s) := by
  have hput {u : State} (y : Scanner) (hu : Follows G u) : Follows G { u with scanner := y } :=
    hu.of_same rfl fun l _ => by cases l <;> rfl
  have hhanded (q : Quantity) (v : Int) {u : State} (hu : Follows G u) : Follows G (handValue q v u) := by
    unfold handValue
    split
    · exact hu.winchEvent (.current (c := .cueTick) (s := s) v)
    · exact hu.winchEvent (.temp (c := .cueTick) (s := s) v)
    · exact hu
  simp only [conversionEnded, completeSlot]
  repeat' split
  · exact h
  · exact h
  · exact hhanded _ _ (hput _ h)
  · exact evaluatePass_follows (hhanded _ _ (hput _ h)) _
  · exact hput _ h

end

end Sys2Proof.Machine

/-! # Sitting 5: the kept values through every step, and O44 -/

namespace Sys2Proof.Machine

section
variable {G : LevelSource → Prop} {s : State}

/-! ## Writes -/

theorem tablesWith_input {t u : Tables} {id : TableId} {i : Nat} {e : List Byte} (h : tablesWith t id i e = some u)
    (hid : id ≠ .input) : u.input = t.input := by
  cases id
  case input => exact absurd rfl hid
  all_goals
    simp only [tablesWith, Option.map_eq_some_iff] at h
    obtain ⟨_, -, rfl⟩ := h
    rfl

theorem Follows.putTables {t : Tables} (h : Follows G s)
    (hinput : ∀ n : Fin 4, G (.inLevel n) → t.input[n].active = s.tables.input[n].active) : Follows G (putTables t s) := by
  refine h.of_same rfl fun l hl => ?_
  cases l
  case inLevel n => simp only [ownerValue, inputActive, lineActive, Machine.putTables, hinput n hl]
  all_goals rfl

theorem Follows.recomputeCap (h : Follows G s) : Follows G (recomputeCap s) :=
  h.of_same rfl fun l _ => by cases l <;> rfl

theorem Follows.wakeScanner (h : Follows G s) : Follows G (wakeScanner s) :=
  h.of_same (by simp) fun l _ => by cases l <;> simp [ownerValue, inputActive]

theorem Follows.putLights (h : Follows G s) {x : Lights} (hkept : x.kept = s.lights.kept) : Follows G (putLights x s) :=
  h.of_same hkept fun l _ => ownerValue_putLights x s l

theorem entryWritten_follows {id : TableId} {i : Nat} {e : List Byte} {t : Tables} (h : Follows G s)
    (ht : tablesWith s.tables id i e = some t) (hi : i < entryCount id) : Follows G (entryWritten id i t s) := by
  by_cases hid : id = .input
  · subst hid
    have hother (n : Fin 4) (hn : n ≠ ⟨i, hi⟩) : t.input[n] = s.tables.input[n] := by
      obtain ⟨x, -, -, rfl⟩ := taken_entry ht
      exact (Vector.getElem_setIfInBounds ..).trans (if_neg fun hik => hn (Fin.ext hik.symm))
    have hwritten : entryWritten .input i t s =
        [⟨i, hi⟩].foldl (fun x n => lineRewritten s.tables.input[n].active n x) (putTables t s) := dif_pos hi
    rw [hwritten]
    refine lineRewritten_fold_follows [⟨i, hi⟩] ((h.weaken fun l hl => hl.1).putTables ?_)
    intro n hn
    by_cases heq : n = ⟨i, hi⟩
    · subst heq
      exact (hn.2 _ (List.mem_singleton_self _) rfl).symm
    · rw [hother n heq]
  · have hput : Follows G (putTables t s) := h.putTables fun n _ => by rw [tablesWith_input ht hid]
    unfold entryWritten ownerWritten
    cases id
    case input => exact absurd rfl hid
    case steer => exact hput.putSteering _
    case drive => exact hput.putDrive _
    case winch => exact hput.winchEvent (.written (c := .cueTick) (s := s))
    case lamp | scene => exact hput.putLights rfl
    case cue =>
      dsimp only
      split
      · exact hput.putLights rfl
      · exact hput
    case scan => exact hput.wakeScanner
    case protect => exact hput.recomputeCap
    all_goals exact hput

/-- The owners' own handling of RESTORE_DEFAULTS, before the lines are judged. -/
theorem ownersRestored_eq (s : State) : ∃ u, ownersRestored s =
      recomputeCap (wakeScanner (putLights (lightsRestored u.tables (grantOf u 3) u.lights) u))
    ∧ u = onWinchEvent winchWritten (driveCompute
      (putSteering (steerFile (putTables defaultTables s).tables.steer (putTables defaultTables s).steering)
        (putTables defaultTables s))) := ⟨_, rfl, rfl⟩

theorem ownersRestored_tables (s : State) : (ownersRestored s).tables = defaultTables := by
  obtain ⟨u, heq, hu⟩ := ownersRestored_eq s
  rw [heq, hu]
  simp [recomputeCap, putTables]

theorem ownersRestored_follows (h : Follows G (putTables defaultTables s)) : Follows G (ownersRestored s) := by
  obtain ⟨u, heq, hu⟩ := ownersRestored_eq s
  have hbefore : Follows G u := by
    rw [hu]
    exact ((h.putSteering _).driveCompute).winchEvent (.written (c := .cueTick) (s := s))
  rw [heq]
  exact ((hbefore.putLights (x := lightsRestored u.tables (grantOf u 3) u.lights) rfl).wakeScanner).recomputeCap

theorem defaultsRestored_eq_fold (s : State) : defaultsRestored s =
    (List.finRange 4).foldl (fun x n => lineRewritten s.tables.input[n].active n x) (ownersRestored s) := rfl

theorem defaultsRestored_follows (h : Follows G s) : Follows G (defaultsRestored s) := by
  have htables : Follows (fun l => G l ∧ ∀ n ∈ List.finRange 4, l = .inLevel n →
      s.tables.input[n].active = defaultTables.input[n].active) (putTables defaultTables s) :=
    (h.weaken fun l hl => hl.1).putTables fun n hn => (hn.2 n (List.mem_finRange n) rfl).symm
  have howners := ownersRestored_follows htables
  rw [defaultsRestored_eq_fold]
  refine lineRewritten_fold_follows (List.finRange 4) ?_
  rw [ownersRestored_tables]
  exact howners

/-! ## Load complete (R136) -/

theorem presentSources_distinct (s : State) : ((presentSources s).map Prod.fst).Nodup := by
  have h : (presentSources s).map Prod.fst =
      [.reverse, .braking, .aligning, .winchMoving, .winchFree, .winchFault, .protCaution, .protLimit, .protCutoff,
        .failsafe, .setup] ++ (List.finRange 4).map LevelSource.inLevel := by
    simp [presentSources, Function.comp_def]
  rw [h]
  decide

theorem presentSources_names {l : LevelSource} (hl : Owned l) (hband : ∀ b, l ≠ .aux1Band b ∧ l ≠ .aux2Band b) (s : State) :
    l ∈ (presentSources s).map Prod.fst := by
  cases l
  case turnLeft => exact absurd rfl hl.1
  case turnRight => exact absurd rfl hl.2
  case aux1Band b => exact absurd rfl (hband b).1
  case aux2Band b => exact absurd rfl (hband b).2
  all_goals simp [presentSources]

theorem presentSources_owned (s : State) : ∀ m ∈ presentSources s, m.2 = ownerValue s m.1 := by
  intro m hm
  simp only [presentSources, List.mem_append, List.mem_map, List.mem_cons, List.not_mem_nil, or_false] at hm
  rcases hm with (rfl | rfl | rfl | rfl | rfl | rfl | rfl | rfl | rfl | rfl | rfl) | ⟨n, -, rfl⟩
  case inl.inr.inr.inr.inl => simp only [ownerValue]; cases s.winch.state <;> rfl
  case inl.inr.inr.inr.inr.inl => simp only [ownerValue]; cases s.winch.state <;> rfl
  all_goals rfl

theorem loadCompleted_follows (v : Vector Level 4) (a b : Level) (hrest : ∀ i : Fin 33, s.lights.kept[i] = false)
    (hrecord : s.record = recordAfterReset) : Follows Owned (loadCompleted v a b s) := by
  have hbands : Follows (fun l => ∃ b, l = .aux1Band b ∨ l = .aux2Band b)
      { loadBegun v s with drive := driveStarted (loadBegun v s) } := by
    rintro l ⟨b, rfl | rfl⟩
    · simp only [keptValue, ownerValue, loadBegun, steeringLoaded, putRun, acceptLevels, loadTables_lights, loadTables_record,
        hrest, hrecord]
      rfl
    · simp only [keptValue, ownerValue, loadBegun, steeringLoaded, putRun, acceptLevels, loadTables_lights, loadTables_record,
        hrest, hrecord]
      rfl
  have hdrive := hbands.driveCompute
  rw [loadCompleted_eq]
  generalize Machine.driveCompute { loadBegun v s with drive := driveStarted (loadBegun v s) } = u at hdrive
  have hready : Follows (fun l => ∃ b, l = .aux1Band b ∨ l = .aux2Band b) (batteryLoaded (winchLoaded a b u)) := by
    rintro l ⟨b, rfl | rfl⟩
    · exact hdrive _ ⟨b, .inl rfl⟩
    · exact hdrive _ ⟨b, .inr rfl⟩
  generalize batteryLoaded (winchLoaded a b u) = w at hready
  refine Follows.delivered (ms := presentSources w) (hready.weaken fun l hl => ?_) (presentSources_distinct w)
    (fun m hm _ => presentSources_owned w m hm) (lightsEvent_kept _ _ _ _ _) (ownerValue_putLights _ w)
  by_contra hband
  exact hl.2 (presentSources_names hl.1 (fun b => ⟨fun h => hband ⟨b, .inl h⟩, fun h => hband ⟨b, .inr h⟩⟩) w)

/-! ## Every step -/

theorem winchFrees_iff (st : WinchState) : winchFrees st = true ↔ st = .clutchOut ∨ st = .freespool ∨ st = .clutchIn := by
  cases st <;> simp [winchFrees]

/-- The completion of a STATUS answer leaves every accepted level. -/
theorem clearReported_lineActive (t : Vector InputEntry 4) (x : Inputs) (n : Fin 4) :
    lineActive (clearReported t x) t n = lineActive x t n := by
  have harm (r : Vector Bool 15) (active : Bool) (m : Fin 4) (l : Line) : (armAfterClearing r active m l).level = l.level := by
    unfold armAfterClearing
    split <;> rfl
  unfold clearReported
  split
  · rfl
  · simp only [lineActive, tab_get, harm]

theorem sourcesFollowOwners_iff (s : State) : SourcesFollowOwners s ↔
    (s.store.loaded = false → ∀ i : Fin 33, s.lights.kept[i] = false) ∧ (s.store.loaded = true → Follows Owned s) := by
  constructor
  · intro h
    refine ⟨h.resting, fun hl l ⟨hleft, hright⟩ => ?_⟩
    rw [Bool.eq_iff_iff]
    cases l with
    | reverse => rw [h.reverse hl, ownerValue]
    | braking => rw [h.braking hl, ownerValue]
    | turnLeft => exact absurd rfl hleft
    | turnRight => exact absurd rfl hright
    | aligning => simpa [ownerValue] using h.aligning hl
    | winchMoving => exact (h.winchMoving hl).trans (winchMoves_iff _).symm
    | winchFree => exact (h.winchFree hl).trans (winchFrees_iff _).symm
    | winchFault => simpa [ownerValue] using h.winchFault hl
    | protCaution => simpa [ownerValue] using h.protCaution hl
    | protLimit => simpa [ownerValue] using h.protLimit hl
    | protCutoff => simpa [ownerValue] using h.protCutoff hl
    | failsafe => simpa [ownerValue] using h.failsafe hl
    | setup => simpa [ownerValue] using h.setup hl
    | aux1Band b => simpa [ownerValue] using (h.bands hl b).1
    | aux2Band b => simpa [ownerValue] using (h.bands hl b).2
    | inLevel n => simpa [ownerValue, inputActive, lineActive] using h.lines hl n
  · rintro ⟨hrest, hfollow⟩
    have hvalue (hl : s.store.loaded = true) (l : LevelSource) (hleft : l ≠ .turnLeft) (hright : l ≠ .turnRight) :
        keptValue s.lights.kept l = true ↔ ownerValue s l = true := by rw [hfollow hl l ⟨hleft, hright⟩]
    exact {
      resting := hrest
      reverse := fun hl => hfollow hl _ ⟨nofun, nofun⟩
      braking := fun hl => hfollow hl _ ⟨nofun, nofun⟩
      aligning := fun hl => (hvalue hl .aligning nofun nofun).trans (by simp [ownerValue])
      winchMoving := fun hl => (hvalue hl .winchMoving nofun nofun).trans (winchMoves_iff _)
      winchFree := fun hl => (hvalue hl .winchFree nofun nofun).trans (winchFrees_iff _)
      winchFault := fun hl => (hvalue hl .winchFault nofun nofun).trans (by simp [ownerValue])
      protCaution := fun hl => (hvalue hl .protCaution nofun nofun).trans (by simp [ownerValue])
      protLimit := fun hl => (hvalue hl .protLimit nofun nofun).trans (by simp [ownerValue])
      protCutoff := fun hl => (hvalue hl .protCutoff nofun nofun).trans (by simp [ownerValue])
      failsafe := fun hl => (hvalue hl .failsafe nofun nofun).trans (by simp [ownerValue])
      setup := fun hl => (hvalue hl .setup nofun nofun).trans (by simp [ownerValue])
      bands := fun hl b => ⟨(hvalue hl (.aux1Band b) nofun nofun).trans (by simp [ownerValue]),
        (hvalue hl (.aux2Band b) nofun nofun).trans (by simp [ownerValue])⟩
      lines := fun hl n => (hvalue hl (.inLevel n) nofun nofun).trans (by simp [ownerValue, inputActive, lineActive]) }

theorem Move.loaded {c : Instr} {s t : State} (h : Move c s t) (hup : StartUp s) (hl : s.store.loaded = true) :
    t.store.loaded = true := by
  rcases h.parts with ⟨v, a, b, _, _, hn, _⟩ | hp
  · rw [hn] at hl
    cases hl
  · exact (hp.keeps (fun _ _ h => h.unitsRun) (hup.unitsRun hl)).loaded

/-- A change of the loaded part keeps LTC's sources with their owners. -/
theorem Move.follows {c : Instr} {s t : State} (h : Move c s t) (hl : s.store.loaded = true) (hs : Follows Owned s) :
    Follows Owned t := by
  cases h with
  | load v a b hc hheld hn =>
    rw [hn] at hl
    cases hl
  | link l hrun => exact hs.of_same rfl fun k _ => by cases k <;> simp [ownerValue, hrun, inputActive]
  | unreport | report | flag | store | release => exact hs.of_same rfl fun k _ => by cases k <;> rfl
  | clearFlags =>
    refine hs.of_same rfl fun k _ => ?_
    cases k
    case inLevel n _ => exact clearReported_lineActive _ _ n
    all_goals rfl
  | update | failsafeValues => exact functionUpdate_follows hs _
  | enterRun | leaveRun | enterSetup | leaveSetup => exact deliverRun_follows hs _
  | winch hf => exact hs.winchEvent (.event (c := c) hf)
  | encoder a b hc => exact hs.winchEvent (.encoder (c := c) (s := s) a b hc)
  | entry id i e t hrun hclass hi ht => exact entryWritten_follows hs ht hi
  | restore => exact defaultsRestored_follows hs
  | clearProtect => exact deliverProtection_follows hs _
  | conversion => exact conversionEnded_follows hs _
  | period => exact servoPeriodStarted_follows hs
  | braking => exact hs.putDrive _
  | cueTick =>
    refine hs.putLights ?_
    simp only [lightsTick]
    split <;> rfl
  | budget => exact hs.of_same (by simp) fun k _ => by cases k <;> simp [ownerValue, inputActive]
  | sample v n => exact takeSample_follows hs v n

theorem loadCompleted_store_loaded (v : Vector Level 4) (a b : Level) (s : State) :
    (loadCompleted v a b s).store.loaded = true := by
  have htables : (loadTables s).store.loaded = true := by
    unfold loadTables
    split <;> rfl
  rw [loadCompleted_eq]
  simpa [batteryLoaded, loadBegun] using htables

theorem Move.keptResting {c : Instr} {s t : State} (h : Move c s t) (hup : StartUp s) (hl : s.store.loaded = false)
    (hs : ∀ i : Fin 33, s.lights.kept[i] = false) :
    (t.store.loaded = false → ∀ i : Fin 33, t.lights.kept[i] = false) ∧ (t.store.loaded = true → Follows Owned t) := by
  rcases h.asleep hup hl with ⟨v, a, b, rfl⟩ | rfl | ⟨hlights, hloaded⟩
  · have hrecord := (hup.records hl).1
    exact ⟨fun hn => absurd hn (by rw [loadCompleted_store_loaded]; exact nofun), fun _ => loadCompleted_follows v a b hs hrecord⟩
  · have hstays : (brakingExpired s).store.loaded = false := by rw [brakingExpired_store, hl]
    refine ⟨fun _ i => ?_, fun hn => absurd hn (by rw [hstays]; exact nofun)⟩
    by_cases hb : s.drive.braking = true
    · have hkept : (brakingExpired s).lights.kept = s.lights.kept.set (keptIndex .braking).val false := by
        rw [brakingExpired_lights, if_pos hb, lightsEvent_kept]
        rfl
      simp only [hkept, Fin.getElem_fin, Vector.getElem_set]
      split
      · rfl
      · exact hs i
    · have hkept : (brakingExpired s).lights.kept = s.lights.kept := by rw [brakingExpired_lights, if_neg hb]
      simp only [hkept]
      exact hs i
  · refine ⟨fun _ i => by rw [hlights]; exact hs i, fun hn => ?_⟩
    rw [hloaded, hl] at hn
    cases hn

end

theorem step_sourcesFollowOwners {s t : State} (hup : StartUp s) (hs : SourcesFollowOwners s) (h : step s = .next t) :
    SourcesFollowOwners t := by
  have hall := step_keeps (P := fun x => StartUp x ∧ (x.store.loaded = false → ∀ i : Fin 33, x.lights.kept[i] = false)
      ∧ (x.store.loaded = true → Follows Owned x)) (fun _ _ hx => ⟨{ hx.1 with }, hx.2.1, fun hl => (hx.2.2 hl).of_same rfl fun k _ => by cases k <;> rfl⟩)
    (fun c x y hm ⟨hup, hrest, hfollow⟩ => ⟨hm.startUp hup, by
      by_cases hl : x.store.loaded = true
      · exact ⟨fun hn => absurd hn (by rw [hm.loaded hup hl]; exact nofun), fun _ => hm.follows hl (hfollow hl)⟩
      · have hn := Bool.eq_false_iff.2 hl
        exact hm.keptResting hup hn (hrest hn)⟩)
    (fun k d x _ => ⟨startUp_resetLeaving k d x, fun _ i => tab_get _ i,
      fun hl => by simp [resetLeaving, resetPart, storeAfterReset] at hl⟩)
    ⟨hup, (sourcesFollowOwners_iff s).1 hs⟩ h
  exact (sourcesFollowOwners_iff t).2 hall.2

/-! ## One composition (R132 to R134) -/

section
variable {cues : Vector CueEntry 16} {o : Fin 12}

theorem winnerOf_none {l : List CueInstance} (h : ∀ i ∈ l, cues[i.cue].mask.getLsbD o.val = false) : winnerOf cues o l = none := by
  induction l with
  | nil => rfl
  | cons i l ih =>
    rw [winnerOf, ih fun j hj => h j (List.mem_cons_of_mem i hj)]
    exact if_neg (by rw [h i List.mem_cons_self]; exact nofun)

/-- A winner is of the list and has the output in its mask. -/
theorem winnerOf_mem {l : List CueInstance} {v : CueInstance} (h : winnerOf cues o l = some v) :
    v ∈ l ∧ cues[v.cue].mask.getLsbD o.val = true := by
  induction l with
  | nil => cases h
  | cons i l ih =>
    rw [winnerOf] at h
    split at h
    · split at h
      · next hmask =>
        cases h
        exact ⟨List.mem_cons_self, hmask⟩
      · cases h
    · next w hw =>
      split at h
      · next hmask =>
        cases h
        exact ⟨List.mem_cons_self, (Bool.and_eq_true_iff.1 hmask).1⟩
      · cases h
        exact ⟨List.mem_cons_of_mem i (ih hw).1, (ih hw).2⟩

/-- The cue that none before it outranks and none after it reaches is the winner (R132). -/
theorem winnerOf_highest {older younger : List CueInstance} {v : CueInstance} (hv : cues[v.cue].mask.getLsbD o.val = true)
    (holder : ∀ i ∈ older, cues[i.cue].mask.getLsbD o.val = true → cues[i.cue].priority ≤ cues[v.cue].priority)
    (hyounger : ∀ i ∈ younger, cues[i.cue].mask.getLsbD o.val = true → cues[i.cue].priority < cues[v.cue].priority) :
    winnerOf cues o (older ++ v :: younger) = some v := by
  induction older with
  | nil =>
    rw [List.nil_append, winnerOf]
    split
    · exact if_pos hv
    · next w hw =>
      obtain ⟨hmem, hmask⟩ := winnerOf_mem hw
      exact if_pos (by rw [hv, decide_eq_true (hyounger w hmem hmask)]; rfl)
  | cons i older ih =>
    rw [List.cons_append, winnerOf, ih fun j hj => holder j (List.mem_cons_of_mem i hj)]
    refine if_neg fun h => ?_
    obtain ⟨hmask, hless⟩ := Bool.and_eq_true_iff.1 h
    exact absurd (of_decide_eq_true hless) (not_lt.2 (holder i List.mem_cons_self hmask))

end

theorem dimmingFor_le (demand grant : Nat) : dimmingFor demand grant ≤ 1000 := by
  unfold dimmingFor
  split
  · exact le_rfl
  · exact min_le_left _ _

theorem composedLevel_enabled {t : Tables} {o : Fin 12} (h : t.lamp[o].enabled = true) (scene : Fin 8) (l : List CueInstance) :
    composedLevel t scene l o =
      match winnerOf t.cue o l with
      | none => t.scene[scene][o]
      | some i => if i.phaseOn then t.cue[i.cue].onLevel else t.cue[i.cue].offLevel :=
  if_neg (by rw [h]; exact nofun)

theorem compose_fields (t : Tables) (grant : Nat) (x : Lights) :
    (compose t grant x).filed = lightsDemand t.lamp (compose t grant x).levels ∧ (compose t grant x).grantUsed = grant
      ∧ (compose t grant x).dimming = dimmingFor (compose t grant x).filed grant
      ∧ (compose t grant x).active = x.active ∧ (compose t grant x).scene = x.scene := by
  simp only [compose, and_self]

theorem compose_output (t : Tables) (grant : Nat) (x : Lights) (o : Fin 12) :
    (compose t grant x).outputs[o] = (compose t grant x).levels[o] * (compose t grant x).dimming / 1000 := by
  simp only [compose]
  exact tab_get _ o

/-- Settles O44: the composition over LTC's operations, and each owner's deliveries, through every step. -/
theorem levelsStayComposed : Obligations.LevelsStayComposed := by
  unfold Obligations.LevelsStayComposed
  refine ⟨⟨fun s t hs hl h => step_levelsSound hs hl h, fun s t hup hs h => step_sourcesFollowOwners hup hs h⟩, ?_⟩
  intro t grant demand factor x y hy hdemand hfactor
  obtain ⟨hfiled, hgrant, hdimming, hactive, hscene⟩ := compose_fields t grant x
  rw [← hy] at hfiled hgrant hdimming hactive hscene
  have hlevel (o : Fin 12) : y.levels[o] = composedLevel t x.scene x.active o := by rw [hy, composed_level]
  have houtput (o : Fin 12) : y.outputs[o] = y.levels[o] * y.dimming / 1000 := by
    rw [hy, compose_output]
  clear hy
  have hsum : y.filed = demand := by
    rw [hfiled, hdemand]
    rfl
  have hratio : y.dimming = factor := by rw [hdimming, hsum, hfactor, dimmingFor]
  refine ⟨hsum, hgrant, hratio, hactive, hscene, fun o => ?_⟩
  have hless : y.outputs[o] ≤ y.levels[o] := by
    rw [houtput, hdimming]
    exact Nat.div_le_of_le_mul (by rw [Nat.mul_comm 1000]; exact Nat.mul_le_mul_left _ (dimmingFor_le _ _))
  refine ⟨by rw [houtput, hratio], hless, fun hoff => ?_, fun hon hnone => ?_, fun older younger v hon hlist hmask holder hyounger => ?_⟩
  · rw [hlevel]
    exact if_pos (by rw [hoff]; rfl)
  · rw [hlevel, composedLevel_enabled hon, winnerOf_none hnone]
  · rw [hlevel, composedLevel_enabled hon, hlist, winnerOf_highest hmask holder hyounger]

end Sys2Proof.Machine

/-! # Sitting 5: start requests at the active cue list, and the events that reach LTC (O43: R124 to R126) -/

namespace Sys2Proof.Machine

/-! ## Start requests one after another (R125, R126) -/

/-- A start request at the list: ignored while its cue is active, judged by the capacity check otherwise. -/
def requestCue (cues : Vector CueEntry 16) (r : Roster) (k : Fin 16) : Roster :=
  if ∃ i ∈ r.active, i.cue = k then r else admitCue cues k r

section
variable {cues : Vector CueEntry 16} {r : Roster}

theorem isActive_iff_exists {k : Fin 16} (l : List CueInstance) : isActive k l = true ↔ ∃ i ∈ l, i.cue = k := by
  rw [isActive_iff, List.mem_map]

theorem requestCue_active {k : Fin 16} (h : ∃ i ∈ r.active, i.cue = k) : requestCue cues r k = r := if_pos h

theorem requestCue_idle {k : Fin 16} (h : ¬∃ i ∈ r.active, i.cue = k) : requestCue cues r k = admitCue cues k r := if_neg h

/-- A request of an enabled cue, not by chaining, is one at the list. -/
theorem startCue_eq_requestCue {kept : Vector Bool 33} {k : Fin 16} (henabled : cues[k].enabled = true) :
    startCue cues kept false k r = requestCue cues r k := by
  by_cases hactive : ∃ i ∈ r.active, i.cue = k
  · rw [requestCue_active hactive, startCue, if_neg (by rw [henabled]; exact nofun), if_pos ((isActive_iff_exists _).2 hactive)]
  · rw [requestCue_idle hactive]
    exact startCue_admits kept henabled (Bool.eq_false_iff.2 fun h => hactive ((isActive_iff_exists _).1 h))

theorem startCues_eq_requests {kept : Vector Bool 33} {ks : List (Fin 16)} (henabled : ∀ k ∈ ks, cues[k].enabled = true) :
    startCues cues kept ks r = ks.foldl (requestCue cues) r := by
  induction ks generalizing r with
  | nil => rfl
  | cons k ks ih =>
    rw [startCues, startCue_eq_requestCue (henabled k List.mem_cons_self), ih fun j hj => henabled j (List.mem_cons_of_mem k hj)]
    rfl

theorem requestCue_congr {q : Roster} {k : Fin 16} (h : q.active = r.active) :
    (requestCue cues q k).active = (requestCue cues r k).active := by
  by_cases hactive : ∃ i ∈ r.active, i.cue = k
  · rw [requestCue_active hactive, requestCue_active (by rw [h]; exact hactive), h]
  · rw [requestCue_idle hactive, requestCue_idle (by rw [h]; exact hactive)]
    unfold admitCue
    rw [h]
    split
    · rfl
    · split
      · exact h
      · split
        · rfl
        · exact h

/-- The list that requests leave depends on the list alone. -/
theorem requests_congr {q : Roster} (ks : List (Fin 16)) (h : q.active = r.active) :
    (ks.foldl (requestCue cues) q).active = (ks.foldl (requestCue cues) r).active := by
  induction ks generalizing q r with
  | nil => exact h
  | cons k ks ih => exact ih (requestCue_congr h)

/-- With room for every cue asked that is not active, each of them is appended, in order. -/
theorem requests_room {ks starting : List (Fin 16)} (hdistinct : ks.Nodup)
    (hstarting : starting = ks.filter fun k => decide (∀ i ∈ r.active, i.cue ≠ k))
    (hroom : r.active.length + starting.length ≤ 8) :
    (ks.foldl (requestCue cues) r).active = r.active ++ starting.map (newInstance cues) := by
  induction ks generalizing r starting with
  | nil => rw [hstarting]; simp
  | cons k ks ih =>
    obtain ⟨hk, hks⟩ := List.nodup_cons.1 hdistinct
    rw [List.foldl_cons]
    by_cases hactive : ∃ i ∈ r.active, i.cue = k
    · rw [requestCue_active hactive]
      refine ih hks ?_ hroom
      rw [hstarting]
      exact List.filter_cons_of_neg (by simpa using hactive)
    · have hfirst : starting = k :: ks.filter fun j => decide (∀ i ∈ r.active, i.cue ≠ j) := by
        rw [hstarting]
        exact List.filter_cons_of_pos (by simpa using hactive)
      have hlen : r.active.length < 8 := by rw [hfirst, List.length_cons] at hroom; omega
      rw [requestCue_idle hactive, admitCue_room hlen, ih (starting := ks.filter fun j => decide (∀ i ∈ r.active, i.cue ≠ j)) hks]
      · rw [hfirst, List.map_cons, List.append_assoc]
        rfl
      · refine List.filter_congr fun j hj => ?_
        have hne : k ≠ j := fun heq => hk (heq ▸ hj)
        simp [newInstance, or_imp, forall_and, hne]
      · rw [hfirst, List.length_cons] at hroom
        rw [List.length_append, List.length_singleton]
        omega

end

/-! ## One event (R124) -/

section
variable {t : Tables} {g : Nat} {composes : Bool} {m : LightMsg} {x : Lights}

/-- The list after an event, by the sources that occur, the cues removed and the cues asked. -/
theorem lightsEvent_requests {occurs : Option Trigger → Bool} {gone : CueInstance → Bool} {asks : Fin 16 → Bool} {y : Lights}
    (hy : y = lightsEvent t g composes m x)
    (hoccurs : ∀ src, occurs src = true ↔
      (∃ l, src = some (.level l) ∧ keptValue x.kept l = false ∧ keptValue y.kept l = true) ∨ ∃ e, src = some (.edge e) ∧ m.fired = some e)
    (hgone : ∀ i, gone i = true ↔
      (t.cue[i.cue].mode = .whileTrue ∧ ∃ l, t.cue[i.cue].trigger = some (.level l) ∧ keptValue x.kept l = true
          ∧ keptValue y.kept l = false) ∨ (t.cue[i.cue].mode = .latch ∧ occurs t.cue[i.cue].cancel = true))
    (hasks : ∀ k, asks k = true ↔ t.cue[k].enabled = true ∧ occurs t.cue[k].trigger = true
      ∧ ¬(t.cue[k].mode = .latch ∧ t.cue[k].cancel = t.cue[k].trigger ∧ ∃ i ∈ x.active, i.cue = k)) :
    y.active = (((List.finRange 16).filter asks).foldl (requestCue t.cue)
      { active := x.active.filter (fun i => !gone i), started := [], changed := true }).active := by
  have hkept : y.kept = keptAfter m.sets x.kept := by rw [hy, lightsEvent_kept]
  have hactive : y.active = (rosterAt t.cue x.kept (keptAfter m.sets x.kept) m.fired x.active).active := by
    rw [hy, lightsEvent_active]
  clear hy
  have hhappens : ∀ src, happens x.kept y.kept m.fired src = occurs src := fun src => by
    rw [Bool.eq_iff_iff, happens_iff, hoccurs]
  have hremoved : removedAt t.cue x.kept y.kept m.fired = gone := by
    funext i
    rw [Bool.eq_iff_iff, removedAt_iff, hgone, hhappens]
  have hrequested : requestedAt t.cue x.kept y.kept m.fired x.active = (List.finRange 16).filter asks := by
    refine List.filter_congr fun k _ => ?_
    rw [Bool.eq_iff_iff, hasks, hhappens, togglesOff]
    simp only [Bool.and_eq_true, Bool.not_eq_true', Bool.eq_false_iff, beq_iff_eq, ne_eq, isActive_iff_exists, and_assoc]
  have henabled : ∀ k ∈ (List.finRange 16).filter asks, t.cue[k].enabled = true :=
    fun k hk => ((hasks k).1 (List.mem_filter.1 hk).2).1
  rw [hactive, ← hkept, rosterAt, hrequested, hremoved, startCues_eq_requests henabled]
  exact requests_congr _ rfl

end

/-! ## The events of one command (R119, R121, R122) -/

/-- What STC, DRV and WCH deliver before LTC takes the update. -/
theorem functionUpdate_lights (r : FunctionRecord) (s : State) : ∃ u : State,
    (functionUpdate r s).lights =
        lightsEvent s.tables (grantOf s 3) (s.lights.scene != sceneOf r.lightSelBand)
          { sets := updateSources s.tables.steer.indicatorThreshold r, fired := none }
          { u.lights with scene := sceneOf r.lightSelBand }
      ∧ u = onWinchEvent (fun c w => winchUpdate c r w) (putDrive
          { throttlePath s.tables.drive s.link.run s.protection.state (grantOf s 1) { s.drive with record := r } with
            s6Active := true, s6Width := auxWidth r.aux2 }
          (putSteering (steeringUpdate s.tables r s.steering) { s with record := r })) := by
  have hupdate : functionUpdate r s = lightsUpdate r (onWinchEvent (fun c w => winchUpdate c r w) (putDrive
          { throttlePath s.tables.drive s.link.run s.protection.state (grantOf s 1) { s.drive with record := r } with
            s6Active := true, s6Width := auxWidth r.aux2 }
          (putSteering (steeringUpdate s.tables r s.steering) { s with record := r }))) := by
    simp [functionUpdate, winchTakesUpdate, driveUpdate, steeringTakesUpdate, grantOf]
  obtain ⟨u, hu⟩ : ∃ u, u = onWinchEvent (fun c w => winchUpdate c r w) (putDrive
          { throttlePath s.tables.drive s.link.run s.protection.state (grantOf s 1) { s.drive with record := r } with
            s6Active := true, s6Width := auxWidth r.aux2 }
          (putSteering (steeringUpdate s.tables r s.steering) { s with record := r })) := ⟨_, rfl⟩
  refine ⟨u, ?_, hu⟩
  have htables : u.tables = s.tables := by rw [hu]; simp
  have hgrant : grantOf u 3 = grantOf s 3 := by rw [hu]; simp [grantOf]
  have hscene : u.lights.scene = s.lights.scene := by
    rw [hu, onWinchEvent, putWinch, lightEvents_scene]
    exact (putDrive_scene _ _).trans (lightEvents_scene _ _)
  rw [hupdate, ← hu, lightsUpdate, putLights_lights, htables, hgrant, hscene]

/-- The turn and the band sources stand while STC, DRV and WCH deliver theirs. -/
theorem blocksUpdated_kept {i : Instr} {v : State} {f : WinchContext → Winch → WinchStep} (hf : WinchOp i v f) (x : Steering) (y : Drive)
    (s : State) {l : LevelSource} (hl : l = .turnLeft ∨ l = .turnRight ∨ ∃ b, l = .aux1Band b ∨ l = .aux2Band b) :
    keptValue (onWinchEvent f (putDrive y (putSteering x s))).lights.kept l = keptValue s.lights.kept l := by
  have hwinch : winchSource l = false := by rcases hl with rfl | rfl | ⟨b, rfl | rfl⟩ <;> rfl
  have hdrive : l ≠ .reverse ∧ l ≠ .braking := by rcases hl with rfl | rfl | ⟨b, rfl | rfl⟩ <;> exact ⟨nofun, nofun⟩
  have hsteer : l ≠ .aligning := by rcases hl with rfl | rfl | ⟨b, rfl | rfl⟩ <;> exact nofun
  rw [onWinchEvent_kept, (hf.tracks _ _).other _ l hwinch, putDrive_kept hdrive.1 hdrive.2]
  refine lightEvents_kept_other (fun m hm z hz => ?_) _
  simp only [List.mem_ite_nil_left, List.mem_singleton] at hm
  rw [hm.2] at hz
  rw [List.mem_singleton.1 hz]
  exact fun heq => hsteer heq.symm

/-- A resting winch outside RUN delivers nothing at a function update. -/
theorem winchUpdate_resting {c : WinchContext} {w : Winch} (hc : c.run ≠ .run) (h : w.state = .idle ∨ w.state = .fault)
    (r : FunctionRecord) : (winchUpdate c r w).msgs = [] := by
  have hstate : (informed c w r).state = w.state := rfl
  have hrequest : actOnRequest c (winchBegin (informed c w r)) = winchBegin (informed c w r) := by
    rw [actOnRequest_engaged c (by rw [winchBegin_winch, hstate]; rcases h with h | h <;> rw [h] <;> rfl)]
    exact tryRelease_not_due c (releaseDue_outside (.inl hc) _)
  have hallowed : startAllowed c (informed c w r) = false :=
    Bool.eq_false_iff.2 fun hallowed => hc ((startAllowed_iff _ _).1 hallowed).1
  have hcommand : actOnCommand c (winchBegin (informed c w r)) = winchBegin (informed c w r) := by
    rcases h with h | h
    · refine actOnCommand_stays c (.inl (hstate.trans h)) (fun _ => ?_) (fun _ => ?_)
      · exact Bool.and_eq_false_iff.2 (.inl hallowed)
      · exact Bool.and_eq_false_iff.2 (.inl hallowed)
    · exact actOnCommand_heedless c (by rw [winchBegin_winch, hstate, h]; rfl)
  rw [winchUpdate_eq, hrequest, hcommand]
  rfl

/-- In SETUP, aligning, with DRV and the winch at rest, nothing reaches LTC before the update itself. -/
theorem blocksUpdated_quiet {s : State} {r : FunctionRecord} (hrun : s.link.run ≠ .run) (halign : s.steering.status = .align)
    (ht2 : s.drive.t2 = 0) (hreverse : s.drive.reverse = false) (hdelta : 1 ≤ s.tables.drive.brakeDelta)
    (hwinch : s.winch.state = .idle ∨ s.winch.state = .fault) :
    (onWinchEvent (fun c w => winchUpdate c r w) (putDrive
      { throttlePath s.tables.drive s.link.run s.protection.state (grantOf s 1) { s.drive with record := r } with
        s6Active := true, s6Width := auxWidth r.aux2 }
      (putSteering (steeringUpdate s.tables r s.steering) { s with record := r }))).lights = s.lights := by
  have hsteer : putSteering (steeringUpdate s.tables r s.steering) { s with record := r } =
      { s with record := r, steering := steeringUpdate s.tables r s.steering
               budget := fileClaim 0 s.steering.filed (steeringUpdate s.tables r s.steering).filed s.budget } :=
    putSteering_same_status (halign.trans (steeringUpdate_align_targets halign).1.symm)
  obtain ⟨y, hy⟩ : ∃ y, y = { throttlePath s.tables.drive s.link.run s.protection.state (grantOf s 1) { s.drive with record := r } with
      s6Active := true, s6Width := auxWidth r.aux2 } := ⟨_, rfl⟩
  have hyreverse : y.reverse = s.drive.reverse := by
    rw [hy, hreverse]
    exact (throttlePath_outside hrun _ _ _ _).2.2.2
  have hybraking : y.braking = s.drive.braking := by
    have hfall : throttleFall s.tables.drive s.drive.t2
        (throttlePath s.tables.drive s.link.run s.protection.state (grantOf s 1) { s.drive with record := r }).t2 = false := by
      rw [← Bool.not_eq_true, throttleFall_iff, ht2]
      rintro ⟨-, hle⟩
      rw [Int.natAbs_zero] at hle
      omega
    have hor : y.braking = (s.drive.braking || throttleFall s.tables.drive s.drive.t2
        (throttlePath s.tables.drive s.link.run s.protection.state (grantOf s 1) { s.drive with record := r }).t2) := by
      rw [hy]
      rfl
    rw [hor, hfall, Bool.or_false]
  rw [← hy, hsteer]
  have hdrive (u : State) (hu : u.drive = s.drive) : (putDrive y u).lights = u.lights := by
    have hnone : driveMsgs u.drive y = [] := by
      rw [driveMsgs, hu, if_pos hyreverse.symm, if_pos hybraking.symm]
      rfl
    rw [putDrive, hnone]
    rfl
  rw [onWinchEvent_lights, winchUpdate_resting]
  · exact hdrive _ rfl
  · simpa [winchContext] using hrun
  · simpa using hwinch

end Sys2Proof.Machine

/-! # Sitting 5: the events of lines, of BRAKING and of the line end, and O43 -/

namespace Sys2Proof.Machine

/-! ## A line that alone accepts (R171) -/

theorem takeSample_lights_aside {n : Fin 4} (h₀ : n ≠ 0) (h₁ : n ≠ 1) {v : Level} {s : State} (h : AcceptsSample s n v) :
    (takeSample v n s).lights =
      lightsEvent s.tables (grantOf s 3) false (lineLightMsg n (v == s.tables.input[n].active)) s.lights := by
  rw [takeSample_accepts h, lineEvent_lights, winchLineEvent_aside _ h₀ h₁]
  rfl

/-- What a sample that its line does not accept leaves, apart from that line's run count. -/
structure Unheard (s t : State) : Prop where
  lights : t.lights = s.lights
  tables : t.tables = s.tables
  budget : t.budget = s.budget

theorem Unheard.refl (s : State) : Unheard s s := ⟨rfl, rfl, rfl⟩

theorem Unheard.sample {s t : State} (h : Unheard s t) {n : Fin 4} {v : Level} (hq : ¬AcceptsSample t n v) :
    Unheard s (takeSample v n t) := by
  obtain ⟨l, hl⟩ := takeSample_quiet hq
  rw [hl]
  exact ⟨h.lights, h.tables, h.budget⟩

/-- One of IN2 and IN3 accepts its sample and no other line does: one event, that line's own. -/
theorem takeSamples_single {s : State} {v : Vector Level 4} {n : Fin 4} (hn : n = 2 ∨ n = 3) (h : AcceptsSample s n v[n])
    (hothers : ∀ j, j ≠ n → ¬AcceptsSample s j v[j]) :
    (takeSamples v s).lights =
      lightsEvent s.tables (grantOf s 3) false (lineLightMsg n (v[n] == s.tables.input[n].active)) s.lights := by
  have hnone {j : Fin 4} {u : State} (hj : j ≠ n) (ho : OtherLine j s u) : ¬AcceptsSample u j v[j] :=
    fun k => hothers j hj ((ho.accepts_iff _).1 k)
  have hheard {u : State} (hu : Unheard s u) (ho : OtherLine n s u) : (takeSample v[n] n u).lights =
      lightsEvent s.tables (grantOf s 3) false (lineLightMsg n (v[n] == s.tables.input[n].active)) s.lights := by
    rw [takeSample_lights_aside (by rcases hn with rfl | rfl <;> decide) (by rcases hn with rfl | rfl <;> decide)
      ((ho.accepts_iff _).2 h), hu.tables, grantOf, hu.budget, hu.lights]
    rfl
  have ho (m j : Fin 4) (hmj : m ≠ j) {u : State} (k : OtherLine j s u) : OtherLine j s (takeSample v[m] m u) :=
    (takeSample_otherLine hmj _ _).after k
  have h0 : Unheard s (takeSample v[0] 0 s) := (Unheard.refl s).sample (hothers 0 (by rcases hn with rfl | rfl <;> decide))
  have h1 : Unheard s (takeSample v[1] 1 (takeSample v[0] 0 s)) :=
    h0.sample (hnone (by rcases hn with rfl | rfl <;> decide) (ho 0 1 (by decide) (.refl _ _)))
  rw [takeSamples_eq]
  rcases hn with rfl | rfl
  · have hline := hheard h1 (ho 1 2 (by decide) (ho 0 2 (by decide) (.refl _ _)))
    have hquiet : ¬AcceptsSample (takeSample v[(2 : Fin 4)] 2 (takeSample v[1] 1 (takeSample v[0] 0 s))) 3 v[(3 : Fin 4)] :=
      hnone (by decide) (ho 2 3 (by decide) (ho 1 3 (by decide) (ho 0 3 (by decide) (.refl _ _))))
    exact (takeSample_winch_quiet hquiet).2.trans hline
  · have h2 : Unheard s (takeSample v[(2 : Fin 4)] 2 (takeSample v[1] 1 (takeSample v[0] 0 s))) :=
      h1.sample (hnone (by decide) (ho 1 2 (by decide) (ho 0 2 (by decide) (.refl _ _))))
    exact hheard h2 (ho 2 3 (by decide) (ho 1 3 (by decide) (ho 0 3 (by decide) (.refl _ _))))

/-! ## The line end (R98) -/

/-- A pay-out step to the line end outside PAY_OUT delivers LINE_END and no more. -/
theorem winchEncoder_lineEnd {s : State} {a b : Level} (hpair : (a, b) = payOutNext (s.winch.enca, s.winch.encb))
    (hhomed : s.winch.homed = true) (hline : s.winch.line + 1 = (s.tables.winch.maxLine : Int))
    (hmax : s.tables.winch.maxLine ≤ 65535) (hstate : s.winch.state ≠ .payOut) :
    (winchEncoder (winchContext s) a b s.winch).msgs = [{ sets := [], fired := some .lineEnd }] := by
  have hstep : encoderStep s.winch a b = 1 := (encoderStep_eq ..).trans (if_pos hpair)
  have hcounted : encoderStep s.winch a b ≠ 0 ∧ (s.winch.line + encoderStep s.winch a b).natAbs ≤ 65535 := by
    rw [hstep, hline]
    exact ⟨by decide, by omega⟩
  have hreached : lineEndReached (winchContext s) (countedWinch (winchContext s) 1 (paired a b s.winch)) = true :=
    (lineEndReached_iff _ _).2 ⟨hhomed, hline⟩
  rw [encoder_counted hcounted, hstep, homeMissed_of_lineEnd _ hreached, if_neg Bool.false_ne_true,
    lineEndStep_reached _ (by decide) hreached]
  rw [if_neg (show ¬(countedWinch (winchContext s) 1 (paired a b s.winch)).state = .payOut from hstate)]

theorem updateSources_eq (threshold : Nat) (r : FunctionRecord) :
    updateSources threshold r =
      [(.turnLeft, decide (r.steer < -(threshold : Int))), (.turnRight, decide ((threshold : Int) < r.steer))]
        ++ (List.finRange 8).map (fun b => (.aux1Band b, decide (r.aux1Band = some b)))
        ++ (List.finRange 8).map (fun b => (.aux2Band b, decide (r.aux2Band = some b))) := by
  simp only [updateSources, beq_eq_decide]

/-- Settles O43: the list and its WHILE cues through every step, the capacity check, one event, and the events that reach
LTC. -/
theorem activeCueListCapacity : Obligations.ActiveCueListCapacity := by
  unfold Obligations.ActiveCueListCapacity
  refine ⟨⟨fun s t hs h => step_cueListSound hs h, fun s t hup hv hs h => step_cuesFollowSources hup hv hs h⟩, ?_, ?_, ?_, ?_, ?_, ?_⟩
  · rintro cues k r fresh hnodup rfl
    refine ⟨fun hroom => by rw [admitCue_room hroom]; rfl, fun older younger v hfull hr hold hyoung => ?_⟩
    rw [admitCue_full hfull hnodup hr hold hyoung]
    refine ⟨fun hless => ?_, fun hle => by rw [if_neg (not_lt.2 hle)]⟩
    rw [if_pos hless]
    rfl
  · intro t grant composes m x y occurs gone asks left asked hy hoccurs hgone hasks hleft hasked
    have hkept : y.kept = keptAfter m.sets x.kept := by rw [hy, lightsEvent_kept]
    have hactive := lightsEvent_requests hy hoccurs hgone hasks
    rw [← hleft, ← hasked] at hactive
    refine ⟨fun l hl => ?_, fun hdistinct l v hm => ?_, hactive, fun starting hstarting hroom => ?_⟩
    · rw [hkept]
      exact keptAfter_other m.sets _ l fun z hz heq => hl z.2 (heq ▸ hz)
    · rw [hkept, keptAfter_mem hdistinct hm]
    · rw [hactive]
      exact requests_room (r := ⟨left, [], true⟩) (hasked ▸ (List.nodup_finRange 16).filter _) hstarting hroom
  · intro p s r hs hp hrun hr
    obtain ⟨l, hexec, -⟩ := exec_channels_update hs hp hrun hr
    obtain ⟨u, hlights, hu⟩ := functionUpdate_lights r (heldAt s)
    refine ⟨_, u.lights, hexec, fun k hk => ?_, fun hsetup halign ht2 hreverse hdelta hwinch => ?_, ?_⟩
    · rw [hu]
      exact blocksUpdated_kept (.update (c := .cueTick) (s := s) r) _ _ _ hk
    · rw [hu]
      exact blocksUpdated_quiet (s := heldAt s) (by rw [show (heldAt s).link.run = s.link.run from rfl, hsetup]; decide)
        halign ht2 hreverse hdelta hwinch
    · have hlist : updateSources s.tables.steer.indicatorThreshold r = _ := updateSources_eq _ r
      have hscene : (s.lights.scene != sceneOf r.lightSelBand) = decide (r.lightSelBand.getD 0 ≠ s.lights.scene) := by
        rw [Bool.eq_iff_iff, bne_iff_ne, decide_eq_true_iff, ne_comm]
        rfl
      rw [← hlist, ← hscene]
      exact hlights
  · intro s in0 in1 in2 in3 samples n hticking hsamples hn hdiffers hdebounce hothers
    refine ⟨_, exec_sampleTick hticking in0 in1 in2 in3, ?_⟩
    rw [← hsamples, takeSamples_single hn ⟨hdiffers, hdebounce⟩ fun j hj k => ?_]
    · rw [lineLightMsg, beq_eq_decide]
      simp only [decide_eq_true_eq]
      rfl
    · rcases hothers j hj with hsame | hcount
      · exact k.1 hsame
      · exact absurd k.2 (not_le.2 hcount)
  · intro s hrunning hbraking
    refine ⟨_, exec_brakingTimerExpiry hrunning, ?_⟩
    rw [brakingExpired_lights, if_pos hbraking]
    rfl
  · intro s a b hticking hpair hhomed hline hmax hstate
    refine ⟨_, (exec_encoderCount a b s).trans (congrArg _ (if_pos hticking)), ?_⟩
    rw [onWinchEvent_lights, winchEncoder_lineEnd hpair hhomed hline hmax hstate]
    rfl

end Sys2Proof.Machine

/-! # Sitting 5: the cue tick (O42: R128, R129) -/

namespace Sys2Proof.Machine

/-! ## The plan of a tick -/

/-- The cues of a list. -/
abbrev cuesOf (l : List CueInstance) : List (Fin 16) := l.map (·.cue)

/-- What a tick makes of an entry of the list, and what a completion removes and asks for (R128, R129). -/
structure TickPlan (cues : Vector CueEntry 16) (kept : Vector Bool 33) (ends : CueInstance → Bool)
    (next : CueInstance → CueInstance) (left : CueInstance → List CueInstance → List CueInstance)
    (chained : CueInstance → List (Fin 16)) (triggered : CueInstance → List CueInstance → List (Fin 16)) : Prop where
  ends_iff : ∀ i, ends i = true ↔ i.timeLeft ≤ 1 ∧ i.phaseOn = false ∧ cues[i.cue].mode = .oneShot ∧ i.cyclesLeft ≤ 1
  counts : ∀ i, 1 < i.timeLeft → next i = { i with timeLeft := i.timeLeft - 1 }
  turnsOff : ∀ i, i.timeLeft ≤ 1 → i.phaseOn = true → next i = { i with phaseOn := false, timeLeft := cues[i.cue].offTime }
  turnsOn : ∀ i, i.timeLeft ≤ 1 → i.phaseOn = false → cues[i.cue].mode ≠ .oneShot →
    next i = { i with phaseOn := true, timeLeft := cues[i.cue].onTime }
  cycles : ∀ i, i.timeLeft ≤ 1 → i.phaseOn = false → cues[i.cue].mode = .oneShot → 1 < i.cyclesLeft →
    next i = { i with phaseOn := true, timeLeft := cues[i.cue].onTime, cyclesLeft := i.cyclesLeft - 1 }
  stands : ∀ i, ends i = true → next i = i
  left_eq : ∀ i l, left i l = l.filter fun j => decide (j.cue ≠ i.cue
    ∧ ¬(cues[j.cue].mode = .latch ∧ cues[j.cue].cancel = some (.edge (.cueDone i.cue))))
  single : ∀ i, (chained i).length ≤ 1
  chained_iff : ∀ i j, j ∈ chained i ↔ cues[i.cue].chain = some j ∧ cues[j].enabled = true
    ∧ (cues[j].mode = .whileTrue → ∃ l, cues[j].trigger = some (.level l) ∧ keptValue kept l = true)
  triggered_eq : ∀ i l, triggered i l = (List.finRange 16).filter fun j =>
    decide (cues[j].enabled = true ∧ cues[j].trigger = some (.edge (.cueDone i.cue))
      ∧ ¬(cues[j].mode = .latch ∧ cues[j].cancel = cues[j].trigger ∧ ∃ x ∈ l, x.cue = j))

/-- The list after a completion, taken where the completing entry still stands (R129). -/
def completed (cues : Vector CueEntry 16) (left : CueInstance → List CueInstance → List CueInstance)
    (chained : CueInstance → List (Fin 16)) (triggered : CueInstance → List CueInstance → List (Fin 16))
    (l : List CueInstance) (i : CueInstance) : List CueInstance :=
  if i ∈ l then
    ((chained i ++ triggered i l).foldl (requestCue cues) { active := left i l, started := [], changed := true }).active
  else l

/-- An entry as it stands when the tick has counted it down: those still to be walked, and not started in this tick. -/
def counted (next : CueInstance → CueInstance) (todo started : List (Fin 16)) (i : CueInstance) : CueInstance :=
  if i.cue ∈ todo ∧ i.cue ∉ started then next i else i

/-- A walk in progress: of the entries of the cues to come, those not started in this tick are the ones that stood when
it began, and those started in it are in their ON phase. -/
structure Walking (todo : List CueInstance) (r : Roster) : Prop where
  distinct : (cuesOf r.active).Nodup
  pending : ∀ i ∈ r.active, i.cue ∉ r.started → i.cue ∈ cuesOf todo → i ∈ todo
  fresh : ∀ i ∈ r.active, i.cue ∈ r.started → i.phaseOn = true

section
variable {cues : Vector CueEntry 16} {kept : Vector Bool 33} {ends : CueInstance → Bool}
  {next : CueInstance → CueInstance} {left : CueInstance → List CueInstance → List CueInstance}
  {chained : CueInstance → List (Fin 16)} {triggered : CueInstance → List CueInstance → List (Fin 16)}

theorem TickPlan.next_cue (p : TickPlan cues kept ends next left chained triggered) (i : CueInstance) : (next i).cue = i.cue := by
  by_cases htime : 1 < i.timeLeft
  · rw [p.counts i htime]
  · have hend : i.timeLeft ≤ 1 := not_lt.1 htime
    cases hphase : i.phaseOn with
    | true => rw [p.turnsOff i hend hphase]
    | false =>
      by_cases hmode : cues[i.cue].mode = .oneShot
      · by_cases hcycles : 1 < i.cyclesLeft
        · rw [p.cycles i hend hphase hmode hcycles]
        · rw [p.stands i ((p.ends_iff i).2 ⟨hend, hphase, hmode, not_lt.1 hcycles⟩)]
      · rw [p.turnsOn i hend hphase hmode]

theorem counted_cue (hnext : ∀ i, (next i).cue = i.cue) (todo started : List (Fin 16)) (i : CueInstance) :
    (counted next todo started i).cue = i.cue := by
  unfold counted
  split
  · exact hnext i
  · rfl

theorem counted_started {todo started : List (Fin 16)} {i : CueInstance} (h : i.cue ∈ started) : counted next todo started i = i :=
  if_neg fun k => k.2 h

/-! ## Start requests at the walk and at the counted list -/

theorem victimOf_map {f : CueInstance → CueInstance} (hf : ∀ i, (f i).cue = i.cue) (l : List CueInstance) :
    victimOf cues (l.map f) = (victimOf cues l).map f := by
  induction l with
  | nil => rfl
  | cons i l ih =>
    rw [List.map_cons, victimOf, ih, victimOf]
    cases victimOf cues l with
    | none => rfl
    | some v =>
      simp only [Option.map_some, hf]
      split <;> rfl

theorem filter_map_cue {f : CueInstance → CueInstance} (hf : ∀ i, (f i).cue = i.cue) (p : Fin 16 → Bool) (l : List CueInstance) :
    (l.map f).filter (fun i => p i.cue) = (l.filter fun i => p i.cue).map f := by
  rw [List.filter_map]
  congr 1
  exact List.filter_congr fun i _ => congrArg p (hf i)

/-- A list of requests is taken at the counted list as at the walk's own. -/
theorem requestCue_counted (hnext : ∀ i, (next i).cue = i.cue) {todo : List (Fin 16)} {r q : Roster} (k : Fin 16)
    (h : q.active = r.active.map (counted next todo r.started)) :
    (requestCue cues q k).active = (requestCue cues r k).active.map (counted next todo (requestCue cues r k).started) := by
  have hcue := counted_cue hnext todo r.started
  have hsame : (∃ i ∈ q.active, i.cue = k) ↔ ∃ i ∈ r.active, i.cue = k := by
    rw [h]
    simp [hcue]
  by_cases hactive : ∃ i ∈ r.active, i.cue = k
  · rw [requestCue_active hactive, requestCue_active (hsame.2 hactive), h]
  · have hrest (l : List CueInstance) (hl : ∀ i ∈ l, i ∈ r.active) :
        l.map (counted next todo r.started) ++ [newInstance cues k] =
          (l ++ [newInstance cues k]).map (counted next todo (k :: r.started)) := by
      rw [List.map_append, List.map_singleton, counted_started (show (newInstance cues k).cue ∈ k :: r.started from List.mem_cons_self)]
      congr 1
      refine List.map_congr_left fun i hi => ?_
      have hne : i.cue ≠ k := fun heq => hactive ⟨i, hl i hi, heq⟩
      simp [counted, hne]
    rw [requestCue_idle hactive, requestCue_idle fun hq => hactive (hsame.1 hq)]
    unfold admitCue
    rw [h, List.length_map, victimOf_map hcue]
    split
    · exact hrest r.active fun _ hi => hi
    · cases victimOf cues r.active with
      | none => exact h
      | some v =>
        simp only [Option.map_some, hcue]
        split
        · have hfilter := filter_map_cue hcue (fun c => c != v.cue) r.active
          rw [hfilter]
          exact hrest _ fun i hi => List.mem_of_mem_filter hi
        · exact h

theorem requests_counted (hnext : ∀ i, (next i).cue = i.cue) {todo : List (Fin 16)} {r q : Roster} (ks : List (Fin 16))
    (h : q.active = r.active.map (counted next todo r.started)) :
    (ks.foldl (requestCue cues) q).active =
      (ks.foldl (requestCue cues) r).active.map (counted next todo (ks.foldl (requestCue cues) r).started) := by
  induction ks generalizing q r with
  | nil => exact h
  | cons k ks ih => exact ih (requestCue_counted hnext k h)

theorem Walking.request {todo : List CueInstance} {r : Roster} (h : Walking todo r) (k : Fin 16) :
    Walking todo (requestCue cues r k) := by
  have hstarts (l : List CueInstance) (hl : l.Sublist r.active) (hidle : ¬∃ i ∈ r.active, i.cue = k) :
      Walking todo { active := l ++ [newInstance cues k], started := k :: r.started, changed := true } := by
    have hnot : k ∉ cuesOf l := fun hk => by
      obtain ⟨i, hi, hik⟩ := List.mem_map.1 hk
      exact hidle ⟨i, hl.subset hi, hik⟩
    refine ⟨?_, fun i hi hns hin => ?_, fun i hi hs => ?_⟩
    · rw [cuesOf, List.map_append, List.nodup_append]
      refine ⟨h.distinct.sublist (hl.map _), List.nodup_singleton _, fun a ha b hb heq => hnot ?_⟩
      have hbk : b = k := List.mem_singleton.1 hb
      rw [← hbk, ← heq]
      exact ha
    · rcases List.mem_append.1 hi with hold | hnew
      · exact h.pending i (hl.subset hold) (fun hs => hns (List.mem_cons_of_mem k hs)) hin
      · rw [List.mem_singleton.1 hnew] at hns
        exact absurd List.mem_cons_self hns
    · rcases List.mem_append.1 hi with hold | hnew
      · rcases List.mem_cons.1 hs with heq | hs
        · exact absurd ⟨i, hl.subset hold, heq⟩ hidle
        · exact h.fresh i (hl.subset hold) hs
      · rw [List.mem_singleton.1 hnew]
        rfl
  by_cases hactive : ∃ i ∈ r.active, i.cue = k
  · rw [requestCue_active hactive]
    exact h
  · rw [requestCue_idle hactive]
    unfold admitCue
    split
    · exact hstarts _ (List.Sublist.refl _) hactive
    · split
      · exact h
      · split
        · exact hstarts _ List.filter_sublist hactive
        · exact h

theorem Walking.requests {todo : List CueInstance} {r : Roster} (h : Walking todo r) (ks : List (Fin 16)) :
    Walking todo (ks.foldl (requestCue cues) r) := by
  induction ks generalizing r with
  | nil => exact h
  | cons k ks ih => exact ih (h.request k)

theorem Walking.filter {todo : List CueInstance} {r : Roster} (h : Walking todo r) (p : CueInstance → Bool) :
    Walking todo { r with active := r.active.filter p, changed := true } :=
  ⟨h.distinct.sublist (List.filter_sublist.map _), fun i hi => h.pending i (List.mem_of_mem_filter hi),
    fun i hi => h.fresh i (List.mem_of_mem_filter hi)⟩

end

end Sys2Proof.Machine

/-! # Sitting 5: the walk of a cue tick, and O42 -/

namespace Sys2Proof.Machine

section
variable {cues : Vector CueEntry 16} {kept : Vector Bool 33} {ends : CueInstance → Bool}
  {next : CueInstance → CueInstance} {left : CueInstance → List CueInstance → List CueInstance}
  {chained : CueInstance → List (Fin 16)} {triggered : CueInstance → List CueInstance → List (Fin 16)}

/-! ## One entry counted down (R128) -/

theorem TickPlan.ends_false (p : TickPlan cues kept ends next left chained triggered) {i : CueInstance} (h : ends i = false)
    (htime : i.timeLeft ≤ 1) (hphase : i.phaseOn = false) (hmode : cues[i.cue].mode = .oneShot) : 1 < i.cyclesLeft := by
  by_contra hcycles
  rw [(p.ends_iff i).2 ⟨htime, hphase, hmode, not_lt.1 hcycles⟩] at h
  cases h

theorem TickPlan.countDown_goesOn (p : TickPlan cues kept ends next left chained triggered) {i : CueInstance} (h : ends i = false)
    (r : Roster) :
    (countDown cues kept i r).active = replaceInstance i.cue (next i) r.active ∧ (countDown cues kept i r).started = r.started := by
  by_cases htime : i.timeLeft ≤ 1
  · cases hphase : i.phaseOn with
    | true =>
      rw [p.turnsOff i htime hphase]
      simp [countDown, htime, hphase]
    | false =>
      by_cases hmode : cues[i.cue].mode = .oneShot
      · have hcycles := p.ends_false h htime hphase hmode
        rw [p.cycles i htime hphase hmode hcycles]
        unfold countDown
        dsimp only
        rw [if_pos htime, if_neg (by rw [hphase]; exact nofun), hmode]
        dsimp only
        rw [if_neg (not_le.2 hcycles)]
        exact ⟨rfl, rfl⟩
      · rw [p.turnsOn i htime hphase hmode]
        unfold countDown
        dsimp only
        rw [if_pos htime, if_neg (by rw [hphase]; exact nofun)]
        split
        · next hone => exact absurd hone hmode
        · exact ⟨rfl, rfl⟩
  · rw [p.counts i (not_le.1 htime)]
    unfold countDown
    dsimp only
    rw [if_neg htime]
    exact ⟨rfl, rfl⟩

theorem TickPlan.countDown_ends (p : TickPlan cues kept ends next left chained triggered) {i : CueInstance} (h : ends i = true)
    (r : Roster) : countDown cues kept i r = completeCue cues kept i.cue r := by
  obtain ⟨htime, hphase, hmode, hcycles⟩ := (p.ends_iff i).1 h
  unfold countDown
  dsimp only
  rw [if_pos htime, if_neg (by rw [hphase]; exact nofun), hmode]
  exact if_pos hcycles

/-! ## A completion (R129) -/

theorem happens_firing (kept : Vector Bool 33) (e : EdgeSource) (src : Option Trigger) :
    happens kept kept (some e) src = true ↔ src = some (.edge e) := by
  rw [happens_iff]
  constructor
  · rintro (⟨l, -, hbefore, hafter⟩ | ⟨f, rfl, heq⟩)
    · rw [hbefore] at hafter
      cases hafter
    · rw [Option.some.inj heq]
  · rintro rfl
    exact .inr ⟨e, rfl, rfl⟩

theorem removedAt_firing (kept : Vector Bool 33) (e : EdgeSource) (i : CueInstance) :
    removedAt cues kept kept (some e) i = true ↔ cues[i.cue].mode = .latch ∧ cues[i.cue].cancel = some (.edge e) := by
  rw [removedAt_iff, happens_firing]
  constructor
  · rintro (⟨-, l, -, hbefore, hafter⟩ | h)
    · rw [hbefore] at hafter
      cases hafter
    · exact h
  · exact .inr

/-- The cue that a completion chains to receives its request where it may start. -/
theorem TickPlan.chain_requests (p : TickPlan cues kept ends next left chained triggered) (i : CueInstance) (r : Roster) :
    (match cues[i.cue].chain with
      | some j => startCue cues kept true j r
      | none => r) = (chained i).foldl (requestCue cues) r := by
  cases hchain : cues[i.cue].chain with
  | none =>
    have hempty : chained i = [] := List.eq_nil_iff_forall_not_mem.2 fun j hj => by
      rw [((p.chained_iff i j).1 hj).1] at hchain
      cases hchain
    rw [hempty]
    rfl
  | some j =>
    show startCue cues kept true j r = _
    have honly (k : Fin 16) (hk : k ∈ chained i) : k = j := by
      have heq := ((p.chained_iff i k).1 hk).1
      rw [hchain] at heq
      exact (Option.some.inj heq).symm
    by_cases hj : j ∈ chained i
    · obtain ⟨k, hsingle⟩ := List.length_eq_one_iff.1 (le_antisymm (p.single i) (List.length_pos_of_mem hj))
      obtain ⟨-, henabled, hwhile⟩ := (p.chained_iff i j).1 hj
      rw [hsingle, List.mem_singleton] at hj
      subst hj
      rw [hsingle, List.foldl_cons, List.foldl_nil]
      by_cases hactive : ∃ x ∈ r.active, x.cue = j
      · rw [requestCue_active hactive, startCue, if_neg (by rw [henabled]; exact nofun), if_pos ((isActive_iff_exists _).2 hactive)]
      · rw [requestCue_idle hactive, startCue, if_neg (by rw [henabled]; exact nofun),
          if_neg fun h => hactive ((isActive_iff_exists _).1 h)]
        refine if_neg fun hblocked => ?_
        simp only [Bool.true_and, Bool.and_eq_true, beq_iff_eq, Bool.not_eq_true'] at hblocked
        rw [(triggerTrue_iff _ _).2 (hwhile hblocked.1)] at hblocked
        exact Bool.noConfusion hblocked.2
    · have hempty : chained i = [] := List.eq_nil_iff_forall_not_mem.2 fun k hk => hj (honly k hk ▸ hk)
      rw [hempty, List.foldl_nil]
      unfold startCue
      by_cases henabled : cues[j].enabled = true
      · rw [if_neg (by rw [henabled]; exact nofun)]
        split
        · rfl
        · refine if_pos ?_
          by_contra hno
          refine hj ((p.chained_iff i j).2 ⟨hchain, henabled, fun hmode => (triggerTrue_iff _ _).1 ?_⟩)
          have hclosed : cues[j].mode = .whileTrue → triggerTrue kept cues[j] = true := by simpa using hno
          exact hclosed hmode
      · exact if_pos (by simpa using henabled)

/-- A completion at the walk is the plan's at the counted list. -/
theorem TickPlan.completes (p : TickPlan cues kept ends next left chained triggered) {i : CueInstance} {todo : List CueInstance}
    {r : Roster} (h : Walking (i :: todo) r) (hends : ends i = true) (hi : i ∈ r.active) (hns : i.cue ∉ r.started)
    (htodo : i.cue ∉ cuesOf todo) :
    Walking todo (completeCue cues kept i.cue r)
      ∧ completed cues left chained triggered (r.active.map (counted next (cuesOf (i :: todo)) r.started)) i =
        (completeCue cues kept i.cue r).active.map (counted next (cuesOf todo) (completeCue cues kept i.cue r).started) := by
  have hcue := counted_cue (next := next) p.next_cue (cuesOf (i :: todo)) r.started
  have hself : counted next (cuesOf (i :: todo)) r.started i = i := by
    rw [counted, if_pos ⟨List.mem_cons_self, hns⟩, p.stands i hends]
  have hmem : i ∈ r.active.map (counted next (cuesOf (i :: todo)) r.started) := List.mem_map.2 ⟨i, hi, hself⟩
  obtain ⟨hmode⟩ : Nonempty (cues[i.cue].mode = .oneShot) := ⟨((p.ends_iff i).1 hends).2.2.1⟩
  obtain ⟨r1, hr1⟩ : ∃ r1 : Roster, r1 = { r with
      active := (r.active.filter fun x => x.cue != i.cue).filter fun x => !removedAt cues kept kept (some (.cueDone i.cue)) x
      changed := true } := ⟨_, rfl⟩
  have hfilter : r1.active = r.active.filter fun x => decide (x.cue ≠ i.cue
      ∧ ¬(cues[x.cue].mode = .latch ∧ cues[x.cue].cancel = some (.edge (.cueDone i.cue)))) := by
    rw [hr1]
    dsimp only
    rw [List.filter_filter]
    refine List.filter_congr fun x _ => ?_
    rw [Bool.eq_iff_iff, Bool.and_eq_true, Bool.not_eq_true', Bool.eq_false_iff, ne_eq, removedAt_firing, bne_iff_ne,
      decide_eq_true_iff, and_comm]
  have hrequests : requestedAt cues kept kept (some (.cueDone i.cue)) (r.active.filter fun x => x.cue != i.cue) =
      triggered i (r.active.map (counted next (cuesOf (i :: todo)) r.started)) := by
    rw [p.triggered_eq]
    refine List.filter_congr fun j _ => ?_
    rw [Bool.eq_iff_iff, togglesOff]
    simp only [Bool.and_eq_true, Bool.not_eq_true', Bool.eq_false_iff, beq_iff_eq, ne_eq, isActive_iff_exists, and_assoc,
      happens_firing, decide_eq_true_iff, List.mem_filter, bne_iff_ne, List.mem_map]
    refine and_congr_right fun _ => and_congr_right fun _ => not_congr (and_congr_right fun hlatch => and_congr_right fun _ => ?_)
    constructor
    · rintro ⟨x, hx, -, hxj⟩
      exact ⟨_, ⟨x, hx, rfl⟩, (hcue x).trans hxj⟩
    · rintro ⟨_, ⟨x, hx, rfl⟩, hxj⟩
      rw [hcue] at hxj
      refine ⟨x, hx, fun heq => ?_, hxj⟩
      rw [← hxj, heq, hmode] at hlatch
      cases hlatch
  have henabled : ∀ j ∈ triggered i (r.active.map (counted next (cuesOf (i :: todo)) r.started)), cues[j].enabled = true := by
    intro j hj
    rw [p.triggered_eq, List.mem_filter] at hj
    exact (of_decide_eq_true hj.2).1
  have hwalk : completeCue cues kept i.cue r =
      (chained i ++ triggered i (r.active.map (counted next (cuesOf (i :: todo)) r.started))).foldl (requestCue cues) r1 := by
    rw [List.foldl_append, ← p.chain_requests i r1, ← startCues_eq_requests (kept := kept) henabled, ← hrequests, hr1]
    rfl
  have hleft : left i (r.active.map (counted next (cuesOf (i :: todo)) r.started)) =
      r1.active.map (counted next (cuesOf todo) r1.started) := by
    have hmap := filter_map_cue hcue (fun c => decide (c ≠ i.cue
      ∧ ¬(cues[c].mode = .latch ∧ cues[c].cancel = some (.edge (.cueDone i.cue))))) r.active
    rw [p.left_eq, hfilter]
    refine hmap.trans (List.map_congr_left fun x hx => ?_)
    have hne : x.cue ≠ i.cue := (of_decide_eq_true (List.mem_filter.1 hx).2).1
    rw [hr1]
    simp [counted, cuesOf, hne]
  have hstart : Walking todo r1 := by
    have hfiltered := (h.filter fun x => x.cue != i.cue).filter fun x => !removedAt cues kept kept (some (.cueDone i.cue)) x
    rw [hr1]
    refine ⟨hfiltered.distinct, fun x hx hs hin => ?_, hfiltered.fresh⟩
    have hpending := hfiltered.pending x hx hs (List.mem_cons_of_mem _ hin)
    rcases List.mem_cons.1 hpending with rfl | hrest
    · exact absurd hin htodo
    · exact hrest
  rw [hwalk]
  refine ⟨hstart.requests _, ?_⟩
  rw [completed, if_pos hmem]
  exact requests_counted p.next_cue _ hleft

/-! ## The walk -/

theorem replaceInstance_cues {k : Fin 16} {i : CueInstance} (hi : i.cue = k) (l : List CueInstance) :
    cuesOf (replaceInstance k i l) = cuesOf l := by
  rw [replaceInstance, cuesOf, List.map_map]
  refine List.map_congr_left fun x _ => ?_
  by_cases heq : x.cue = k
  · simp [heq, hi]
  · simp [heq]

/-- With a cue that has no entry to count down, the counted list is that of the cues after it. -/
theorem counted_skips {i : CueInstance} {todo : List CueInstance} {r : Roster}
    (h : i.cue ∈ r.started ∨ ∀ x ∈ r.active, x.cue ≠ i.cue) :
    r.active.map (counted next (cuesOf (i :: todo)) r.started) = r.active.map (counted next (cuesOf todo) r.started) := by
  refine List.map_congr_left fun x hx => ?_
  by_cases heq : x.cue = i.cue
  · rcases h with hs | hnone
    · rw [counted_started (heq ▸ hs), counted_started (heq ▸ hs)]
    · exact absurd heq (hnone x hx)
  · simp [counted, cuesOf, heq]

theorem Walking.tail {i : CueInstance} {todo : List CueInstance} {r : Roster} (h : Walking (i :: todo) r)
    (htodo : i.cue ∉ cuesOf todo) : Walking todo r :=
  ⟨h.distinct, fun x hx hs hin => by
    rcases List.mem_cons.1 (h.pending x hx hs (List.mem_cons_of_mem _ hin)) with rfl | hrest
    · exact absurd hin htodo
    · exact hrest, h.fresh⟩

/-- The walk over the entries that stood when the tick began leaves the plan's completions of the counted list. -/
theorem TickPlan.walk (p : TickPlan cues kept ends next left chained triggered) (todo : List CueInstance) {r : Roster}
    (h : Walking todo r) (hdistinct : (cuesOf todo).Nodup) :
    (walkCues cues kept (cuesOf todo) r).active =
      (todo.filter ends).foldl (completed cues left chained triggered) (r.active.map (counted next (cuesOf todo) r.started)) := by
  induction todo generalizing r with
  | nil =>
    have hid : counted next (cuesOf []) r.started = id := funext fun i => if_neg fun k => by cases k.1
    rw [hid, List.map_id]
    rfl
  | cons i todo ih =>
    obtain ⟨htodo, hrest⟩ := List.nodup_cons.1 (show (i.cue :: cuesOf todo).Nodup from hdistinct)
    have hskip (hs : i.cue ∈ r.started ∨ ∀ x ∈ r.active, x.cue ≠ i.cue) :
        (walkCues cues kept (cuesOf todo) r).active =
          ((i :: todo).filter ends).foldl (completed cues left chained triggered)
            (r.active.map (counted next (cuesOf (i :: todo)) r.started)) := by
      rw [ih (h.tail htodo) hrest, counted_skips hs]
      cases hends : ends i with
      | false => rw [List.filter_cons_of_neg (by rw [hends]; exact nofun)]
      | true =>
        rw [List.filter_cons_of_pos hends, List.foldl_cons]
        congr 1
        refine (if_neg fun hmem => ?_).symm
        obtain ⟨x, hx, hxi⟩ := List.mem_map.1 hmem
        have hcue : x.cue = i.cue := by rw [← hxi, counted_cue p.next_cue]
        rcases hs with hs | hnone
        · rw [counted_started (hcue ▸ hs)] at hxi
          have hphase := h.fresh x hx (hcue ▸ hs)
          rw [hxi, ((p.ends_iff i).1 hends).2.1] at hphase
          cases hphase
        · exact hnone x hx hcue
    show (if i.cue ∈ r.started then _ else _ : Roster).active = _
    by_cases hs : i.cue ∈ r.started
    · rw [if_pos hs]
      exact hskip (.inl hs)
    · rw [if_neg hs]
      split
      · next hnone => exact hskip (.inr fun x hx heq => by simpa [heq] using List.find?_eq_none.1 hnone x hx)
      · next j hfound =>
        have hj : j ∈ r.active := List.mem_of_find?_eq_some hfound
        have hcue : j.cue = i.cue := by simpa using List.find?_some hfound
        have hji : j = i := by
          rcases List.mem_cons.1 (h.pending j hj (hcue ▸ hs) (by rw [hcue]; exact List.mem_cons_self)) with heq | hin
          · exact heq
          · exact absurd (List.mem_map.2 ⟨j, hin, hcue⟩) htodo
        subst hji
        cases hends : ends j with
        | true =>
          obtain ⟨hwalking, hcompleted⟩ := p.completes h hends hj hs htodo
          rw [p.countDown_ends hends, ih hwalking hrest, List.filter_cons_of_pos hends, List.foldl_cons, hcompleted]
        | false =>
          obtain ⟨hactive, hstarted⟩ := p.countDown_goesOn hends r
          have hmem {x : CueInstance} (hx : x ∈ replaceInstance j.cue (next j) r.active) :
              x = next j ∨ x ∈ r.active ∧ x.cue ≠ j.cue := by
            obtain ⟨y, hy, rfl⟩ := List.mem_map.1 hx
            by_cases heq : y.cue = j.cue
            · exact .inl (if_pos (by simpa using heq))
            · have hsame : (if (y.cue == j.cue) = true then next j else y) = y := if_neg (by simpa using heq)
              rw [hsame]
              exact .inr ⟨hy, heq⟩
          have hwalking : Walking todo (countDown cues kept j r) := by
            refine ⟨?_, fun x hx hns hin => ?_, fun x hx hxs => ?_⟩
            · rw [hactive, replaceInstance_cues (p.next_cue j)]
              exact h.distinct
            · rw [hactive] at hx
              rw [hstarted] at hns
              rcases hmem hx with rfl | ⟨hx, hne⟩
              · rw [p.next_cue] at hin
                exact absurd hin htodo
              · rcases List.mem_cons.1 (h.pending x hx hns (List.mem_cons_of_mem _ hin)) with rfl | hin
                · exact absurd rfl hne
                · exact hin
            · rw [hactive] at hx
              rw [hstarted] at hxs
              rcases hmem hx with rfl | ⟨hx, -⟩
              · rw [p.next_cue] at hxs
                exact absurd hxs hs
              · exact h.fresh x hx hxs
          rw [ih hwalking hrest, List.filter_cons_of_neg (by rw [hends]; exact nofun), hactive, hstarted]
          congr 1
          rw [replaceInstance, List.map_map]
          refine List.map_congr_left fun x hx => ?_
          by_cases heq : x.cue = j.cue
          · have hxj : x = j := List.inj_on_of_nodup_map h.distinct hx hj heq
            subst hxj
            have hnext : counted next (cuesOf todo) r.started (next x) = next x := if_neg fun k => htodo (p.next_cue x ▸ k.1)
            have hthis : counted next (cuesOf (x :: todo)) r.started x = next x := if_pos ⟨List.mem_cons_self, hs⟩
            rw [hthis]
            simp [hnext]
          · simp [counted, cuesOf, heq]

end

/-! ## The tick of the part -/

theorem lightsTick_grantUsed (t : Tables) (g : Nat) (x : Lights) :
    (lightsTick t g x).grantUsed = g ∧ (lightsTick t g x).scene = x.scene ∧ (lightsTick t g x).kept = x.kept := by
  simp only [lightsTick]
  split
  · exact ⟨rfl, rfl, rfl⟩
  · exact ⟨rfl, rfl, rfl⟩

theorem putLights_eq (x : Lights) (s : State) :
    putLights x s = { s with lights := x, budget := { s.budget with demand := (putLights x s).budget.demand } } :=
  State.ext_fields rfl rfl rfl rfl rfl rfl rfl rfl rfl rfl (putLights_alone x s) rfl rfl rfl

theorem exec_cueTick {s : State} (h : s.lights.ticking = true) :
    exec .cueTick s = .next (putLights (lightsTick s.tables (grantOf s 3) s.lights) s) := congrArg Host.Outcome.next (if_pos h)

section
variable {cues : Vector CueEntry 16} {kept : Vector Bool 33} {ends : CueInstance → Bool}
  {next : CueInstance → CueInstance} {left : CueInstance → List CueInstance → List CueInstance}
  {chained : CueInstance → List (Fin 16)} {triggered : CueInstance → List CueInstance → List (Fin 16)}

/-- A whole tick, from a list that holds no cue twice. -/
theorem TickPlan.tick (p : TickPlan cues kept ends next left chained triggered) {l : List CueInstance} (h : (cuesOf l).Nodup) :
    (walkCues cues kept (cuesOf l) { active := l, started := [], changed := false }).active =
      (l.filter ends).foldl (completed cues left chained triggered) (l.map next) := by
  have hwalking : Walking l { active := l, started := [], changed := false } := ⟨h, fun i hi _ _ => hi, fun _ _ hs => by cases hs⟩
  rw [p.walk l hwalking h]
  congr 1
  exact List.map_congr_left fun i hi => if_pos ⟨List.mem_map.2 ⟨i, hi, rfl⟩, List.not_mem_nil⟩

/-- One completion with room for every cue that it asks. -/
theorem TickPlan.completed_room (p : TickPlan cues kept ends next left chained triggered) {i : CueInstance} {l : List CueInstance}
    {later : List (Fin 16)} (hi : i ∈ l) (hlater : later = (triggered i l).filter fun j => decide (j ∉ chained i))
    (hidle : ∀ j ∈ chained i ++ later, ∀ x ∈ left i l, x.cue ≠ j)
    (hroom : (left i l).length + (chained i ++ later).length ≤ 8) :
    completed cues left chained triggered l i = left i l ++ (chained i ++ later).map (newInstance cues) := by
  have hchained : (chained i).Nodup := by
    have hlen := p.single i
    match hlist : chained i with
    | [] => exact List.nodup_nil
    | [j] => exact List.nodup_singleton j
    | j :: k :: ks => rw [hlist, List.length_cons, List.length_cons] at hlen; omega
  have htriggered : (triggered i l).Nodup := by
    rw [p.triggered_eq]
    exact (List.nodup_finRange 16).filter _
  rw [List.length_append] at hroom
  have hfirst : ((chained i).foldl (requestCue cues) { active := left i l, started := [], changed := true }).active =
      left i l ++ (chained i).map (newInstance cues) := by
    refine requests_room (r := ⟨left i l, [], true⟩) hchained ?_ (by dsimp only; omega)
    exact (List.filter_eq_self.2 fun j hj => decide_eq_true (hidle j (List.mem_append_left _ hj))).symm
  rw [completed, if_pos hi, List.foldl_append, requests_room htriggered (starting := later), hfirst, List.append_assoc,
    List.map_append]
  · rw [hfirst, hlater]
    refine List.filter_congr fun j hj => ?_
    rw [decide_eq_decide]
    constructor
    · intro hno x hx
      rcases List.mem_append.1 hx with hold | hnew
      · exact hidle j (List.mem_append_right _ (hlater ▸ List.mem_filter.2 ⟨hj, decide_eq_true hno⟩)) x hold
      · obtain ⟨k, hk, rfl⟩ := List.mem_map.1 hnew
        exact fun heq => hno (heq ▸ hk)
    · intro hall hin
      exact hall (newInstance cues j) (List.mem_append_right _ (List.mem_map.2 ⟨j, hin, rfl⟩)) rfl
  · rw [hfirst, List.length_append, List.length_map]
    omega

end

/-- Settles O42: the walk is the plan's completions of the counted list. -/
theorem cueTick : Obligations.CueTick := by
  unfold Obligations.CueTick
  intro s hticking
  obtain ⟨hgrant, hscene, hkept⟩ := lightsTick_grantUsed s.tables (grantOf s 3) s.lights
  have hactive := lightsTick_active s.tables (grantOf s 3) s.lights
  refine ⟨_, exec_cueTick hticking, ?_, hgrant, hscene, hkept, ?_⟩
  · exact putLights_eq _ s
  intro ends next left chained triggered hends hnext hleft hchained htriggered hdistinct
  have p : TickPlan s.tables.cue s.lights.kept ends next left chained triggered :=
    { ends_iff := hends, counts := fun i => (hnext i).1, turnsOff := fun i => (hnext i).2.1, turnsOn := fun i => (hnext i).2.2.1
      cycles := fun i => (hnext i).2.2.2.1, stands := fun i => (hnext i).2.2.2.2, left_eq := hleft
      single := fun i => (hchained i).1, chained_iff := fun i => (hchained i).2, triggered_eq := htriggered }
  have htick := hactive.trans (p.tick hdistinct)
  refine ⟨fun hnone => ?_, htick, fun i later hone hlater hidle hroom => ?_⟩
  · refine htick.trans ?_
    rw [List.filter_eq_nil_iff.2 fun i hi => by rw [hnone i hi]; exact nofun]
    rfl
  · have hi : i ∈ s.lights.active.filter ends := hone ▸ List.mem_singleton_self i
    obtain ⟨hin, hend⟩ := List.mem_filter.1 hi
    refine htick.trans ?_
    rw [hone]
    exact p.completed_room (List.mem_map.2 ⟨i, hin, p.stands i hend⟩) hlater hidle hroom

end Sys2Proof.Machine

/-! # Sitting 5: the start of a servo period (O35: R54, R64, R65, R71, R72, R75) -/

namespace Sys2Proof.Machine

/-! ## DRV and the outputs at a period start -/

/-- DRV with the next period timed. -/
def timedDrive (s : State) : Drive :=
  { s.drive with period := startTimer s.tables.drive.servoPeriod s.drive.period }

theorem servoPeriodStarted_driven (s : State) :
    (servoPeriodStarted s).drive =
      { (if s.budget.grant[1] = s.drive.grantUsed then timedDrive s
          else throttlePath s.tables.drive s.link.run s.protection.state s.budget.grant[1] (timedDrive s)) with
        pulses := (servoPeriodStarted s).drive.pulses } := by
  have hbegun : (servoPeriodStarted s).drive =
      { (driveTakesPeriod (steeringTakesPeriod (startPeriod s))).drive with pulses := (servoPeriodStarted s).drive.pulses } := rfl
  have htaken : (driveTakesPeriod (steeringTakesPeriod (startPeriod s))).drive =
      if s.budget.grant[1] = s.drive.grantUsed then timedDrive s
      else throttlePath s.tables.drive s.link.run s.protection.state s.budget.grant[1] (timedDrive s) := by
    have hgrant : grantOf (steeringTakesPeriod (startPeriod s)) 1 = s.budget.grant[1] := by
      simp [grantOf, steeringTakesPeriod, startPeriod]
    have hdrive : (steeringTakesPeriod (startPeriod s)).drive = timedDrive s := by
      simp [steeringTakesPeriod, startPeriod, timedDrive]
    have hused : (timedDrive s).grantUsed = s.drive.grantUsed := rfl
    unfold driveTakesPeriod
    rw [hgrant, hdrive, hused]
    split
    · exact hdrive
    · rw [driveCompute_drive, hgrant, hdrive]
      simp [steeringTakesPeriod, startPeriod]
  rw [← htaken]
  exact hbegun

/-- Each output begins a pulse of the width that its owner then holds. -/
theorem servoPeriodStarted_pulse (s : State) (o : Fin 7) :
    (servoPeriodStarted s).drive.pulses[o] = presentWidth (servoPeriodStarted s) o := tab_get _ o

theorem servoPeriodStarted_actives (s : State) :
    (servoPeriodStarted s).drive.s4Active = s.drive.s4Active ∧ (servoPeriodStarted s).drive.s5Active = s.drive.s5Active
      ∧ (servoPeriodStarted s).drive.s6Active = s.drive.s6Active ∧ (servoPeriodStarted s).drive.s6Width = s.drive.s6Width
      ∧ (servoPeriodStarted s).drive.period = startTimer s.tables.drive.servoPeriod s.drive.period
      ∧ (servoPeriodStarted s).drive.grantUsed = s.budget.grant[1] := by
  rw [servoPeriodStarted_driven]
  split
  · next hsame => exact ⟨rfl, rfl, rfl, rfl, rfl, hsame.symm⟩
  · exact ⟨rfl, rfl, rfl, rfl, rfl, rfl⟩

/-- The width of one of S0 to S3. -/
theorem presentWidth_corner (s : State) (k : Fin 4) :
    presentWidth s ⟨k.val, by omega⟩ = if s.steering.active = true then s.steering.corners[k].width else 0 := by
  simp [presentWidth, outputActive, k.isLt]

theorem presentWidth_others (s : State) :
    presentWidth s 4 = (if s.drive.s4Active = true then s.drive.s4Width else 0)
      ∧ presentWidth s 5 = (if s.drive.s5Active = true then s.winch.clutchWidth else 0)
      ∧ presentWidth s 6 = (if s.drive.s6Active = true then s.drive.s6Width else 0) := by
  simp [presentWidth, outputActive]

/-! ## The throttle path (R76 to R81) -/

/-- What the throttle path makes of DRV, from the limits to a throttle fall. -/
theorem throttlePath_facts {q : DriveRecord} {rs : RunState} {p : ProtState} {grant ceiling : Nat} {x : Drive} {v a : Int}
    (hv : v = x.record.throttle)
    (ha : a = (if 0 ≤ v then (v * q.forwardLimit).tdiv 1000 else (v * q.reverseLimit).tdiv 1000))
    (hceiling : ceiling = min 1000 (grant * 1000 / q.ratedCurrent)) {y : Drive} (hy : y = throttlePath q rs p grant x) :
    y.t1 = (if p = .limit ∧ (q.limitForwardCap : Int) < a then (q.limitForwardCap : Int) else a)
      ∧ y.t2 = (if rs ≠ .run ∨ p = .cutoff then 0 else max (-(ceiling : Int)) (min (ceiling : Int) y.t1))
      ∧ y.filed = (if rs ≠ .run ∨ p = .cutoff then 0 else y.t1.natAbs * q.ratedCurrent / 1000)
      ∧ y.s4Width = q.neutral + (if 0 < y.t2 then roundDiv (y.t2 * q.forwardThrow) 1000 else roundDiv (y.t2 * q.reverseThrow) 1000)
      ∧ (y.reverse = true ↔ y.t2 < -(q.reverseThreshold : Int))
      ∧ ((y.t2 = 0 ∨ (0 < y.t2 ∧ 0 < x.t2) ∨ (y.t2 < 0 ∧ x.t2 < 0)) → y.t2.natAbs + q.brakeDelta ≤ x.t2.natAbs →
          y.braking = true ∧ y.brakingTimer = startTimer q.brakeHold x.brakingTimer)
      ∧ (¬((y.t2 = 0 ∨ (0 < y.t2 ∧ 0 < x.t2) ∨ (y.t2 < 0 ∧ x.t2 < 0)) ∧ y.t2.natAbs + q.brakeDelta ≤ x.t2.natAbs) →
          y.braking = x.braking ∧ y.brakingTimer = x.brakingTimer) := by
  have ht1 : y.t1 = throttleT1 q p v := by rw [hy, hv]; rfl
  have ht2 : y.t2 = throttleT2 q (driveZeroed rs p) grant y.t1 := by rw [hy]; rfl
  have hfiled : y.filed = driveDemand q (driveZeroed rs p) y.t1 := by rw [hy]; rfl
  have hwidth : y.s4Width = throttleWidth q y.t2 := by rw [hy]; rfl
  have hreverse : y.reverse = reverseOf q y.t2 := by rw [hy]; rfl
  have hbraking : y.braking = (x.braking || throttleFall q x.t2 y.t2) := by rw [hy]; rfl
  have htimer : y.brakingTimer = if throttleFall q x.t2 y.t2 then startTimer q.brakeHold x.brakingTimer else x.brakingTimer := by
    rw [hy]
    rfl
  clear hy
  refine ⟨ht1.trans (throttleT1_eq q p ha), ?_, ?_, hwidth, by rw [hreverse, reverseOf_iff], fun hsign hless => ?_, fun hno => ?_⟩
  · rw [ht2, hceiling]
    simp only [throttleT2, driveZeroed_iff]
    rfl
  · rw [hfiled, driveDemand]
    simp only [driveZeroed_iff]
  · have hfall := (throttleFall_iff q x.t2 y.t2).2 ⟨hsign, hless⟩
    exact ⟨by rw [hbraking, hfall, Bool.or_true], by rw [htimer, if_pos hfall]⟩
  · have hnone := mt (throttleFall_iff q x.t2 y.t2).1 hno
    exact ⟨by rw [hbraking, Bool.eq_false_iff.2 hnone, Bool.or_false], by rw [htimer, if_neg hnone]⟩

/-! ## STC at a period start (R54, R64, R65) -/

section
variable {t : Tables} {g : Nat} {w : WinchState} {x : Steering}

theorem alignCheck_width (k : Fin 4) : (alignCheck t w x).corners[k].width = x.corners[k].width := by
  unfold alignCheck
  split
  · rfl
  · split
    · split
      · rfl
      · rw [steerCompute, withTargets_corner]
    · rfl

/-- A corner after a period start with the pulses ACTIVE: its position moved, its width made. -/
theorem steeringPeriod_corner (h : x.active = true) (k : Fin 4) :
    (steeringPeriod t g w x).corners[k].position =
        slewToward (effectiveStep t.corner[k].slewStep g x.filed) x.corners[k].position x.corners[k].target
      ∧ (steeringPeriod t g w x).corners[k].width = cornerWidth t.corner[k] (steeringPeriod t g w x).corners[k].position := by
  have hposition := steeringPeriod_position t g w x k
  rw [if_pos h] at hposition
  refine ⟨hposition, ?_⟩
  rw [hposition, steeringPeriod_active h]
  refine (alignCheck_width (x := movedCorners t g x) k).trans ?_
  rw [movedCorners_corner]
  rfl

/-- STEADY stays STEADY in its mode. -/
theorem steeringPeriod_steady (h : x.active = true) (hst : x.status = .steady) :
    (steeringPeriod t g w x).mode = x.mode ∧ (steeringPeriod t g w x).status = .steady := by
  rw [steeringPeriod_active h, alignCheck_steady (show (movedCorners t g x).status = .steady from hst)]
  exact ⟨rfl, hst⟩

theorem movedCorners_centred (h : x.active = true) :
    allCentred (movedCorners t g x) = true ↔ ∀ k : Fin 4, (steeringPeriod t g w x).corners[k].position = 0 := by
  rw [allCentred_iff, steeringPeriod_active h]
  refine forall_congr' fun k => ?_
  rw [show (steerFile t.steer (alignCheck t w (movedCorners t g x))).corners[k].position = _ from
    alignCheck_position t w (movedCorners t g x) k]

/-- ALIGN away from centre stays as it is. -/
theorem steeringPeriod_away (h : x.active = true) (hst : x.status = .align)
    (haway : ∃ k : Fin 4, (steeringPeriod t g w x).corners[k].position ≠ 0) :
    (steeringPeriod t g w x).status = .align ∧ (steeringPeriod t g w x).mode = x.mode := by
  have hcentred : allCentred (movedCorners t g x) = false := by
    rw [Bool.eq_false_iff, ne_eq, movedCorners_centred (w := w) h]
    exact fun hall => haway.elim fun k hk => hk (hall k)
  rw [steeringPeriod_active h, alignCheck_away hcentred]
  exact ⟨hst, rfl⟩

/-- Centred in HAUL_IN, ALIGN holds its mode. -/
theorem steeringPeriod_held (h : x.active = true) (hst : x.status = .align)
    (hcentred : ∀ k : Fin 4, (steeringPeriod t g w x).corners[k].position = 0) (hw : w = .haulIn) :
    (steeringPeriod t g w x).status = .align ∧ (steeringPeriod t g w x).modeHeld = true
      ∧ (steeringPeriod t g w x).mode = x.mode := by
  rw [steeringPeriod_active h,
    alignCheck_held (show (movedCorners t g x).status = .align from hst) ((movedCorners_centred h).2 hcentred) hw]
  exact ⟨hst, rfl, rfl⟩

/-- Centred out of HAUL_IN, ALIGN completes in the mode requested. -/
theorem steeringPeriod_completes (h : x.active = true) (hst : x.status = .align)
    (hcentred : ∀ k : Fin 4, (steeringPeriod t g w x).corners[k].position = 0) (hw : w ≠ .haulIn) :
    (steeringPeriod t g w x).status = .steady ∧ (steeringPeriod t g w x).mode = x.requested
      ∧ (steeringPeriod t g w x).modeHeld = false
      ∧ ∀ k : Fin 4, (steeringPeriod t g w x).corners[k].target = cornerTarget t.geom x.requested (scaledSteer x.record) k := by
  rw [steeringPeriod_active h,
    alignCheck_completes (show (movedCorners t g x).status = .align from hst) ((movedCorners_centred h).2 hcentred) hw]
  exact ⟨rfl, rfl, rfl, fun k => steerCompute_target t _ k⟩

end

/-- Settles O35: STC's period, DRV's grant, and the pulses that their state then gives. -/
theorem servoPeriodStart : Obligations.ServoPeriodStart := by
  unfold Obligations.ServoPeriodStart
  intro s g d ceiling v a hrunning hg hd hv ha hceiling
  refine ⟨servoPeriodStarted s, (exec_servoPeriodStart s).trans (congrArg _ (if_pos hrunning)), ?_⟩
  have hdriven := servoPeriodStarted_driven s
  have hsteering : (servoPeriodStarted s).steering = steeringPeriod s.tables g s.winch.state s.steering := by
    rw [servoPeriodStarted_steering, hg]
    rfl
  have hwinch := servoPeriodStarted_winch s
  have hcornerPulse (k : Fin 4) : (servoPeriodStarted s).drive.pulses[k.val] =
      if (servoPeriodStarted s).steering.active = true then (servoPeriodStarted s).steering.corners[k].width else 0 :=
    (servoPeriodStarted_pulse s ⟨k.val, by omega⟩).trans (presentWidth_corner _ k)
  have hpulse4 : (servoPeriodStarted s).drive.pulses[4] = _ := servoPeriodStarted_pulse s 4
  have hpulse5 : (servoPeriodStarted s).drive.pulses[5] = _ := servoPeriodStarted_pulse s 5
  have hpulse6 : (servoPeriodStarted s).drive.pulses[6] = _ := servoPeriodStarted_pulse s 6
  obtain ⟨hwidth4, hwidth5, hwidth6⟩ := presentWidth_others (servoPeriodStarted s)
  obtain ⟨h4, h5, h6, h6width, hperiod, hused⟩ := servoPeriodStarted_actives s
  have hactive := steeringPeriod_activeState s.tables g s.winch.state s.steering
  have hframe : servoPeriodStarted s = { s with steering := (servoPeriodStarted s).steering, drive := (servoPeriodStarted s).drive
                                                lights := (servoPeriodStarted s).lights, budget := (servoPeriodStarted s).budget } :=
    State.ext_fields (by simp) (by simp) (by simp) (by simp) rfl rfl (by simp) rfl (by simp) (by simp) rfl (by simp) (by simp)
      (by simp)
  rw [hwidth4, h4] at hpulse4
  rw [hwidth5, h5, hwinch] at hpulse5
  rw [hwidth6, h6, h6width] at hpulse6
  generalize servoPeriodStarted s = u at *
  refine ⟨hframe, hperiod, hused, fun hsame => ?_, fun hdiffers => ?_, hpulse4, hpulse5, hpulse6, fun hoff => ?_, fun hon => ?_⟩
  · rw [if_pos hsame] at hdriven
    rw [hdriven]
    rfl
  · rw [if_neg hdiffers] at hdriven
    obtain ⟨y, hy⟩ : ∃ y, y = throttlePath s.tables.drive s.link.run s.protection.state s.budget.grant[1] (timedDrive s) := ⟨_, rfl⟩
    have hfacts := throttlePath_facts (x := timedDrive s) hv ha hceiling hy
    refine ⟨?_, ?_⟩
    · rw [hdriven]
      rfl
    · rw [hdriven, ← hy]
      exact hfacts
  · rw [hsteering, steeringPeriod_off hoff] at *
    exact ⟨rfl, fun k => by rw [hcornerPulse, if_neg (by rw [hoff]; exact nofun)]⟩
  · rw [hsteering] at *
    rw [hactive, hon] at hcornerPulse
    refine ⟨fun k => ?_, steeringPeriod_steady hon, steeringPeriod_away hon, steeringPeriod_held hon, steeringPeriod_completes hon⟩
    obtain ⟨hposition, hwidth⟩ := steeringPeriod_corner (t := s.tables) (g := g) (w := s.winch.state) hon k
    refine ⟨?_, hwidth, ?_⟩
    · rw [hposition, hd]
      rfl
    · rw [hcornerPulse, if_pos rfl]

end Sys2Proof.Machine

/-! # Sitting 5: load complete at every block (O54: R136, R180) -/

namespace Sys2Proof.Machine

/-! ## The part at load complete, before LTC's start-up -/

/-- Load complete at every block but LTC, which takes it last. -/
def loadReady (v : Vector Level 4) (a b : Level) (s : State) : State :=
  batteryLoaded (winchLoaded a b (driveCompute { loadBegun v s with drive := driveStarted (loadBegun v s) }))

theorem loadCompleted_ready (v : Vector Level 4) (a b : Level) (s : State) :
    loadCompleted v a b s = lightsStartUp (loadReady v a b s) := rfl

theorem loadTables_store (s : State) : (loadTables s).store = { s.store with loaded := true } := by
  unfold loadTables
  split <;> rfl

theorem loadTables_lines (s : State) : (loadTables s).inputs.lines = s.inputs.lines := by
  unfold loadTables
  split <;> rfl

/-- The defaults come in force with their flag (R180). -/
theorem loadTables_flags (s : State) (i : Fin 15) :
    (loadTables s).inputs.flags[i] = (s.inputs.flags[i] || (i == 3 && (loadImage s.store.image).isNone)) := by
  unfold loadTables
  cases loadImage s.store.image with
  | some t => simp
  | none =>
    refine (raiseFlag_flag .imageDefaulted s.inputs i).trans ?_
    have hindex : flagIndex .imageDefaulted = 3 := rfl
    rw [hindex]
    by_cases hi : i = 3
    · simp [hi]
    · simp [hi]

/-- What every block but DRV, CBU's claims and LTC holds before LTC's start-up. -/
structure LoadedBlocks (v : Vector Level 4) (a b : Level) (s w : State) : Prop where
  tables : w.tables = (loadTables s).tables
  store : w.store = { s.store with loaded := true }
  record : w.record = s.record
  held : w.heldInReset = s.heldInReset
  link : w.link = { s.link with run := .wait }
  ticking : w.inputs.ticking = true
  lines : ∀ n : Fin 4, w.inputs.lines[n] = { s.inputs.lines[n] with level := v[n] }
  flags : w.inputs.flags = (loadTables s).inputs.flags
  steering : w.steering =
    { s.steering with mode := (loadTables s).tables.steer.defaultMode, requested := (loadTables s).tables.steer.defaultMode }
  drive : w.drive = throttlePath (loadTables s).tables.drive .wait s.protection.state s.budget.grant[1]
    { s.drive with s4Active := true, s5Active := true
                   period := startTimer (loadTables s).tables.drive.servoPeriod s.drive.period }
  winch : ∃ c : WinchContext, c.record = (loadTables s).tables.winch
    ∧ c.engaged = (v[1] == (loadTables s).tables.input[1].active) ∧ w.winch = winchPlaced c a b s.winch
  scanner : w.scanner = { s.scanner with pass := startPass (loadTables s).tables.scan }
  protection : w.protection = { s.protection with cap := capFor (loadTables s).tables.protect s.protection.state }
  budget : w.budget = { s.budget with
    demand := w.budget.demand, timer := startTimer (loadTables s).tables.protect.budgetPeriod s.budget.timer }
  lights : w.lights = (driveMsgs s.drive w.drive).foldl
    (fun x m => lightsEvent (loadTables s).tables s.budget.grant[3] false m x) s.lights

theorem putDrive_lights (x : Drive) (s : State) :
    (putDrive x s).lights =
      (driveMsgs s.drive x).foldl (fun y m => lightsEvent s.tables (grantOf s 3) false m y) s.lights := by
  rw [putDrive, lightEvents_lights]
  simp [grantOf]

theorem loadReady_blocks (v : Vector Level 4) (a b : Level) (s : State) : LoadedBlocks v a b s (loadReady v a b s) := by
  have hinputs : (loadReady v a b s).inputs = (acceptLevels v (loadTables s)).inputs := by
    simp [loadReady, batteryLoaded, loadBegun]
  have hdrive : (loadReady v a b s).drive = throttlePath (loadTables s).tables.drive .wait s.protection.state s.budget.grant[1]
      { s.drive with s4Active := true, s5Active := true
                     period := startTimer (loadTables s).tables.drive.servoPeriod s.drive.period } := by
    simp [loadReady, batteryLoaded, loadBegun, driveStarted, grantOf, putRun, acceptLevels, steeringLoaded]
  refine {
    tables := by simp [loadReady, batteryLoaded, loadBegun]
    store := ?_
    record := by simp [loadReady, batteryLoaded, loadBegun]
    held := by simp [loadReady, batteryLoaded, loadBegun]
    link := by simp [loadReady, batteryLoaded, loadBegun]
    ticking := by rw [hinputs]; rfl
    lines := fun n => ?_
    flags := by rw [hinputs]; rfl
    steering := by simp [loadReady, batteryLoaded, loadBegun, steeringLoaded, putRun, acceptLevels]
    drive := hdrive
    winch := ?_
    scanner := by simp [loadReady, batteryLoaded, loadBegun]
    protection := by simp [loadReady, batteryLoaded, loadBegun]
    budget := ?_
    lights := ?_ }
  · rw [← loadTables_store]
    simp [loadReady, batteryLoaded, loadBegun]
  · rw [hinputs]
    refine (tab_get _ n).trans ?_
    rw [loadTables_lines]
  · refine ⟨winchContext (driveCompute { loadBegun v s with drive := driveStarted (loadBegun v s) }), ?_, ?_, ?_⟩
    · simp [winchContext, loadBegun]
    · have hline : (acceptLevels v (loadTables s)).inputs.lines[(1 : Fin 4)].level = v[1] := congrArg Line.level (tab_get _ 1)
      simp only [winchContext, inputActive, lineActive, driveCompute_inputs, driveCompute_tables]
      rw [← hline]
      simp [loadBegun]
    · have hwinch : s.winch = (driveCompute { loadBegun v s with drive := driveStarted (loadBegun v s) }).winch := by
        simp [loadBegun]
      rw [hwinch]
      rfl
  · have halone : DemandsAlone (loadBegun v s).budget (driveCompute { loadBegun v s with drive := driveStarted (loadBegun v s) }).budget :=
      putDrive_alone _ _
    have hbudget : (loadBegun v s).budget = s.budget := by simp [loadBegun]
    have htables : (driveCompute { loadBegun v s with drive := driveStarted (loadBegun v s) }).tables = (loadTables s).tables := by
      simp [loadBegun]
    rw [hbudget] at halone
    obtain ⟨u, hu⟩ : ∃ u, u = driveCompute { loadBegun v s with drive := driveStarted (loadBegun v s) } := ⟨_, rfl⟩
    have hready : (loadReady v a b s).budget =
        { u.budget with timer := startTimer u.tables.protect.budgetPeriod u.budget.timer } := by rw [hu]; rfl
    rw [← hu] at halone htables
    rw [hready, htables, halone]
  · obtain ⟨u, hu⟩ : ∃ u, u = { loadBegun v s with drive := driveStarted (loadBegun v s) } := ⟨_, rfl⟩
    have hready : (loadReady v a b s).lights = (driveCompute u).lights := by
      rw [loadReady, batteryLoaded_lights, winchLoaded_lights, hu]
    have hcomputed : (loadReady v a b s).drive = throttlePath u.tables.drive u.link.run u.protection.state (grantOf u 1) u.drive := by
      rw [loadReady, batteryLoaded_drive, winchLoaded_drive, driveCompute_drive, hu]
    have hfields : u.tables = (loadTables s).tables ∧ grantOf u 3 = s.budget.grant[3] ∧ u.lights = s.lights
        ∧ u.drive.reverse = s.drive.reverse ∧ u.drive.braking = s.drive.braking := by
      rw [hu]
      simp [loadBegun, grantOf, driveStarted]
    obtain ⟨htables, hgrant, hlights, hreverse, hbraking⟩ := hfields
    rw [hready, driveCompute, putDrive_lights, ← hcomputed, htables, hgrant, hlights, driveMsgs, driveMsgs, hreverse, hbraking]

/-! ## LTC's start-up (R136) -/

/-- The sources that LTC reads at its start-up, from blocks that load complete has placed. -/
theorem LoadedBlocks.present {v : Vector Level 4} {a b : Level} {s w : State} {engaged : Bool} (h : LoadedBlocks v a b s w)
    (hengaged : engaged = true ↔ v[1] = (loadTables s).tables.input[1].active) :
    presentSources w =
      [(.reverse, w.drive.reverse), (.braking, w.drive.braking), (.aligning, decide (s.steering.status = .align)),
        (.winchMoving, false), (.winchFree, !engaged), (.winchFault, false),
        (.protCaution, decide (s.protection.state ≠ .normal)),
        (.protLimit, decide (s.protection.state = .limit ∨ s.protection.state = .cutoff)),
        (.protCutoff, decide (s.protection.state = .cutoff)), (.failsafe, false), (.setup, false)]
        ++ (List.finRange 4).map fun n => (.inLevel n, decide (v[n] = (loadTables s).tables.input[n].active)) := by
  obtain ⟨c, -, hc, hwinch⟩ := h.winch
  have hswitch : c.engaged = engaged := by
    rw [hc, Bool.eq_iff_iff, hengaged, beq_iff_eq]
  have hstate : w.winch.state = if engaged then .idle else .clutchIn := by rw [hwinch, winchPlaced, hswitch]
  have hline (n : Fin 4) : inputActive w n = decide (v[n] = (loadTables s).tables.input[n].active) := by
    rw [inputActive, lineActive, h.lines, h.tables, beq_eq_decide]
  have hlines : ((List.finRange 4).map fun n => (LevelSource.inLevel n, inputActive w n)) =
      (List.finRange 4).map fun n => (LevelSource.inLevel n, decide (v[n] = (loadTables s).tables.input[n].active)) :=
    List.map_congr_left fun n _ => by rw [hline]
  rw [presentSources, hlines, h.steering, h.protection, h.link, hstate]
  congr 1
  cases engaged <;> cases s.steering.status <;> cases s.protection.state <;> rfl

/-- From DRV at rest, DRV's first computation delivers BRAKING where a fall of nothing reaches the brake delta. -/
theorem LoadedBlocks.resting {v : Vector Level 4} {a b : Level} {s w : State} (h : LoadedBlocks v a b s w)
    (hrest : s.drive = driveAfterReset) :
    w.drive.reverse = false ∧ w.drive.braking = decide ((loadTables s).tables.drive.brakeDelta = 0)
      ∧ w.lights = if (loadTables s).tables.drive.brakeDelta = 0 then
          lightsEvent (loadTables s).tables s.budget.grant[3] false { sets := [(.braking, true)], fired := none } s.lights
        else s.lights := by
  have hout : RunState.wait ≠ .run := nofun
  obtain ⟨q, hq⟩ : ∃ q, q = (loadTables s).tables.drive := ⟨_, rfl⟩
  obtain ⟨x, hx⟩ : ∃ x : Drive, x = { s.drive with
    s4Active := true, s5Active := true, period := startTimer q.servoPeriod s.drive.period } := ⟨_, rfl⟩
  have hdrive : w.drive = throttlePath q .wait s.protection.state s.budget.grant[1] x := by rw [h.drive, hx, hq]
  have hstill : x.t2 = 0 ∧ x.braking = false := by rw [hx, hrest]; exact ⟨rfl, rfl⟩
  have hreverse : w.drive.reverse = false := by rw [hdrive]; exact (throttlePath_outside hout _ _ _ _).2.2.2
  have hbraking : w.drive.braking = decide (q.brakeDelta = 0) := by
    have hfall : w.drive.braking = (x.braking || throttleFall q x.t2 (throttlePath q .wait s.protection.state s.budget.grant[1] x).t2) := by
      rw [hdrive]
      rfl
    rw [hfall, (throttlePath_outside hout _ _ _ _).1, hstill.1, hstill.2, Bool.false_or, Bool.eq_iff_iff, throttleFall_iff,
      decide_eq_true_iff]
    simp
  rw [← hq]
  refine ⟨hreverse, hbraking, ?_⟩
  have hrestReverse : s.drive.reverse = false := by rw [hrest]; rfl
  have hrestBraking : s.drive.braking = false := by rw [hrest]; rfl
  rw [h.lights, driveMsgs, hreverse, hbraking, hrestReverse, hrestBraking]
  by_cases hdelta : q.brakeDelta = 0
  · rw [if_pos hdelta, decide_eq_true hdelta]
    rfl
  · rw [if_neg hdelta, decide_eq_false hdelta]
    rfl

end Sys2Proof.Machine

/-! # Sitting 5: O54 -/

namespace Sys2Proof.Machine

/-- An event that composes leaves the scene, the grant read and the composed levels. -/
theorem lightsEvent_composes (t : Tables) (g : Nat) (m : LightMsg) (x : Lights) :
    (lightsEvent t g true m x).grantUsed = g ∧ (lightsEvent t g true m x).scene = x.scene
      ∧ (lightsEvent t g true m x).ticking = x.ticking ∧ (lightsEvent t g true m x).pwm = x.pwm
      ∧ ∀ o : Fin 12, (lightsEvent t g true m x).levels[o] = composedLevel t x.scene (lightsEvent t g true m x).active o := by
  unfold lightsEvent
  dsimp only
  rw [if_pos (Bool.true_or _)]
  exact ⟨rfl, rfl, rfl, rfl, fun o => composed_level _ _ _ o⟩

/-- From an empty list and no source true, each enabled cue whose source is true starts, where all have room. -/
theorem lightsEvent_starts {t : Tables} {g : Nat} {sets : List (LevelSource × Bool)} {x y : Lights} {asked : List (Fin 16)}
    (hy : y = lightsEvent t g true { sets := sets, fired := none } x) (hactive : x.active = [])
    (hkept : ∀ l, keptValue x.kept l = false)
    (hasked : ∀ k, k ∈ asked ↔ t.cue[k].enabled = true ∧ ∃ l, t.cue[k].trigger = some (.level l) ∧ keptValue y.kept l = true)
    (hsorted : asked.Pairwise (· < ·)) (hroom : asked.length ≤ 8) : y.active = asked.map (newInstance t.cue) := by
  have hlist := lightsEvent_active t g true { sets := sets, fired := none } x
  have hnew := lightsEvent_kept t g true { sets := sets, fired := none } x
  rw [← hy] at hlist hnew
  clear hy
  have hrequested : requestedAt t.cue x.kept y.kept none [] = asked := by
    have hfinite : (List.finRange 16).Pairwise (· < ·) := by decide
    refine List.Perm.eq_of_pairwise' (hfinite.sublist List.filter_sublist) hsorted ?_
    refine (List.perm_ext_iff_of_nodup ((List.nodup_finRange 16).filter _) (hsorted.imp fun h => ne_of_lt h)).2 fun k => ?_
    rw [hasked, List.mem_filter, Bool.and_eq_true, Bool.and_eq_true, happens_iff]
    have hno : togglesOff t.cue [] k = false := Bool.and_false _
    rw [hno]
    simp [hkept]
  have henabled : ∀ k ∈ asked, t.cue[k].enabled = true := fun k hk => ((hasked k).1 hk).1
  rw [hlist, hactive]
  show (rosterAt t.cue x.kept (keptAfter sets x.kept) none []).active = _
  rw [← hnew, rosterAt, hrequested, startCues_eq_requests henabled]
  refine (requests_room (hsorted.imp fun h => ne_of_lt h) (starting := asked) ?_ ?_).trans ?_
  · exact (List.filter_eq_self.2 fun k _ => decide_eq_true (fun i hi => by cases hi)).symm
  · simpa using hroom
  · rfl

/-- LTC's start-up is LTC's and its claim's. -/
theorem startUp_fields (w : State) :
    (lightsStartUp w).tables = w.tables ∧ (lightsStartUp w).store = w.store ∧ (lightsStartUp w).record = w.record
      ∧ (lightsStartUp w).heldInReset = w.heldInReset ∧ (lightsStartUp w).link = w.link ∧ (lightsStartUp w).inputs = w.inputs
      ∧ (lightsStartUp w).steering = w.steering ∧ (lightsStartUp w).drive = w.drive ∧ (lightsStartUp w).winch = w.winch
      ∧ (lightsStartUp w).scanner = w.scanner ∧ (lightsStartUp w).protection = w.protection := by simp

theorem lightsEvents_scene (t : Tables) (g : Nat) (ms : List LightMsg) (x : Lights) :
    (ms.foldl (fun y m => lightsEvent t g false m y) x).scene = x.scene := by
  induction ms generalizing x with
  | nil => rfl
  | cons m ms ih => exact (ih _).trans (lightsEvent_frame t g false m x).1

/-- Settles O54: the blocks that load complete places, and LTC's start-up on them. -/
theorem loadComplete : Obligations.LoadComplete := by
  unfold Obligations.LoadComplete
  intro s in0 in1 in2 in3 a b samples tb engaged event hheld hloaded hsamples htb hengaged hevent
  refine ⟨loadCompleted samples a b s, ?_, ?_⟩
  · rw [exec_loadComplete, hsamples, hheld, hloaded]
    rfl
  have htables : (loadTables s).tables = tb := by rw [htb, loadTables_tables]
  have hb := loadReady_blocks samples a b s
  have hswitch : engaged = true ↔ samples[1] = (loadTables s).tables.input[1].active := by
    rw [hengaged, htables, hsamples]
    rfl
  have hpresent := hb.present hswitch
  have hresting := hb.resting
  have hlights : (lightsStartUp (loadReady samples a b s)).lights =
      lightsEvent tb s.budget.grant[3] true { sets := presentSources (loadReady samples a b s), fired := none }
        { (loadReady samples a b s).lights with ticking := true, pwm := true } := by
    have hgrant : grantOf (loadReady samples a b s) 3 = s.budget.grant[3] := by rw [grantOf, hb.budget]; rfl
    rw [lightsStartUp, putLights_lights, hb.tables, htables, hgrant]
  have hclaims : (lightsStartUp (loadReady samples a b s)).budget =
      { (loadReady samples a b s).budget with demand := (lightsStartUp (loadReady samples a b s)).budget.demand } :=
    putLights_alone _ _
  have hflags := loadTables_flags s
  have hdriven := throttlePath_outside (show RunState.wait ≠ .run from nofun) tb.drive s.protection.state s.budget.grant[1]
    { s.drive with s4Active := true, s5Active := true, period := startTimer tb.drive.servoPeriod s.drive.period }
  have hdrive := hb.drive
  obtain ⟨c, hrecord, hcswitch, hwinch⟩ := hb.winch
  have hcengaged : c.engaged = engaged := by rw [hcswitch, Bool.eq_iff_iff, hswitch, beq_iff_eq]
  have hbudget := hb.budget
  have hscene : (loadReady samples a b s).lights.scene = s.lights.scene := by
    rw [hb.lights, lightsEvents_scene]
  have hstore := hb.store
  have hmode := hb.steering
  have hscan := hb.scanner
  have hcap := hb.protection
  rw [htables] at hpresent hresting hrecord hbudget hdrive hmode hscan hcap
  rw [loadCompleted_ready]
  have hkeeps := startUp_fields (loadReady samples a b s)
  generalize loadReady samples a b s = w at *
  generalize lightsStartUp w = u at *
  obtain ⟨ktables, kstore, krecord, kheld, klink, kinputs, ksteering, kdrive, kwinch, kscanner, kprotection⟩ := hkeeps
  obtain ⟨cgrant, cscene, cticking, cpwm, clevels⟩ := lightsEvent_composes tb s.budget.grant[3]
    { sets := presentSources w, fired := none } { w.lights with ticking := true, pwm := true }
  rw [← hlights] at cgrant cscene cticking cpwm clevels
  rw [← hdrive] at hdriven
  obtain ⟨ht2, hfiled, hwidth, hreverse⟩ := hdriven
  have hsame : w.drive.period = startTimer tb.drive.servoPeriod s.drive.period ∧ w.drive.s4Active = true
      ∧ w.drive.s5Active = true ∧ w.drive.s6Active = s.drive.s6Active := by
    rw [hdrive]
    exact ⟨rfl, rfl, rfl, rfl⟩
  obtain ⟨hperiod, h4, h5, h6⟩ := hsame
  refine ⟨by rw [ktables, hb.tables, htables], by rw [kstore, hstore], by rw [krecord, hb.record], by rw [kheld, hb.held, hheld],
    by rw [klink, hb.link], by rw [kinputs, hb.ticking], fun n => by rw [kinputs, hb.lines], fun i => by rw [kinputs, hb.flags, hflags],
    by rw [ksteering, hmode], by rw [kdrive, hperiod], by rw [kdrive, h4], by rw [kdrive, h5], by rw [kdrive, h6], by rw [kdrive, ht2],
    by rw [kdrive, hfiled], by rw [kdrive, hreverse], by rw [kdrive, hwidth], ?_, by rw [kscanner, hscan], by rw [kprotection, hcap],
    ?_, cticking, cpwm, cscene.trans hscene, cgrant, fun o => by rw [clevels, ← hscene], fun hrest => ?_,
    fun asked hrest hlightsRest hdelta hasked hsorted hroom => ?_⟩
  · rw [kwinch, hwinch, winchPlaced, hrecord, hcengaged]
  · rw [hclaims, hbudget]
  · obtain ⟨hr, hbr, hl⟩ := hresting hrest
    rw [hlights, hevent, hpresent, hr, hbr, hl]
    split
    · rw [hevent]
    · rfl
  · obtain ⟨-, -, hl⟩ := hresting hrest
    rw [if_neg (by omega), hlightsRest] at hl
    refine lightsEvent_starts hlights ?_ (fun l => ?_) hasked hsorted hroom
    · rw [hl]
      rfl
    · rw [hl]
      exact tab_get _ _

end Sys2Proof.Machine

/-! # Sitting 5: the evaluation of a pass (O46: R144 to R148) -/

namespace Sys2Proof.Machine

/-! ## The min cell (R144) -/

theorem lowest_none {l : List Int} : lowest l = none ↔ l = [] := by
  cases l with
  | nil => exact ⟨fun _ => rfl, fun _ => rfl⟩
  | cons v l =>
    refine ⟨fun h => ?_, nofun⟩
    rw [lowest] at h
    split at h <;> cases h

theorem lowest_some {l : List Int} {m : Int} (h : lowest l = some m) : m ∈ l ∧ ∀ v ∈ l, m ≤ v := by
  induction l generalizing m with
  | nil => cases h
  | cons v l ih =>
    rw [lowest] at h
    split at h
    · next hnone =>
      cases h
      rw [lowest_none.1 hnone]
      exact ⟨List.mem_singleton_self v, fun w hw => by rw [List.mem_singleton.1 hw]⟩
    · next w hw =>
      cases h
      obtain ⟨hmem, hleast⟩ := ih hw
      refine ⟨?_, fun u hu => ?_⟩
      · rcases min_choice v w with heq | heq
        · rw [heq]; exact List.mem_cons_self
        · rw [heq]; exact List.mem_cons_of_mem v hmem
      · rcases List.mem_cons.1 hu with rfl | hu
        · exact min_le_left _ _
        · exact (min_le_right _ _).trans (hleast u hu)

/-- The cells that a pass over `list` reads, up to the cell count. -/
def NamedCells (cellCount : Nat) (list : Vector ScanEntry 8) (n : Fin 4) : Prop :=
  n.val < cellCount ∧ ∃ k : Fin 8, list[k].source = some (#v[Quantity.cell1, .cell2, .cell3, .cell4])[n]

theorem cellQuantity_eq (n : Fin 4) : cellQuantity n = (#v[Quantity.cell1, .cell2, .cell3, .cell4])[n] := by
  revert n
  decide

theorem cellQuantity_index (n : Fin 4) : (quantityIndex (cellQuantity n)).val = n.val := by
  revert n
  decide

section
variable {cellCount : Nat} {list : Vector ScanEntry 8} {values : Vector Int 8}

theorem mem_minCells {v : Int} :
    v ∈ ((List.finRange 4).filter fun n => decide (n.val < cellCount) && listed list (cellQuantity n)).map (fun n =>
        values[quantityIndex (cellQuantity n)]) ↔ ∃ n : Fin 4, NamedCells cellCount list n ∧ values[n.val] = v := by
  have hvalue (n : Fin 4) : values[quantityIndex (cellQuantity n)] = values[n.val] := by
    simp only [Fin.getElem_fin, cellQuantity_index]
  simp only [hvalue, List.mem_map, List.mem_filter, List.mem_finRange, true_and, Bool.and_eq_true, decide_eq_true_eq, listed_iff]
  simp only [NamedCells, cellQuantity_eq]

theorem minCellOf_none : minCellOf cellCount list values = none ↔ ∀ n, ¬NamedCells cellCount list n := by
  rw [minCellOf, lowest_none]
  constructor
  · intro h n hn
    have hmem := (mem_minCells (values := values)).2 ⟨n, hn, rfl⟩
    rw [h] at hmem
    cases hmem
  · intro h
    refine List.eq_nil_iff_forall_not_mem.2 fun v hv => ?_
    obtain ⟨n, hn, -⟩ := mem_minCells.1 hv
    exact h n hn

theorem minCellOf_some {m : Int} (h : minCellOf cellCount list values = some m) :
    (∃ n : Fin 4, NamedCells cellCount list n ∧ values[n.val] = m)
      ∧ ∀ n : Fin 4, NamedCells cellCount list n → m ≤ values[n.val] := by
  obtain ⟨hmem, hleast⟩ := lowest_some h
  exact ⟨mem_minCells.1 hmem, fun n hn => hleast _ (mem_minCells.2 ⟨n, hn, rfl⟩)⟩

/-- The min cell is below a bound where one of the named cells is. -/
theorem minCell_below (bound : Nat) :
    (match minCellOf cellCount list values with | none => false | some m => decide (m < (bound : Int))) = true ↔
      ∃ n : Fin 4, NamedCells cellCount list n ∧ values[n.val] < (bound : Int) := by
  cases hmin : minCellOf cellCount list values with
  | none => exact iff_of_false nofun fun ⟨n, hn, _⟩ => minCellOf_none.1 hmin n hn
  | some m =>
    obtain ⟨⟨k, hk, hkm⟩, hleast⟩ := minCellOf_some hmin
    rw [decide_eq_true_iff]
    exact ⟨fun h => ⟨k, hk, by rw [hkm]; exact h⟩, fun ⟨n, hn, hless⟩ => (hleast n hn).trans_lt hless⟩

/-- The min cell is at or above a bound where some cell is named and every named cell is. -/
theorem minCell_above (bound : Nat) :
    (match minCellOf cellCount list values with | none => false | some m => decide ((bound : Int) ≤ m)) = true ↔
      (∃ n, NamedCells cellCount list n) ∧ ∀ n : Fin 4, NamedCells cellCount list n → (bound : Int) ≤ values[n.val] := by
  cases hmin : minCellOf cellCount list values with
  | none => exact iff_of_false nofun fun ⟨⟨n, hn⟩, _⟩ => minCellOf_none.1 hmin n hn
  | some m =>
    obtain ⟨⟨k, hk, hkm⟩, hleast⟩ := minCellOf_some hmin
    rw [decide_eq_true_iff]
    exact ⟨fun h => ⟨⟨k, hk⟩, fun n hn => h.trans (hleast n hn)⟩, fun ⟨_, hall⟩ => by rw [← hkm]; exact hall k hk⟩

end

/-! ## The counters (R146) -/

theorem countPass_of_counts {P : Prop} {b : Bool} {bound before after : Nat} (h : CountsPass P bound before after)
    (hb : b = true ↔ P) : countPass b bound before = after := by
  rw [countPass]
  split
  · next ht => exact (h.1 (hb.1 ht)).symm
  · next hf => exact (h.2 fun hp => hf (hb.2 hp)).symm

/-! ## The judgement (R147, R148) -/

section
variable {r : ProtectRecord} {c : Counters} {st : ProtState}

theorem judge_cutoff : judge r c .cutoff = none := rfl

theorem judge_overcurrent (hst : st ≠ .cutoff) (h : c.overcurrent = r.pOc) : judge r c st = some (.cutoff, .overcurrent) := by
  cases st with
  | cutoff => exact absurd rfl hst
  | _ => exact if_pos h

theorem judge_undervolt (hst : st ≠ .cutoff) (h : c.overcurrent ≠ r.pOc) (hcut : c.cutoff = r.pCut) :
    judge r c st = some (.cutoff, .undervolt) := by
  cases st with
  | cutoff => exact absurd rfl hst
  | _ => exact (if_neg h).trans (if_pos hcut)

/-! With no cause for CUTOFF, a fall comes before a rise. -/

theorem judge_normal (h : c.overcurrent ≠ r.pOc) (hcut : c.cutoff ≠ r.pCut) : judge r c .normal =
    if c.limit = r.pFall then some (.limit, .none) else if c.caution = r.pFall then some (.caution, .none) else none :=
  (if_neg h).trans (if_neg hcut)

theorem judge_caution (h : c.overcurrent ≠ r.pOc) (hcut : c.cutoff ≠ r.pCut) : judge r c .caution =
    if c.limit = r.pFall then some (.limit, .none) else if c.toNormal = r.pRise then some (.normal, .none) else none :=
  (if_neg h).trans (if_neg hcut)

theorem judge_limit (h : c.overcurrent ≠ r.pOc) (hcut : c.cutoff ≠ r.pCut) : judge r c .limit =
    if c.toCaution = r.pRise then some (.caution, .none) else none := (if_neg h).trans (if_neg hcut)

theorem judge_noCause (h : c.overcurrent ≠ r.pOc) (hcut : c.cutoff ≠ r.pCut) {x : ProtState × ProtCause}
    (hj : judge r c st = some x) : x.2 = .none := by
  cases st with
  | cutoff => cases hj
  | normal =>
    rw [judge_normal h hcut] at hj
    split_ifs at hj <;> rw [← Option.some.inj hj]
  | caution =>
    rw [judge_caution h hcut] at hj
    split_ifs at hj <;> rw [← Option.some.inj hj]
  | limit =>
    rw [judge_limit h hcut] at hj
    split_ifs at hj
    rw [← Option.some.inj hj]

/-- A judgement is a change. -/
theorem judge_changes {x : ProtState × ProtCause} (h : judge r c st = some x) : x.1 ≠ st := by
  unfold judge at h
  split at h
  · cases h
  all_goals
    split_ifs at h
    all_goals
      rw [← Option.some.inj h]
      decide

end

/-! ## A change of the protection state at the other blocks (R96, R121) -/

theorem winchProtChange_flags (c : WinchContext) (w : Winch) : (winchProtChange c w).flags = [] := by
  unfold winchProtChange
  split
  · exact (winchHalt_quiet c _ w).flags
  · rfl

theorem haltedWinch_command (c : WinchContext) (w : Winch) : (haltedWinch c w).command = 0 := by
  unfold haltedWinch
  split
  · rfl
  · split
    · split <;> rfl
    · rfl

theorem deliverProtection_inputs (p : Protection) (s : State) : (deliverProtection p s).inputs = raiseFlag .protChanged s.inputs := by
  rw [deliverProtection, lightEvent_inputs, onWinchEvent_inputs (winchProtChange_flags _ _), driveCompute_inputs]
  rfl

theorem deliverProtection_kept (p : Protection) (s : State) :
    keptValue (deliverProtection p s).lights.kept .protCaution = decide (p.state ≠ .normal)
      ∧ keptValue (deliverProtection p s).lights.kept .protLimit = decide (p.state = .limit ∨ p.state = .cutoff)
      ∧ keptValue (deliverProtection p s).lights.kept .protCutoff = decide (p.state = .cutoff) := by
  have hdistinct : ((protSources p.state).sets.map Prod.fst).Nodup := by simp [protSources]
  refine ⟨?_, ?_, ?_⟩ <;> refine lightEvent_kept_mem hdistinct ?_ _ <;> cases p.state <;> simp [protSources]

/-- CUTOFF zeroes the throttle, stops a moving winch by the ramp and returns a released clutch. -/
theorem deliverProtection_cutoff {p : Protection} (h : p.state = .cutoff) (s : State) :
    (deliverProtection p s).drive.t2 = 0 ∧ (deliverProtection p s).drive.filed = 0 ∧ (deliverProtection p s).winch.command = 0
      ∧ hauling (deliverProtection p s).winch.state = false ∧ released (deliverProtection p s).winch.state = false
      ∧ (hauling s.winch.state = true →
          (deliverProtection p s).winch.state = .rampDown ∧ (deliverProtection p s).winch.duty = s.winch.duty) := by
  have hwinch : (deliverProtection p s).winch = haltedWinch { winchContext s with prot := p.state } s.winch := by
    rw [deliverProtection_winch_eq, winchProtChange, if_pos h, winchHalt_winch_returns _ (.inr h)]
  have hdrive : (deliverProtection p s).drive.t2 = 0 ∧ (deliverProtection p s).drive.filed = 0 := by
    have hzero : driveZeroed s.link.run p.state = true := driveZeroed_iff.2 (.inr h)
    simp [deliverProtection, throttlePath, throttleT2, driveDemand, hzero]
  obtain ⟨hh, hr⟩ := haltedWinch_rests { winchContext s with prot := p.state } s.winch
  rw [hwinch]
  refine ⟨hdrive.1, hdrive.2, haltedWinch_command _ _, hh, hr, fun hm => ?_⟩
  rw [haltedWinch_hauling _ hm]
  exact ⟨rfl, rfl⟩

end Sys2Proof.Machine

/-! # Sitting 5: O46, and the last conversion of a pass -/

namespace Sys2Proof.Machine

section
variable {list : Vector ScanEntry 8} {s : State} {r : ProtectRecord} {c : Counters}

/-- The protection state with the min cell of a pass. -/
def passTaken (list : Vector ScanEntry 8) (s : State) : Protection :=
  { s.protection with
    minCell := (minCellOf s.tables.protect.cellCount list s.scanner.values).getD s.protection.minCell, primed := true }

theorem evaluatePass_unprimed (h : s.protection.primed = false) : evaluatePass list s = { s with protection := passTaken list s } :=
  if_neg (by rw [h]; exact nofun)

/-- A primed pass with no change of the state: the counters (R146). -/
theorem evaluatePass_stays (h : s.protection.primed = true)
    (hc : countersAfter s.tables.protect (minCellOf s.tables.protect.cellCount list s.scanner.values) (measured s .packI)
      s.protection.counters = c) (hj : judge s.tables.protect c s.protection.state = none) :
    evaluatePass list s = { s with protection := { passTaken list s with counters := c } } := by
  have hpass : evaluatePass list s = _ := if_pos h
  rw [hpass, hc, hj]
  rfl

/-- What a change of the state leaves (R148, R150). -/
theorem evaluatePass_changes (h : s.protection.primed = true)
    (hc : countersAfter s.tables.protect (minCellOf s.tables.protect.cellCount list s.scanner.values) (measured s .packI)
      s.protection.counters = c) {st : ProtState} {cause : ProtCause}
    (hj : judge s.tables.protect c s.protection.state = some (st, cause)) :
    evaluatePass list s = deliverProtection { passTaken list s with
      counters := { c with toCaution := 0, toNormal := 0 }, state := st, cause := cause
      cap := capFor s.tables.protect st } s := by
  have hpass : evaluatePass list s = _ := if_pos h
  rw [hpass, hc, hj]
  rfl

/-- State and cause after a primed pass are those judged, or stand. -/
theorem evaluatePass_judged (h : s.protection.primed = true)
    (hc : countersAfter s.tables.protect (minCellOf s.tables.protect.cellCount list s.scanner.values) (measured s .packI)
      s.protection.counters = c) :
    ((evaluatePass list s).protection.state, (evaluatePass list s).protection.cause) =
      (judge s.tables.protect c s.protection.state).getD (s.protection.state, s.protection.cause) := by
  cases hj : judge s.tables.protect c s.protection.state with
  | none =>
    rw [evaluatePass_stays h hc hj]
    rfl
  | some x =>
    rw [evaluatePass_changes (st := x.1) (cause := x.2) h hc hj, deliverProtection_protection]
    rfl

/-- The min cell that an evaluation leaves (R144). -/
theorem evaluatePass_minCell :
    (evaluatePass list s).protection.primed = true
      ∧ (evaluatePass list s).protection.minCell =
        (minCellOf s.tables.protect.cellCount list s.scanner.values).getD s.protection.minCell := by
  cases hp : s.protection.primed with
  | false => rw [evaluatePass_unprimed hp]; exact ⟨rfl, rfl⟩
  | true =>
    cases hj : judge s.tables.protect (countersAfter s.tables.protect
        (minCellOf s.tables.protect.cellCount list s.scanner.values) (measured s .packI) s.protection.counters) s.protection.state with
    | none =>
      rw [evaluatePass_stays hp rfl hj]
      exact ⟨rfl, rfl⟩
    | some x =>
      rw [evaluatePass_changes (st := x.1) (cause := x.2) hp rfl hj, deliverProtection_protection]
      exact ⟨rfl, rfl⟩

/-- Counters that each count the pass by their own condition are the model's (Table 7-6). -/
theorem countersAfter_eq {cellCount : Nat} {values : Vector Int 8} {packI : Int} {b : Counters}
    (hcaution : CountsPass (∃ n : Fin 4, NamedCells cellCount list n ∧ values[n.val] < (r.vCaution : Int)) r.pFall b.caution c.caution)
    (hlimit : CountsPass (∃ n : Fin 4, NamedCells cellCount list n ∧ values[n.val] < (r.vLimit : Int)) r.pFall b.limit c.limit)
    (hcutoff : CountsPass (∃ n : Fin 4, NamedCells cellCount list n ∧ values[n.val] < (r.vCutoff : Int)) r.pCut b.cutoff c.cutoff)
    (htoCaution : CountsPass ((∃ n, NamedCells cellCount list n) ∧ ∀ n : Fin 4, NamedCells cellCount list n →
      (r.vLimit + r.hysteresis : Int) ≤ values[n.val]) r.pRise b.toCaution c.toCaution)
    (htoNormal : CountsPass ((∃ n, NamedCells cellCount list n) ∧ ∀ n : Fin 4, NamedCells cellCount list n →
      (r.vCaution + r.hysteresis : Int) ≤ values[n.val]) r.pRise b.toNormal c.toNormal)
    (hovercurrent : CountsPass ((r.iTrip : Int) < packI) r.pOc b.overcurrent c.overcurrent) :
    countersAfter r (minCellOf cellCount list values) packI b = c := by
  have habove (x y : Nat) := minCell_above (cellCount := cellCount) (list := list) (values := values) (x + y)
  simp only [Nat.cast_add] at habove
  obtain ⟨_, _, _, _, _, _⟩ := c
  exact (Counters.mk.injEq ..).mpr ⟨countPass_of_counts hcaution (minCell_below _), countPass_of_counts hlimit (minCell_below _),
    countPass_of_counts hcutoff (minCell_below _), countPass_of_counts htoCaution (habove r.vLimit r.hysteresis),
    countPass_of_counts htoNormal (habove r.vCaution r.hysteresis), countPass_of_counts hovercurrent decide_eq_true_iff⟩

end

/-- The last conversion of the last slot of a pass ends in its evaluation. -/
theorem completeSlot_last {p : Pass} {q : Quantity} {v : Int} {s : State} (h : nextSlot p.list (p.slot.val + 1) = none) :
    completeSlot p q v s = evaluatePass p.list (handValue q v (putScanner q v (startPass s.tables.scan) s)) := by
  rw [completeSlot, h]

theorem completeSlot_next {p : Pass} {q : Quantity} {v : Int} {s : State} {k : Fin 8}
    (h : nextSlot p.list (p.slot.val + 1) = some k) :
    completeSlot p q v s = handValue q v (putScanner q v (some { p with slot := k, done := 0, sum := 0 }) s) := by
  rw [completeSlot, h]

/-- The end of a conversion that ends its slot. -/
theorem conversionEnded_slot {s : State} {p : Pass} {q : Quantity} (x : SenseInputs) (hpass : s.scanner.pass = some p)
    (hsource : p.list[p.slot].source = some q) (hdone : p.list[p.slot].count ≤ p.done + 1) :
    conversionEnded x s = completeSlot p q
      ((p.sum + saturate q (sourceInput s.tables.protect.cellCount x q)).tdiv p.list[p.slot].count) s := by
  unfold conversionEnded
  rw [hpass]
  dsimp only
  rw [hsource]
  exact if_pos hdone

theorem conversionEnded_goesOn {s : State} {p : Pass} {q : Quantity} (x : SenseInputs) (hpass : s.scanner.pass = some p)
    (hsource : p.list[p.slot].source = some q) (hdone : p.done + 1 < p.list[p.slot].count) :
    conversionEnded x s = putPass (some { p with
      done := p.done + 1, sum := p.sum + saturate q (sourceInput s.tables.protect.cellCount x q) }) s := by
  unfold conversionEnded
  rw [hpass]
  dsimp only
  rw [hsource]
  exact if_neg (not_le.2 hdone)

end Sys2Proof.Machine

/-! # Sitting 5: O46 settled -/

namespace Sys2Proof.Machine

/-- What handing a value on leaves: MSC, and all but WCH, LTC, the flags and the claims. -/
theorem handValue_frame (q : Quantity) (v : Int) (s : State) :
    handValue q v s = { s with winch := (handValue q v s).winch, lights := (handValue q v s).lights
                               inputs := (handValue q v s).inputs, budget := (handValue q v s).budget } :=
  State.ext_fields (by simp) (by simp) (by simp) (by simp) (by simp) (by simp) rfl rfl (by simp) (by simp) rfl rfl (by simp)
    (by simp)

theorem handValue_other {q : Quantity} (hI : q ≠ .winchI) (hT : q ≠ .temp) (v : Int) (s : State) : handValue q v s = s := by
  cases q with
  | winchI => exact absurd rfl hI
  | temp => exact absurd rfl hT
  | _ => rfl

theorem exec_conversionEnd (x : SenseInputs) (s : State) : exec (.conversionEnd x) s = .next (conversionEnded x s) := rfl

/-- The slots after a slot, by number and by place. -/
theorem nextSlot_last {p : Pass} : nextSlot p.list (p.slot.val + 1) = none ↔ ∀ k : Fin 8, p.slot < k → p.list[k].source = none :=
  nextSlot_none

/-- The judgement of a pass in its parts (R147, R148). -/
theorem evaluatePass_state {list : Vector ScanEntry 8} {s : State} {c : Counters} (h : s.protection.primed = true)
    (hc : countersAfter s.tables.protect (minCellOf s.tables.protect.cellCount list s.scanner.values) (measured s .packI)
      s.protection.counters = c) :
    (s.protection.state = .cutoff →
        (evaluatePass list s).protection.state = .cutoff ∧ (evaluatePass list s).protection.cause = s.protection.cause)
      ∧ (s.protection.state ≠ .cutoff → c.overcurrent = s.tables.protect.pOc →
          (evaluatePass list s).protection.state = .cutoff ∧ (evaluatePass list s).protection.cause = .overcurrent)
      ∧ (s.protection.state ≠ .cutoff → c.overcurrent ≠ s.tables.protect.pOc → c.cutoff = s.tables.protect.pCut →
          (evaluatePass list s).protection.state = .cutoff ∧ (evaluatePass list s).protection.cause = .undervolt)
      ∧ (s.protection.state ≠ .cutoff → c.overcurrent ≠ s.tables.protect.pOc → c.cutoff ≠ s.tables.protect.pCut →
          (evaluatePass list s).protection.cause = s.protection.cause ∨ (evaluatePass list s).protection.cause = .none)
      ∧ (s.protection.state = .normal → c.overcurrent ≠ s.tables.protect.pOc → c.cutoff ≠ s.tables.protect.pCut →
          (evaluatePass list s).protection.state =
            (if c.limit = s.tables.protect.pFall then .limit else if c.caution = s.tables.protect.pFall then .caution else .normal))
      ∧ (s.protection.state = .caution → c.overcurrent ≠ s.tables.protect.pOc → c.cutoff ≠ s.tables.protect.pCut →
          (evaluatePass list s).protection.state =
            (if c.limit = s.tables.protect.pFall then .limit else if c.toNormal = s.tables.protect.pRise then .normal else .caution))
      ∧ (s.protection.state = .limit → c.overcurrent ≠ s.tables.protect.pOc → c.cutoff ≠ s.tables.protect.pCut →
          (evaluatePass list s).protection.state = (if c.toCaution = s.tables.protect.pRise then .caution else .limit)) := by
  have hjudged := evaluatePass_judged h hc
  have hstate := congrArg Prod.fst hjudged
  have hcause := congrArg Prod.snd hjudged
  dsimp only at hstate hcause
  refine ⟨fun hst => ?_, fun hst hoc => ?_, fun hst hoc hcut => ?_, fun hst hoc hcut => ?_, fun hst hoc hcut => ?_,
    fun hst hoc hcut => ?_, fun hst hoc hcut => ?_⟩
  · rw [hstate, hcause, hst]
    exact ⟨rfl, rfl⟩
  · rw [hstate, hcause, judge_overcurrent hst hoc]
    exact ⟨rfl, rfl⟩
  · rw [hstate, hcause, judge_undervolt hst hoc hcut]
    exact ⟨rfl, rfl⟩
  · cases hj : judge s.tables.protect c s.protection.state with
    | none =>
      rw [hj] at hcause
      exact .inl hcause
    | some x =>
      rw [hj] at hcause
      exact .inr (hcause.trans (judge_noCause hoc hcut hj))
  · rw [hstate, hst, judge_normal hoc hcut]
    split_ifs <;> rfl
  · rw [hstate, hst, judge_caution hoc hcut]
    split_ifs <;> rfl
  · rw [hstate, hst, judge_limit hoc hcut]
    split_ifs <;> rfl

/-- Settles O46: the min cell, the counters, the judgement and the change; and the conversion that ends a pass. -/
theorem passEvaluation : Obligations.PassEvaluation := by
  unfold Obligations.PassEvaluation
  refine ⟨?_, fun s p q x hpass hsource hdone hlast => ?_⟩
  · rintro s t list r b c named rfl rfl hnamed hcaution hlimit hcutoff htoCaution htoNormal hovercurrent rfl
    obtain rfl : named = NamedCells s.tables.protect.cellCount list := funext fun n => propext (hnamed n)
    have hc : countersAfter s.tables.protect (minCellOf s.tables.protect.cellCount list s.scanner.values) (measured s .packI)
        s.protection.counters = c := countersAfter_eq hcaution hlimit hcutoff htoCaution htoNormal hovercurrent
    obtain ⟨hprimed, hmin⟩ := evaluatePass_minCell (list := list) (s := s)
    refine ⟨hprimed, fun n hn => ?_, fun ⟨k, hk⟩ => ?_, fun hnone => ?_, fun hun => ?_, fun hp => ?_⟩
    · rw [hmin]
      cases hcell : minCellOf s.tables.protect.cellCount list s.scanner.values with
      | none => exact absurd hn (minCellOf_none.1 hcell n)
      | some m => exact (minCellOf_some hcell).2 n hn
    · rw [hmin]
      cases hcell : minCellOf s.tables.protect.cellCount list s.scanner.values with
      | none => exact absurd hk (minCellOf_none.1 hcell k)
      | some m =>
        obtain ⟨⟨n, hn, hvalue⟩, -⟩ := minCellOf_some hcell
        exact ⟨n, hn, hvalue.symm⟩
    · rw [hmin, minCellOf_none.2 hnone]
      rfl
    · rw [evaluatePass_unprimed hun]
      rfl
    · obtain ⟨h1, h2, h3, h4, h5, h6, h7⟩ := evaluatePass_state hp hc
      refine ⟨h1, h2, h3, h4, h5, h6, h7, fun hsame => ?_, fun hdiffers => ?_⟩
      · cases hj : judge s.tables.protect c s.protection.state with
        | none =>
          rw [evaluatePass_stays hp hc hj, passTaken, ← hp]
        | some x =>
          have hstate := congrArg Prod.fst (evaluatePass_judged hp hc)
          rw [hj] at hstate
          exact absurd (hstate.symm.trans hsame) (judge_changes hj)
      · cases hj : judge s.tables.protect c s.protection.state with
        | none =>
          rw [evaluatePass_stays hp hc hj] at hdiffers
          exact absurd rfl hdiffers
        | some x =>
          obtain ⟨st, cause⟩ := x
          rw [evaluatePass_changes hp hc hj]
          obtain ⟨y, hy⟩ : ∃ y : Protection, y = { passTaken list s with
            counters := { c with toCaution := 0, toNormal := 0 }, state := st, cause := cause
            cap := capFor s.tables.protect st } := ⟨_, rfl⟩
          obtain ⟨k1, k2, k3⟩ := deliverProtection_kept y s
          rw [← hy, deliverProtection_protection]
          refine ⟨by rw [hy], by rw [hy], deliverProtection_inputs y s, k1, k2, k3, fun hcut => deliverProtection_cutoff hcut s⟩
  · have hnext := nextSlot_last.2 hlast
    refine ⟨conversionEnded x s, _, exec_conversionEnd x s, (conversionEnded_slot x hpass hsource hdone).trans (completeSlot_last hnext),
      ?_, fun hI hT => ?_⟩
    · rw [conversionEnded_slot x hpass hsource hdone, completeSlot_last hnext, evaluatePass_scanner, handValue_scanner]
      exact handValue_frame _ _ _
    · rw [conversionEnded_slot x hpass hsource hdone, completeSlot_last hnext, evaluatePass_scanner, handValue_scanner,
        handValue_other hI hT]
      rfl

end Sys2Proof.Machine

/-! # Sitting 5: the end of a conversion, and what it hands to WCH (O45: R107, R109, R139, R141, R142) -/

namespace Sys2Proof.Machine

/-! ## WCH while a pass is evaluated -/

/-- What an evaluation leaves of WCH and of its fault: a stop by R96 at most, and the fault's flag and source. -/
structure AfterEvaluation (u t : State) : Prop where
  winch : t.winch = u.winch ∨ ∃ c : WinchContext, t.winch = haltedWinch c u.winch
  flag : u.inputs.flags[9] = true → t.inputs.flags[9] = true
  source : u.winch.state = .fault → keptValue u.lights.kept .winchFault = true → keptValue t.lights.kept .winchFault = true

theorem AfterEvaluation.refl (u : State) : AfterEvaluation u u := ⟨.inl rfl, id, fun _ => id⟩

theorem haltedWinch_keeps (c : WinchContext) (w : Winch) :
    (haltedWinch c w).winchI = w.winchI ∧ (haltedWinch c w).temp = w.temp ∧ (haltedWinch c w).cause = w.cause
      ∧ (haltedWinch c w).further = w.further ∧ (haltedWinch c w).stallTimer = w.stallTimer := by
  unfold haltedWinch
  split_ifs <;> exact ⟨rfl, rfl, rfl, rfl, rfl⟩

theorem haltedWinch_fault {w : Winch} (c : WinchContext) (h : w.state = .fault) : haltedWinch c w = commandless w := by
  unfold haltedWinch
  rw [h]
  rfl

theorem AfterEvaluation.keeps {u t : State} (h : AfterEvaluation u t) :
    t.winch.winchI = u.winch.winchI ∧ t.winch.temp = u.winch.temp ∧ t.winch.cause = u.winch.cause
      ∧ t.winch.further = u.winch.further ∧ t.winch.stallTimer = u.winch.stallTimer := by
  rcases h.winch with heq | ⟨c, heq⟩ <;> rw [heq]
  · exact ⟨rfl, rfl, rfl, rfl, rfl⟩
  · exact haltedWinch_keeps c u.winch

/-- A winch in FAULT loses its command at most. -/
theorem AfterEvaluation.fault {u t : State} (h : AfterEvaluation u t) (hf : u.winch.state = .fault) :
    t.winch = { u.winch with command := t.winch.command } := by
  rcases h.winch with heq | ⟨c, heq⟩
  · rw [heq]
  · rw [heq, haltedWinch_fault c hf]
    rfl

theorem deliverProtection_winch_cases (p : Protection) (s : State) :
    (deliverProtection p s).winch = s.winch ∨ ∃ c : WinchContext, (deliverProtection p s).winch = haltedWinch c s.winch := by
  rw [deliverProtection_winch_eq, winchProtChange]
  split
  · next hcut => exact .inr ⟨_, winchHalt_winch_returns _ (.inr hcut)⟩
  · exact .inl rfl

theorem afterEvaluation (l : Vector ScanEntry 8) (u : State) : AfterEvaluation u (evaluatePass l u) := by
  have hwinch : (evaluatePass l u).winch = u.winch ∨ ∃ c : WinchContext, (evaluatePass l u).winch = haltedWinch c u.winch := by
    rcases evaluatePass_cases l u with ⟨p, heq, -⟩ | ⟨p, c, heq, -⟩
    · rw [heq]
      exact .inl rfl
    · rw [heq]
      exact deliverProtection_winch_cases p u
  refine ⟨hwinch, fun hflag => ?_, fun hfault hkept => ?_⟩
  · rcases evaluatePass_cases l u with ⟨p, heq, -⟩ | ⟨p, c, heq, -⟩
    · rw [heq]
      exact hflag
    · rw [heq, deliverProtection_inputs]
      exact raiseFlag_keeps .protChanged u.inputs 9 hflag
  · have hstands : (evaluatePass l u).winch.state = .fault := by
      rcases hwinch with heq | ⟨c, heq⟩
      · rw [heq, hfault]
      · rw [heq, haltedWinch_fault c hfault]
        exact hfault
    have hbefore : Follows (fun k => k = .winchFault) u := by
      rintro k rfl
      rw [hkept, ownerValue, hfault]
      rfl
    rw [evaluatePass_follows hbefore l .winchFault rfl, ownerValue, hstands]
    rfl

/-! ## The values handed to WCH (R107, R109) -/

theorem handValue_winchI (v : Int) (s : State) :
    handValue .winchI v s = { s with winch := { s.winch with
      winchI := v
      stallTimer :=
        if (s.tables.winch.stallCurrent : Int) ≤ v then
          (if 0 < s.winch.duty ∧ s.winch.stallTimer.running = false then startTimer s.tables.winch.stallTime s.winch.stallTimer
            else s.winch.stallTimer)
        else stopTimer s.winch.stallTimer } } :=
  onWinchEvent_silent (f := fun c w => winchCurrent c v w) rfl rfl

/-- Below the trip, and in FAULT by HOT, a TEMP value is only kept. -/
theorem handValue_temp_kept {v : Int} {s : State}
    (h : ¬((s.tables.winch.tempTrip : Int) ≤ v ∧ ¬(s.winch.state = .fault ∧ s.winch.cause = .hot))) :
    handValue .temp v s = { s with winch := { s.winch with temp := v } } :=
  onWinchEvent_silent (f := fun c w => winchTemp c v w) (if_neg h) rfl

/-- At the trip in FAULT of another cause it is a further fault. -/
theorem handValue_temp_further {v : Int} {s : State} (htrip : (s.tables.winch.tempTrip : Int) ≤ v) (hf : s.winch.state = .fault)
    (hcause : s.winch.cause ≠ .hot) : handValue .temp v s = { s with winch := { s.winch with temp := v, further := true } } := by
  have hstep : winchTemp (winchContext s) v s.winch = winchBegin { s.winch with temp := v, further := true } := by
    have hfault : winchTemp (winchContext s) v s.winch = winchFaulted (winchContext s) .hot (winchBegin { s.winch with temp := v }) :=
      if_pos ⟨htrip, fun h => hcause h.2⟩
    rw [hfault, winchFaulted_again _ (show (winchBegin { s.winch with temp := v }).winch.state = .fault from hf)]
    rfl
  exact onWinchEvent_silent (f := fun c w => winchTemp c v w) hstep rfl

/-- At the trip outside FAULT it is a HOT fault. -/
theorem handValue_temp_fault {v : Int} {s : State} (htrip : (s.tables.winch.tempTrip : Int) ≤ v) (hf : s.winch.state ≠ .fault) :
    (handValue .temp v s).winch = faultedWinch (winchContext s) { s.winch with temp := v } .hot
      ∧ (handValue .temp v s).inputs.flags[9] = true ∧ keptValue (handValue .temp v s).lights.kept .winchFault = true := by
  have hfault : winchTemp (winchContext s) v s.winch = winchFaulted (winchContext s) .hot (winchBegin { s.winch with temp := v }) :=
    if_pos ⟨htrip, fun h => hf h.1⟩
  have hstate : (winchBegin { s.winch with temp := v }).winch.state ≠ .fault := hf
  refine ⟨?_, ?_, ?_⟩
  · rw [handValue, onWinchEvent_winch, hfault, winchFaulted_winch _ hstate]
    rfl
  · rw [handValue, onWinchEvent_inputs_eq, hfault, winchFaulted_flags _ hstate]
    exact (raiseFlag_flag .winchFault s.inputs 9).trans (if_pos rfl)
  · rw [handValue, onWinchEvent_kept, hfault, winchFaulted_sets _ hstate]
    exact kept_of_fault hf _

theorem handValue_alone (q : Quantity) (v : Int) (s : State) : DemandsAlone s.budget (handValue q v s).budget := by
  unfold handValue
  split
  · exact onWinchEvent_alone _ s
  · exact onWinchEvent_alone _ s
  · rfl

end Sys2Proof.Machine

/-! # Sitting 5: O45 -/

namespace Sys2Proof.Machine

theorem nextSlot_first {list : Vector ScanEntry 8} {i : Nat} {k : Fin 8} (hk : i ≤ k.val) (hsource : list[k].source ≠ none)
    (hbefore : ∀ j : Fin 8, i ≤ j.val → j < k → list[j].source = none) : nextSlot list i = some k := by
  cases h : nextSlot list i with
  | none => exact absurd (nextSlot_none.1 h k hk) hsource
  | some m =>
    obtain ⟨hm, hms, hmb⟩ := nextSlot_some h
    rcases lt_trichotomy m k with hlt | heq | hgt
    · exact absurd (hbefore m hm hlt) hms
    · rw [heq]
    · exact absurd (hmb k hk hgt) hsource

/-- The part as a slot's value is handed on, and as the slot's end leaves it. -/
theorem completeSlot_cases (p : Pass) (q : Quantity) (v : Int) (s : State) : ∃ y : Option Pass,
    y = (nextSlot p.list (p.slot.val + 1)).elim (startPass s.tables.scan) (fun k => some { p with slot := k, done := 0, sum := 0 })
      ∧ AfterEvaluation (handValue q v (putScanner q v y s)) (completeSlot p q v s)
      ∧ (completeSlot p q v s).scanner = (putScanner q v y s).scanner
      ∧ ((∀ k : Fin 8, p.slot < k → p.list[k].source = none) → (completeSlot p q v s).protection.primed = true)
      ∧ (¬(∀ k : Fin 8, p.slot < k → p.list[k].source = none) → completeSlot p q v s = handValue q v (putScanner q v y s)) := by
  cases h : nextSlot p.list (p.slot.val + 1) with
  | none =>
    rw [completeSlot_last h]
    refine ⟨_, rfl, afterEvaluation _ _, by rw [evaluatePass_scanner, handValue_scanner]; rfl, fun _ => evaluatePass_minCell.1,
      fun hno => absurd (nextSlot_last.1 h) hno⟩
  | some k =>
    rw [completeSlot_next h]
    refine ⟨_, rfl, .refl _, by rw [handValue_scanner]; rfl, fun hlast => ?_, fun _ => rfl⟩
    rw [nextSlot_last.2 hlast] at h
    cases h

/-- What WCH holds after a slot, by the value handed on. -/
structure SlotAtWinch (q : Quantity) (mean : Int) (last : Prop) (s t : State) : Prop where
  current : q ≠ .winchI → t.winch.winchI = s.winch.winchI
  temp : q ≠ .temp → t.winch.temp = s.winch.temp ∧ t.winch.cause = s.winch.cause ∧ t.winch.further = s.winch.further
  stall : q ≠ .winchI → q ≠ .temp → t.winch.stallTimer = s.winch.stallTimer
  winchI : q = .winchI → t.winch.winchI = mean ∧ t.winch.stallTimer =
    (if (s.tables.winch.stallCurrent : Int) ≤ mean then
      (if 0 < s.winch.duty ∧ s.winch.stallTimer.running = false then startTimer s.tables.winch.stallTime s.winch.stallTimer
        else s.winch.stallTimer)
      else stopTimer s.winch.stallTimer)
  hot : q = .temp → t.winch.temp = mean
    ∧ (mean < (s.tables.winch.tempTrip : Int) → t.winch.cause = s.winch.cause ∧ t.winch.further = s.winch.further
        ∧ t.winch.stallTimer = s.winch.stallTimer ∧ (¬last → t.winch = { s.winch with temp := mean }))
    ∧ ((s.tables.winch.tempTrip : Int) ≤ mean → s.winch.state = .fault → t.winch.state = .fault
        ∧ t.winch.cause = s.winch.cause ∧ (s.winch.cause = .hot → t.winch.further = s.winch.further)
        ∧ (s.winch.cause ≠ .hot → t.winch.further = true))
    ∧ ((s.tables.winch.tempTrip : Int) ≤ mean → s.winch.state ≠ .fault →
        t.winch.state = .fault ∧ t.winch.cause = .hot ∧ t.winch.further = false ∧ t.winch.direction = .none ∧ t.winch.duty = 0
          ∧ t.winch.target = 0 ∧ t.winch.filed = 0 ∧ t.winch.stallTimer.running = false ∧ t.winch.noMotionTimer.running = false
          ∧ t.winch.clutchTimer.running = false
          ∧ t.winch.clutchWidth =
              (if released s.winch.state = true then (s.tables.winch.engagePosition : Int) else s.winch.clutchWidth)
          ∧ t.inputs.flags[9] = true ∧ keptValue t.lights.kept .winchFault = true)

theorem slotAtWinch {q : Quantity} {mean : Int} {last : Prop} {s v t : State} (hwinch : v.winch = s.winch) (htables : v.tables = s.tables)
    (hafter : AfterEvaluation (handValue q mean v) t) (hnot : ¬last → t = handValue q mean v) : SlotAtWinch q mean last s t := by
  obtain ⟨kI, kT, kC, kF, kS⟩ := hafter.keeps
  by_cases hI : q = .winchI
  · subst hI
    rw [handValue_winchI, hwinch, htables] at kI kT kC kF kS
    exact ⟨fun h => absurd rfl h, fun _ => ⟨kT, kC, kF⟩, fun h => absurd rfl h, fun _ => ⟨kI, kS⟩, nofun⟩
  · by_cases hT : q = .temp
    · subst hT
      have hrest (hcurrent : (handValue .temp mean v).winch.winchI = s.winch.winchI) (hhot : _) : SlotAtWinch .temp mean last s t :=
        ⟨fun _ => kI.trans hcurrent, fun h => absurd rfl h, fun _ h => absurd rfl h, nofun, fun _ => hhot⟩
      by_cases htrip : (s.tables.winch.tempTrip : Int) ≤ mean
      · by_cases hfault : s.winch.state = .fault
        · by_cases hcause : s.winch.cause = .hot
          · have hkept := handValue_temp_kept (v := mean) (s := v) (by rw [hwinch]; exact fun h => h.2 ⟨hfault, hcause⟩)
            rw [hkept, hwinch] at kI kT kC kF kS hafter hrest
            have hstate := hafter.fault hfault
            refine hrest rfl ⟨kT, fun hless => absurd htrip (not_le.2 hless), fun _ _ => ⟨by rw [hstate]; exact hfault, kC, fun _ => kF,
              fun h => absurd hcause h⟩, fun _ h => absurd hfault h⟩
          · have hfurther := handValue_temp_further (v := mean) (s := v) (by rw [htables]; exact htrip) (by rw [hwinch]; exact hfault)
              (by rw [hwinch]; exact hcause)
            rw [hfurther, hwinch] at kI kT kC kF kS hafter hrest
            have hstate := hafter.fault hfault
            refine hrest rfl ⟨kT, fun hless => absurd htrip (not_le.2 hless), fun _ _ => ⟨by rw [hstate]; exact hfault, kC,
              fun h => absurd h hcause, fun _ => kF⟩, fun _ h => absurd hfault h⟩
        · obtain ⟨hfaulted, hflag, hkept⟩ := handValue_temp_fault (v := mean) (s := v) (by rw [htables]; exact htrip)
            (by rw [hwinch]; exact hfault)
          have hstands : (handValue .temp mean v).winch.state = .fault := by rw [hfaulted]; rfl
          have hstate := hafter.fault hstands
          have hwidth : engagedWidth (winchContext v) { v.winch with temp := mean } =
              if released s.winch.state = true then (s.tables.winch.engagePosition : Int) else s.winch.clutchWidth := by
            rw [engagedWidth, hwinch, show (winchContext v).record = s.tables.winch from congrArg Tables.winch htables]
          have hsource := hafter.source hstands hkept
          rw [hfaulted] at kI kT kC kF kS hstate hrest
          refine hrest (by rw [hwinch]; rfl) ⟨kT, fun hless => absurd htrip (not_le.2 hless), fun _ h => absurd h hfault, fun _ _ => ?_⟩
          refine ⟨by rw [hstate]; rfl, kC, kF, by rw [hstate]; rfl, by rw [hstate]; rfl, by rw [hstate]; rfl, by rw [hstate]; rfl,
            by rw [hstate]; rfl, by rw [hstate]; rfl, by rw [hstate]; rfl, ?_, hafter.flag hflag, hsource⟩
          rw [hstate]
          exact hwidth
      · have hkept := handValue_temp_kept (v := mean) (s := v) (by rw [htables]; exact fun h => htrip h.1)
        rw [hkept] at kI kT kC kF kS hrest hnot
        rw [hwinch] at kI kT kC kF kS hrest
        refine hrest rfl ⟨kT, fun _ => ⟨kC, kF, kS, fun hl => by rw [hnot hl, hwinch]⟩, fun h => absurd h htrip, fun h => absurd h htrip⟩
    · rw [handValue_other hI hT, hwinch] at kI kT kC kF kS
      exact ⟨fun _ => kI, fun _ => ⟨kT, kC, kF⟩, fun _ _ => kS, fun h => absurd h hI, fun h => absurd h hT⟩

/-- PACK_V is taken at the tap that the cell count names. -/
theorem packTap_eq (n : Nat) (x : SenseInputs) : packTap n x = if n = 2 then x.tap2 else if n = 3 then x.tap3 else x.tap4 := by
  unfold packTap
  split <;> simp_all

/-- Settles O45: one conversion, the end of a slot with what it hands to WCH, and the end of a pass. -/
theorem conversionEnd : Obligations.ConversionEnd := by
  unfold Obligations.ConversionEnd
  intro s p q x v sum mean range last hpass hsource hv hrange hsum hmean hlast
  have hinput : sourceInput s.tables.protect.cellCount x q = v := by
    rw [hv]
    cases q
    case packV => exact packTap_eq _ x
    all_goals rfl
  have hsaturated : p.sum + saturate q (sourceInput s.tables.protect.cellCount x q) = sum := by
    rw [hinput, hsum, hrange]
    cases q <;> rfl
  refine ⟨conversionEnded x s, exec_conversionEnd x s, by simp, by simp, by simp, by simp, by simp, (conversionEnded_move x s).grant,
    fun hdone => ?_, fun hdone => ?_⟩
  · rw [conversionEnded_goesOn x hpass hsource hdone, hsaturated]
    rfl
  · rw [conversionEnded_slot x hpass hsource hdone, hsaturated, ← hmean]
    obtain ⟨y, hy, hafter, hscanner, hprimed, hnot⟩ := completeSlot_cases p q mean s
    have hslot := slotAtWinch (s := s) (v := putScanner q mean y s) rfl rfl hafter (last := last) fun hl => hnot fun h => hl (hlast.2 h)
    have hvalues : (completeSlot p q mean s).scanner.values = s.scanner.values.set (quantityIndex q).val mean := by
      rw [hscanner]
      rfl
    have hnextPass : (completeSlot p q mean s).scanner.pass = y := by
      rw [hscanner]
      rfl
    generalize completeSlot p q mean s = t at *
    refine ⟨?_, fun j hj => ?_, fun k hk hks hbefore => ?_, fun hl => ?_, hslot.current, hslot.temp, hslot.stall, hslot.winchI, hslot.hot⟩
    · rw [hvalues]
      simp
    · have hne : (quantityIndex q).val ≠ j.val := fun heq => hj (Fin.ext heq.symm)
      rw [hvalues]
      simp [hne]
    · have hyk : y = some { list := p.list, slot := k, done := 0, sum := 0 } := by
        rw [hy, nextSlot_first hk hks hbefore]
        rfl
      have hslotEnd := hnot fun hall => hks (hall k hk)
      refine ⟨hnextPass.trans hyk, ?_, fun hT => ?_⟩
      · have hframe := handValue_frame q mean (putScanner q mean y s)
        have halone : DemandsAlone s.budget (handValue q mean (putScanner q mean y s)).budget := handValue_alone q mean _
        rw [← hslotEnd] at hframe halone
        rw [← halone, hscanner]
        exact hframe
      · by_cases hI : q = .winchI
        · subst hI
          rw [hslotEnd, handValue_winchI]
          exact ⟨rfl, rfl, rfl, rfl⟩
        · rw [hslotEnd, handValue_other hI hT]
          exact ⟨rfl, rfl, rfl, rfl⟩
    · have hall := hlast.1 hl
      have hstart : y = startPass s.tables.scan := by rw [hy, nextSlot_last.2 hall]; rfl
      refine ⟨hprimed hall, fun hempty => ?_, fun k hks hbefore => ?_⟩
      · rw [hnextPass, hstart, startPass, nextSlot_none.2 fun k _ => hempty k]
        rfl
      · rw [hnextPass, hstart, startPass, nextSlot_first (Nat.zero_le _) hks fun j _ => hbefore j]
        rfl

end Sys2Proof.Machine

/-! # Sitting 5: RESTORE_DEFAULTS at WCH and LTC (O27): the winch's deliveries, and the default cues (Table 6-5) -/

namespace Sys2Proof.Machine

/-! ## Deliveries of a winch that neither enters nor leaves FAULT (R112) -/

/-- Deliveries of WINCH_MOVING and WINCH_FREE alone. -/
def MovesAlone (ms : List (LevelSource × Bool)) : Prop := ∀ p ∈ ms, p.1 = .winchMoving ∨ p.1 = .winchFree

theorem MovesAlone.append {ms ns : List (LevelSource × Bool)} (h : MovesAlone ms) (k : MovesAlone ns) : MovesAlone (ms ++ ns) :=
  fun p hp => (List.mem_append.1 hp).elim (h p) (k p)

theorem winchSets_movesAlone {old new : WinchState} (hold : old ≠ .fault) (hnew : new ≠ .fault) :
    MovesAlone (winchSets old new) := by
  intro p hp
  rw [winchSets, beq_eq_false_iff_ne.2 hold, beq_eq_false_iff_ne.2 hnew, if_pos rfl] at hp
  simp only [List.append_nil, List.mem_append, List.mem_ite_nil_left, List.mem_singleton] at hp
  rcases hp with ⟨-, rfl⟩ | ⟨-, rfl⟩
  · exact .inl rfl
  · exact .inr rfl

/-- A step of WCH that stands outside FAULT and has delivered no change of it. -/
structure Unfaulted (x : WinchStep) : Prop where
  state : x.winch.state ≠ .fault
  sets : MovesAlone x.sets

section
variable (c : WinchContext) {x : WinchStep}

theorem Unfaulted.enter (h : Unfaulted x) {st : WinchState} (hst : st ≠ .fault) (d : Direction) :
    Unfaulted (enterWinch c st d x) :=
  ⟨hst, by rw [enterWinch_sets]; exact h.sets.append (winchSets_movesAlone h.state hst)⟩

theorem Unfaulted.tryRelease (h : Unfaulted x) : Unfaulted (tryRelease c x) := by
  have hstate : (Machine.tryRelease c x).winch.state ≠ .fault := by
    unfold Machine.tryRelease
    split
    · exact nofun
    · exact h.state
  exact ⟨hstate, by rw [tryRelease_sets]; exact h.sets.append (winchSets_movesAlone h.state hstate)⟩

theorem Unfaulted.toIdle (h : Unfaulted x) : Unfaulted (toIdle c x) := by
  have hidle := h.enter c (st := .idle) nofun .none
  exact Unfaulted.tryRelease c ⟨hidle.state, hidle.sets⟩

theorem Unfaulted.toClutchIn (h : Unfaulted x) : Unfaulted (toClutchIn c x) := by
  have hin := h.enter c (st := .clutchIn) nofun .none
  unfold Machine.toClutchIn
  dsimp only
  split
  · exact Unfaulted.toIdle c ⟨hin.state, hin.sets⟩
  · exact ⟨hin.state, hin.sets⟩

theorem winchLineEvent_movesAlone (n : Fin 4) (active : Bool) (w : Winch) : MovesAlone (winchLineEvent n active c w).sets := by
  have hnone : MovesAlone [] := fun _ hp => by cases hp
  unfold winchLineEvent
  split_ifs
  · unfold winchHomeEvent
    dsimp only
    split
    · next h => exact (Unfaulted.toIdle c (.mk (by rw [onWinch_winch]; simp [h]) (by exact hnone))).sets
    · exact hnone
  · exact hnone
  · unfold winchEngaged
    split
    · next h => exact (Unfaulted.toIdle c (x := winchBegin w) ⟨by rw [winchBegin_winch, h]; exact nofun, hnone⟩).sets
    · exact hnone
  · unfold winchDisengaged
    split
    · next h =>
      exact (Unfaulted.enter c (x := winchBegin { w with clutchTimer := stopTimer w.clutchTimer })
        ⟨by rw [winchBegin_winch]; simp [h], hnone⟩ (st := .freespool) nofun .none).sets
    · exact hnone
  · exact hnone

theorem actOnRequest_movesAlone (hx : MovesAlone x.sets) : MovesAlone (actOnRequest c x).sets := by
  unfold actOnRequest
  split
  · next h =>
    have hstate : x.winch.state ≠ .fault := by rcases (released_iff _).1 h with h | h <;> rw [h] <;> exact nofun
    split
    · exact hx
    · exact (Unfaulted.toClutchIn c ⟨hstate, hx⟩).sets
  · by_cases hidle : x.winch.state = .idle
    · exact (Unfaulted.tryRelease c ⟨by rw [hidle]; exact nofun, hx⟩).sets
    · rw [tryRelease_other c hidle]
      exact hx

theorem winchWritten_movesAlone (w : Winch) : MovesAlone (winchWritten c w).sets := by
  unfold winchWritten
  dsimp only
  rw [refile_sets, retarget_sets]
  exact actOnRequest_movesAlone c fun _ hp => by cases hp

theorem winchWritten_flags (w : Winch) : (winchWritten c w).flags = [] := by
  unfold winchWritten
  exact (actOnRequest_quiet c _).flags

theorem winchWritten_request (w : Winch) :
    (winchWritten c w).winch.request = freespoolRequest c.record w.record := by
  unfold winchWritten
  exact (actOnRequest_request c _).request

theorem winchLineEvent_request (n : Fin 4) (active : Bool) (w : Winch) :
    (winchLineEvent n active c w).winch.request = w.request := by
  unfold winchLineEvent
  split_ifs
  · unfold winchHomeEvent
    dsimp only
    split
    · exact (toIdle_request c _).request
    · rfl
  · rfl
  · unfold winchEngaged
    split
    · exact (toIdle_request c _).request
    · rfl
  · unfold winchDisengaged
    split <;> rfl
  · rfl

end

/-! ## The default cues (Table 6-5) -/

/-- The trigger sources of Table 6-5. -/
def cueSource : LevelSource → Bool
  | .reverse | .braking | .turnLeft | .turnRight | .winchFault | .failsafe => true
  | _ => false

/-- A default cue is an enabled WHILE cue of a level source, or unused. -/
theorem defaultCue_kinds (k : Fin 16) :
    (k.val < 6 ∧ defaultCue[k].enabled = true ∧ defaultCue[k].mode = .whileTrue
        ∧ ∃ l, defaultCue[k].trigger = some (.level l) ∧ cueSource l = true)
      ∨ (defaultCue[k].enabled = false ∧ defaultCue[k].mode = .oneShot ∧ defaultCue[k].trigger = none) := by
  unfold defaultCue
  rw [tab_get]
  split
  case h_7 => exact .inr ⟨rfl, rfl, rfl⟩
  all_goals
    next h => exact .inl ⟨by omega, rfl, rfl, _, rfl, rfl⟩

section
variable {g : Nat} {x : Lights}

/-- An event that moves none of the sources of Table 6-5 reaches no default cue. -/
theorem lightsEvent_defaults {m : LightMsg} (h : ∀ p ∈ m.sets, cueSource p.1 = false) :
    lightsEvent defaultTables g false m x = { x with kept := keptAfter m.sets x.kept } := by
  have hsame (l : LevelSource) (hl : cueSource l = true) : keptValue (keptAfter m.sets x.kept) l = keptValue x.kept l :=
    keptAfter_other _ _ l fun p hp heq => by rw [← heq, h p hp] at hl; cases hl
  have hremoved (i : CueInstance) : removedAt defaultCue x.kept (keptAfter m.sets x.kept) m.fired i = false := by
    rcases defaultCue_kinds i.cue with ⟨-, -, hmode, l, htrigger, hl⟩ | ⟨-, hmode, -⟩
    · simp only [removedAt, hmode, htrigger, falls, hsame l hl, Bool.and_not_self]
    · simp only [removedAt, hmode]
  have hrequested : requestedAt defaultCue x.kept (keptAfter m.sets x.kept) m.fired x.active = [] := by
    refine List.filter_eq_nil_iff.2 fun k _ => ?_
    rcases defaultCue_kinds k with ⟨-, -, -, l, htrigger, hl⟩ | ⟨-, -, htrigger⟩
    · simp only [htrigger, happens, rises, hsame l hl, Bool.not_and_self, Bool.and_false, Bool.false_and, Bool.false_eq_true,
        not_false_eq_true]
    · simp only [htrigger, happens, Bool.and_false, Bool.false_and, Bool.false_eq_true, not_false_eq_true]
  have hroster : rosterAt defaultCue x.kept (keptAfter m.sets x.kept) m.fired x.active =
      { active := x.active, started := [], changed := false } := by
    simp [rosterAt, hrequested, hremoved, startCues]
  unfold lightsEvent
  dsimp only
  rw [show defaultTables.cue = defaultCue from rfl, hroster]
  rfl

theorem lightsEvents_defaults {ms : List LightMsg} (h : ∀ m ∈ ms, ∀ p ∈ m.sets, cueSource p.1 = false) :
    ms.foldl (fun y m => lightsEvent defaultTables g false m y) x = { x with kept := keptAfter (ms.flatMap (·.sets)) x.kept } := by
  induction ms generalizing x with
  | nil => rfl
  | cons m ms ih =>
    rw [List.foldl_cons, lightsEvent_defaults (h m List.mem_cons_self), ih fun n hn => h n (List.mem_cons_of_mem m hn),
      List.flatMap_cons, keptAfter_append]

/-- The list after RESTORE_DEFAULTS: each default WHILE cue whose source is true, in ascending order. -/
theorem lightsRestored_active (y : Lights) :
    (lightsRestored defaultTables g y).active =
      ((List.finRange 16).filter fun k => defaultCue[k].mode == .whileTrue && triggerTrue y.kept defaultCue[k]).map
        (newInstance defaultCue) := by
  have hstarting (k : Fin 16) (hk : (defaultCue[k].mode == CueMode.whileTrue && triggerTrue y.kept defaultCue[k]) = true) :
      k.val < 6 ∧ defaultCue[k].enabled = true := by
    rcases defaultCue_kinds k with ⟨hlow, henabled, -⟩ | ⟨-, hmode, -⟩
    · exact ⟨hlow, henabled⟩
    · rw [hmode] at hk
      cases hk
  have hroom : ((List.finRange 16).filter fun k =>
      defaultCue[k].mode == .whileTrue && triggerTrue y.kept defaultCue[k]).length ≤ 6 :=
    (List.monotone_filter_right (List.finRange 16) (q := fun k => decide (k.val < 6)) fun k hk => decide_eq_true (hstarting k hk).1).length_le
  have hactive : (lightsRestored defaultTables g y).active =
      (startCues defaultCue y.kept ((List.finRange 16).filter fun k =>
        defaultCue[k].mode == .whileTrue && triggerTrue y.kept defaultCue[k]) { active := [], started := [], changed := true }).active := rfl
  rw [hactive, startCues_eq_requests fun k hk => (hstarting k (List.mem_filter.1 hk).2).2]
  refine (requests_room ((List.nodup_finRange 16).filter _) (starting := (List.finRange 16).filter fun k =>
        defaultCue[k].mode == .whileTrue && triggerTrue y.kept defaultCue[k]) ?_ ?_).trans rfl
  · exact (List.filter_eq_self.2 fun k _ => decide_eq_true fun i hi => by cases hi).symm
  · simpa using hroom.trans (by decide)

/-- The cues that start are those of the sources of Table 6-5. -/
theorem triggerTrue_defaults {old new : Vector Bool 33} (h : ∀ l, cueSource l = true → keptValue new l = keptValue old l) (k : Fin 16) :
    triggerTrue new defaultCue[k] = triggerTrue old defaultCue[k] := by
  rcases defaultCue_kinds k with ⟨-, -, -, l, htrigger, hl⟩ | ⟨-, -, htrigger⟩
  · simp only [triggerTrue, htrigger, h l hl]
  · simp only [triggerTrue, htrigger]

end

end Sys2Proof.Machine

/-! # Sitting 5: RESTORE_DEFAULTS at the input lines (O27: R170), whose default active level is LOW -/

namespace Sys2Proof.Machine

/-! ## One line, judged under the default INPUT table -/

/-- The line becomes active: its active level was HIGH and its accepted level is LOW. -/
abbrev lineRises (before : Level) (n : Fin 4) (s : State) : Bool :=
  decide (before = .high ∧ s.inputs.lines[n].level = .low)

section
variable {before : Level} {n m : Fin 4} {s : State}

theorem defaultTables_input (n : Fin 4) : defaultTables.input[n].active = .low :=
  congrArg InputEntry.active (tab_get _ n)

theorem lineRewritten_low (ht : s.tables = defaultTables) : lineRewritten .low n s = s :=
  if_pos (by rw [ht, defaultTables_input])

theorem lineRewritten_high (ht : s.tables = defaultTables) : lineRewritten .high n s = lineEvent n (lineRises .high n s) s := by
  have hactive : inputActive s n = lineRises .high n s := by
    rw [Bool.eq_iff_iff, inputActive_iff, ht, defaultTables_input, decide_eq_true_iff]
    simp
  rw [lineRewritten, if_neg (by rw [ht, defaultTables_input]; exact nofun), hactive]

/-- LTC after an event of line `n` under the default cues: the kept values alone. -/
theorem lineEvent_defaults (ht : s.tables = defaultTables) (active : Bool) :
    (lineEvent n active s).lights = { s.lights with
      kept := keptAfter ((winchLineEvent n active (winchContext s) s.winch).sets ++ [(.inLevel n, active)]) s.lights.kept } := by
  rw [lineEvent_lights, ht, lightsEvents_defaults, lightsEvent_defaults, keptAfter_append]
  · rfl
  · intro p hp
    rw [List.mem_singleton.1 hp]
    rfl
  · intro x hx p hp
    rcases winchLineEvent_movesAlone (winchContext s) n active s.winch p (List.mem_flatMap.2 ⟨x, hx, hp⟩) with h | h <;> rw [h] <;> rfl

theorem lineEvent_keptOther (ht : s.tables = defaultTables) (active : Bool) {l : LevelSource} (hl : l ≠ .inLevel n)
    (hmoving : l ≠ .winchMoving) (hfree : l ≠ .winchFree) :
    keptValue (lineEvent n active s).lights.kept l = keptValue s.lights.kept l := by
  rw [lineEvent_defaults ht]
  refine keptAfter_other _ _ l fun p hp heq => ?_
  rcases List.mem_append.1 hp with hp | hp
  · rcases winchLineEvent_movesAlone _ n active s.winch p hp with h | h
    · exact hmoving (heq.symm.trans h)
    · exact hfree (heq.symm.trans h)
  · rw [List.mem_singleton.1 hp] at heq
    exact hl heq.symm

theorem lineEvent_keptOwn (ht : s.tables = defaultTables) (active : Bool) :
    keptValue (lineEvent n active s).lights.kept (.inLevel n) = active := by
  rw [lineEvent_defaults ht, keptAfter_append]
  exact (keptValue_set _ _ _ _).trans (if_pos rfl)

end

/-! ## What one line leaves of the rest -/

/-- What the judgement of a line leaves, whichever it is. -/
structure LineKeeps (s t : State) : Prop where
  tables : t.tables = s.tables
  lights : t.lights = { s.lights with kept := t.lights.kept }
  kept : ∀ l, (∀ n, l ≠ .inLevel n) → l ≠ .winchMoving → l ≠ .winchFree →
    keptValue t.lights.kept l = keptValue s.lights.kept l
  flags : ∀ i : Fin 15, i.val < 11 → t.inputs.flags[i] = s.inputs.flags[i]
  ticking : t.inputs.ticking = s.inputs.ticking
  request : t.winch.request = s.winch.request
  demands : DemandsAlone s.budget t.budget

theorem LineKeeps.refl (s : State) : LineKeeps s s := ⟨rfl, rfl, fun _ _ _ _ => rfl, fun _ _ => rfl, rfl, rfl, rfl⟩

theorem LineKeeps.after {s t u : State} (k : LineKeeps t u) (h : LineKeeps s t) : LineKeeps s u where
  tables := k.tables.trans h.tables
  lights := by rw [k.lights, h.lights]
  kept l hl hm hf := (k.kept l hl hm hf).trans (h.kept l hl hm hf)
  flags i hi := (k.flags i hi).trans (h.flags i hi)
  ticking := k.ticking.trans h.ticking
  request := k.request.trans h.request
  demands := k.demands.after h.demands

/-- What the judgement of another line leaves of line `n`. -/
structure LineAside (n : Fin 4) (s t : State) : Prop where
  line : t.inputs.lines[n] = s.inputs.lines[n]
  flag : t.inputs.flags[11 + n.val] = s.inputs.flags[11 + n.val]
  kept : keptValue t.lights.kept (.inLevel n) = keptValue s.lights.kept (.inLevel n)
  tables : t.tables = s.tables

theorem LineAside.refl (n : Fin 4) (s : State) : LineAside n s s := ⟨rfl, rfl, rfl, rfl⟩

theorem LineAside.after {n : Fin 4} {s t u : State} (k : LineAside n t u) (h : LineAside n s t) : LineAside n s u :=
  ⟨k.line.trans h.line, k.flag.trans h.flag, k.kept.trans h.kept, k.tables.trans h.tables⟩

section
variable {before : Level} {n m : Fin 4} {s : State}

/-- The judgement of a line under the default table is nothing, or one event of it. -/
theorem lineRewritten_cases {P : State → Prop} (ht : s.tables = defaultTables) (hself : P s)
    (hevent : ∀ active, P (lineEvent n active s)) : P (lineRewritten before n s) := by
  cases before
  · rw [lineRewritten_low ht]
    exact hself
  · rw [lineRewritten_high ht]
    exact hevent _

theorem edgeAtEvent_flag_low (active : Bool) (x : Inputs) {i : Fin 15} (hi : i.val < 11) :
    (edgeAtEvent n active x).flags[i] = x.flags[i] := by
  unfold edgeAtEvent
  split <;> [split; skip]
  · refine (raiseFlag_flag ..).trans (if_neg fun h => ?_)
    rw [h] at hi
    simp [flagIndex] at hi
  · rfl
  · rfl

theorem lineRewritten_keeps (ht : s.tables = defaultTables) : LineKeeps s (lineRewritten before n s) := by
  refine lineRewritten_cases (P := LineKeeps s) ht (.refl s) fun active => ?_
  exact
    { tables := by simp
      lights := by rw [lineEvent_defaults ht]
      kept := fun l hl hm hf => lineEvent_keptOther ht active (hl n) hm hf
      flags := fun i hi => by rw [lineEvent_inputs]; exact edgeAtEvent_flag_low active s.inputs hi
      ticking := by simp
      request := by rw [lineEvent_winch_eq]; exact winchLineEvent_request _ n active s.winch
      demands := lineEvent_alone n active s }

theorem lineRewritten_aside (hmn : m ≠ n) (ht : s.tables = defaultTables) : LineAside n s (lineRewritten before m s) := by
  refine lineRewritten_cases (P := LineAside n s) ht (.refl n s) fun active => ⟨?_, ?_, ?_, by simp⟩
  · rw [lineEvent_inputs]
    exact edgeAtEvent_line_other m s.inputs hmn active
  · rw [lineEvent_inputs]
    exact edgeAtEvent_flag_other m s.inputs hmn active
  · exact lineEvent_keptOther ht active (fun h => by cases h; exact hmn rfl) nofun nofun

/-- The line itself, with its edge flag, its arm and its source. -/
theorem lineRewritten_own (ht : s.tables = defaultTables) :
    (lineRewritten before n s).inputs.lines[n].level = s.inputs.lines[n].level
      ∧ (lineRewritten before n s).inputs.lines[n].runCount = s.inputs.lines[n].runCount
      ∧ (lineRewritten before n s).inputs.lines[n].armed =
          (s.inputs.lines[n].armed || decide (before = .high ∧ s.inputs.lines[n].level = .high))
      ∧ (lineRewritten before n s).inputs.flags[11 + n.val] =
          (s.inputs.flags[11 + n.val] || (lineRises before n s && s.inputs.lines[n].armed))
      ∧ (before = .high → keptValue (lineRewritten before n s).lights.kept (.inLevel n) = lineRises before n s) := by
  cases before with
  | low => rw [lineRewritten_low ht]; simp
  | high =>
    rw [lineRewritten_high ht, lineEvent_inputs]
    refine and_assoc.1 (and_assoc.1 (and_assoc.1 ⟨?_, fun _ => lineEvent_keptOwn ht _⟩))
    cases hlevel : s.inputs.lines[n].level
    · rw [show lineRises .high n s = true from decide_eq_true ⟨rfl, hlevel⟩, edgeAtEvent_active, edgeAtEvent_flag, hlevel]
      simp [Bool.or_comm]
    · rw [show lineRises .high n s = false from decide_eq_false fun h => (by rw [hlevel] at h; cases h.2),
        edgeAtEvent_inactive]
      simpa using hlevel

end

/-! ## The four lines in order -/

section
variable (before : Vector InputEntry 4) {s : State}

/-- INL's part of RESTORE_DEFAULTS. -/
def linesRewritten (before : Vector InputEntry 4) (s : State) : State :=
  (List.finRange 4).foldl (fun x n => lineRewritten before[n].active n x) s

theorem defaultsRestored_eq_lines (s : State) : defaultsRestored s = linesRewritten s.tables.input (ownersRestored s) := rfl

theorem linesRewritten_eq (s : State) : linesRewritten before s =
    lineRewritten before[3].active 3 (lineRewritten before[2].active 2
      (lineRewritten before[1].active 1 (lineRewritten before[0].active 0 s))) := by
  simp [linesRewritten, List.finRange_succ]

theorem linesRewritten_keeps (ht : s.tables = defaultTables) : LineKeeps s (linesRewritten before s) := by
  have hnext {n : Fin 4} {l : Level} {u : State} (h : LineKeeps s u) : LineKeeps s (lineRewritten l n u) :=
    (lineRewritten_keeps (h.tables.trans ht)).after h
  rw [linesRewritten_eq]
  exact hnext (hnext (hnext (hnext (.refl s))))

/-- The judgement of line `n` stands between those of the other lines. -/
theorem linesRewritten_around (n : Fin 4) (ht : s.tables = defaultTables) :
    ∃ u, LineAside n s u ∧ LineAside n (lineRewritten before[n].active n u) (linesRewritten before s) := by
  have hnext {m : Fin 4} (hmn : m ≠ n) {l : Level} {u v : State} (hu : u.tables = defaultTables) (h : LineAside n u v) :
      LineAside n u (lineRewritten l m v) := (lineRewritten_aside hmn (h.tables.trans hu)).after h
  have htables {m : Fin 4} {l : Level} {u : State} (hu : u.tables = defaultTables) :
      (lineRewritten l m u).tables = defaultTables := by rw [lineRewritten_tables, hu]
  rw [linesRewritten_eq]
  match n with
  | 0 =>
    exact ⟨s, .refl _ _, hnext (by decide) (htables ht) (hnext (by decide) (htables ht) (hnext (by decide) (htables ht) (.refl _ _)))⟩
  | 1 =>
    exact ⟨_, hnext (by decide) ht (.refl _ _), hnext (by decide) (htables (htables ht))
      (hnext (by decide) (htables (htables ht)) (.refl _ _))⟩
  | 2 =>
    exact ⟨_, hnext (by decide) ht (hnext (by decide) ht (.refl _ _)), hnext (by decide) (htables (htables (htables ht))) (.refl _ _)⟩
  | 3 => exact ⟨_, hnext (by decide) ht (hnext (by decide) ht (hnext (by decide) ht (.refl _ _))), .refl _ _⟩

/-- Every line after RESTORE_DEFAULTS. -/
theorem linesRewritten_line (n : Fin 4) (ht : s.tables = defaultTables) :
    (linesRewritten before s).inputs.lines[n].level = s.inputs.lines[n].level
      ∧ (linesRewritten before s).inputs.lines[n].runCount = s.inputs.lines[n].runCount
      ∧ (linesRewritten before s).inputs.lines[n].armed =
          (s.inputs.lines[n].armed || decide (before[n].active = .high ∧ s.inputs.lines[n].level = .high))
      ∧ (linesRewritten before s).inputs.flags[11 + n.val] =
          (s.inputs.flags[11 + n.val] || (lineRises before[n].active n s && s.inputs.lines[n].armed))
      ∧ (before[n].active = .high →
          keptValue (linesRewritten before s).lights.kept (.inLevel n) = lineRises before[n].active n s) := by
  obtain ⟨u, hbefore, hafter⟩ := linesRewritten_around before n ht
  have hown := lineRewritten_own (before := before[n].active) (n := n) (s := u) (hbefore.tables.trans ht)
  rw [hbefore.line, hbefore.flag, show lineRises before[n].active n u = lineRises before[n].active n s from
    congrArg (fun l : Line => decide (before[n].active = .high ∧ l.level = .low)) hbefore.line] at hown
  rw [hafter.line, hafter.flag, hafter.kept]
  exact hown

end

/-! ## The home and the clutch switch at a winch at rest out of RUN (R99, R104) -/

section
variable {before : Level} {s : State}

/-- WCH after IN0's judgement, the drum not being hauled in. -/
def homeJudged (rise : Bool) (w : Winch) : Winch :=
  { w with line := if rise = true then 0 else w.line, homed := rise || w.homed }

/-- WCH after IN1's judgement. -/
def clutchJudged (rise : Bool) (w : Winch) : Winch :=
  { w with state := if rise = true ∧ w.state = .clutchIn then .idle else w.state
           direction := if rise = true ∧ w.state = .clutchIn then .none else w.direction
           clutchTimer := if rise = true ∧ w.state = .clutchIn then stopTimer w.clutchTimer else w.clutchTimer }

theorem lineRewritten_home (ht : s.tables = defaultTables) (hst : s.winch.state ≠ .haulIn) :
    (lineRewritten before 0 s).winch = homeJudged (lineRises before 0 s) s.winch := by
  cases before with
  | low => rw [lineRewritten_low ht]; simp [homeJudged]
  | high =>
    rw [lineRewritten_high ht, lineEvent_winch_eq]
    cases lineRises .high 0 s
    · rfl
    · exact congrArg WinchStep.winch (winchHomeEvent_elsewhere _ hst)

theorem lineRewritten_clutch (ht : s.tables = defaultTables) (hrun : s.link.run ≠ .run)
    (hst : s.winch.state = .idle ∨ s.winch.state = .clutchIn ∨ s.winch.state = .fault)
    (htarget : s.winch.target = 0) (hfiled : s.winch.filed = 0) :
    (lineRewritten before 1 s).winch = clutchJudged (lineRises before 1 s) s.winch := by
  cases before with
  | low => rw [lineRewritten_low ht]; simp [clutchJudged]
  | high =>
    rw [lineRewritten_high ht, lineEvent_winch_eq]
    cases lineRises .high 1 s
    · have hout : s.winch.state ≠ .clutchOut := by rcases hst with h | h | h <;> rw [h] <;> exact nofun
      refine (congrArg WinchStep.winch (winchDisengaged_other (winchContext s) hout)).trans ?_
      simp [clutchJudged]
    · show (winchEngaged (winchContext s) s.winch).winch = _
      by_cases hin : s.winch.state = .clutchIn
      · rw [winchEngaged_engaging _ hin, releaseDue_outside (.inl hrun), if_neg Bool.false_ne_true, idleWinch,
          engagedWidth_engaged _ (by rw [hin]; rfl)]
        simp [clutchJudged, hin, htarget, hfiled]
      · rw [winchEngaged_other _ hin]
        simp [clutchJudged, hin]

theorem lineRewritten_winch_aside {n : Fin 4} (h₀ : n ≠ 0) (h₁ : n ≠ 1) (ht : s.tables = defaultTables) :
    (lineRewritten before n s).winch = s.winch := by
  refine lineRewritten_cases (P := fun x => x.winch = s.winch) ht rfl fun active => ?_
  rw [lineEvent_winch_eq, winchLineEvent_aside _ h₀ h₁]
  rfl

theorem linesRewritten_winch (before : Vector InputEntry 4) (ht : s.tables = defaultTables) (hrun : s.link.run ≠ .run)
    (hst : s.winch.state = .idle ∨ s.winch.state = .clutchIn ∨ s.winch.state = .fault)
    (htarget : s.winch.target = 0) (hfiled : s.winch.filed = 0) :
    (linesRewritten before s).winch =
      clutchJudged (lineRises before[1].active 1 s) (homeJudged (lineRises before[0].active 0 s) s.winch) := by
  have hhaul : s.winch.state ≠ .haulIn := by rcases hst with h | h | h <;> rw [h] <;> exact nofun
  have hhome := lineRewritten_home (before := before[0].active) ht hhaul
  have htables {m : Fin 4} {l : Level} {u : State} (hu : u.tables = defaultTables) :
      (lineRewritten l m u).tables = defaultTables := by rw [lineRewritten_tables, hu]
  have hrise : lineRises before[1].active 1 (lineRewritten before[0].active 0 s) = lineRises before[1].active 1 s :=
    congrArg (fun l : Line => decide (before[1].active = .high ∧ l.level = .low))
      (lineRewritten_aside (m := 0) (n := 1) (by decide) ht).line
  rw [linesRewritten_eq, lineRewritten_winch_aside (by decide) (by decide) (htables (htables (htables ht))),
    lineRewritten_winch_aside (by decide) (by decide) (htables (htables ht)),
    lineRewritten_clutch (htables ht) (by rw [lineRewritten_link]; exact hrun) (by rw [hhome]; exact hst)
      (by rw [hhome]; exact htarget) (by rw [hhome]; exact hfiled), hhome, hrise]

end

end Sys2Proof.Machine

/-! # Sitting 5: RESTORE_DEFAULTS (R186, O27) -/

namespace Sys2Proof.Machine

/-! ## The owners under the default tables -/

/-- STC's demand from the default currents (R59). -/
theorem steerFile_default (x : Steering) : steerFile defaultSteer x = { x with
    filed := if x.active = true then
        (x.corners.toList.map fun k => if k.position = k.target then 150 else 1200).sum
      else 0 } :=
  congrArg (fun d => { x with filed := d }) (steerDemand_eq defaultSteer x)

section
variable {rs : RunState} {p : ProtState} {g : Nat} {x y : Drive}

/-- Out of RUN the throttle path files the requested throttle and drives none. -/
theorem throttlePath_default {v a : Int} (hrun : rs ≠ .run) (hv : v = x.record.throttle)
    (ha : a = if 0 ≤ v then v else (v * 600).tdiv 1000) (hy : y = throttlePath defaultDrive rs p g x) :
    y.t1 = (if p = .limit ∧ 500 < a then 500 else a) ∧ y.t2 = 0 ∧ y.filed = 0 ∧ y.s4Width = 1500 ∧ y.reverse = false := by
  have hlimited : a = if 0 ≤ v then (v * (defaultDrive.forwardLimit : Int)).tdiv 1000 else (v * (defaultDrive.reverseLimit : Int)).tdiv 1000 := by
    rw [ha, show (v * (defaultDrive.forwardLimit : Int)).tdiv 1000 = v from Int.mul_tdiv_cancel v (by decide)]
    rfl
  obtain ⟨ht2, hfiled, hwidth, hreverse⟩ := throttlePath_outside hrun defaultDrive p g x
  rw [hy]
  exact ⟨(congrArg (throttleT1 defaultDrive p) hv.symm).trans (throttleT1_eq defaultDrive p hlimited), ht2, hfiled, hwidth, hreverse⟩

/-- A throttle below the default brake delta makes no throttle fall (R82). -/
theorem throttlePath_default_steady (hrun : rs ≠ .run) (hless : x.t2.natAbs < 150) (hy : y = throttlePath defaultDrive rs p g x) :
    y = { x with t1 := y.t1, t2 := 0, grantUsed := g, filed := 0, s4Width := 1500, reverse := false } := by
  obtain ⟨ht2, hfiled, hwidth, hreverse⟩ := throttlePath_outside hrun defaultDrive p g x
  have hfall : throttleFall defaultDrive x.t2 (throttlePath defaultDrive rs p g x).t2 = false := by
    rw [← Bool.not_eq_true, throttleFall_iff, ht2]
    rintro ⟨-, hdelta⟩
    have hdrop : defaultDrive.brakeDelta = 150 := rfl
    rw [hdrop] at hdelta
    omega
  have hbraking : (throttlePath defaultDrive rs p g x).braking = x.braking :=
    (congrArg (x.braking || ·) hfall).trans (Bool.or_false _)
  have htimer : (throttlePath defaultDrive rs p g x).brakingTimer = x.brakingTimer :=
    congrArg (fun b : Bool => if b then startTimer defaultDrive.brakeHold x.brakingTimer else x.brakingTimer) hfall
  have hparts : throttlePath defaultDrive rs p g x =
      { x with t1 := (throttlePath defaultDrive rs p g x).t1, t2 := (throttlePath defaultDrive rs p g x).t2, grantUsed := g
               filed := (throttlePath defaultDrive rs p g x).filed, s4Width := (throttlePath defaultDrive rs p g x).s4Width
               reverse := (throttlePath defaultDrive rs p g x).reverse, braking := (throttlePath defaultDrive rs p g x).braking
               brakingTimer := (throttlePath defaultDrive rs p g x).brakingTimer } := rfl
  rw [ht2, hfiled, hwidth, hreverse, hbraking, htimer] at hparts
  rw [hy]
  exact hparts

end

theorem wakeScanner_default (s : State) : (wakeScanner (putTables defaultTables s)).scanner =
    { s.scanner with pass := if s.scanner.pass = none then some ⟨defaultScan, 0, 0, 0⟩ else s.scanner.pass } := by
  have hstart : startPass defaultScan = some ⟨defaultScan, 0, 0, 0⟩ := rfl
  rw [wakeScanner_eq, ← hstart]
  rfl

theorem capFor_default (p : ProtState) : capFor defaultProtect p =
    match p with | .normal => 30000 | .caution => 22500 | .limit => 15000 | .cutoff => 1500 := by
  cases p <;> rfl

theorem freespoolRequest_default (f : FunctionRecord) : freespoolRequest defaultWinch f = true ↔ f.aux1Band = some 2 := by
  have hsource : defaultWinch.freespoolSource = some .aux1 := rfl
  have hband : defaultWinch.freespoolBand = 2 := rfl
  simp [freespoolRequest_iff, hsource, hband]

section
variable (s : State)

theorem ownersRestored_drive (s : State) : (ownersRestored s).drive =
    throttlePath defaultDrive s.link.run s.protection.state (s.budget.grant[1]) s.drive := by
  simp [ownersRestored, grantOf]
  rfl

theorem ownersRestored_inputs : (ownersRestored s).inputs = s.inputs := by
  obtain ⟨u, howners, hu⟩ := ownersRestored_eq s
  rw [howners]
  simp only [recomputeCap_inputs, wakeScanner_inputs, putLights_inputs]
  rw [hu, onWinchEvent_inputs (winchWritten_flags _ _)]
  simp

/-- WCH takes the default record in a context of its own. -/
theorem ownersRestored_winch : ∃ c : WinchContext, c.record = defaultWinch ∧ c.run = s.link.run
    ∧ (ownersRestored s).winch = (winchWritten c s.winch).winch := by
  obtain ⟨u, howners, hu⟩ := ownersRestored_eq s
  refine ⟨winchContext (driveCompute (putSteering (steerFile defaultSteer s.steering) (putTables defaultTables s))), ?_, ?_, ?_⟩
  · simp [winchContext, putTables]
    rfl
  · simp [winchContext]
  · rw [howners]
    simp only [recomputeCap_winch, wakeScanner_winch, putLights_winch]
    rw [hu, onWinchEvent_winch]
    simp
    rfl

/-- LTC before its list is made anew: the scene, and every source that neither DRV nor a moving winch owns. -/
theorem ownersRestored_lights : ∃ y : Lights, (ownersRestored s).lights = lightsRestored defaultTables s.budget.grant[3] y
    ∧ y.scene = s.lights.scene
    ∧ ∀ l, l ≠ .reverse → l ≠ .braking → l ≠ .winchMoving → l ≠ .winchFree → keptValue y.kept l = keptValue s.lights.kept l := by
  obtain ⟨u, howners, hu⟩ := ownersRestored_eq s
  obtain ⟨w, hw⟩ : ∃ w, w = putSteering (steerFile (putTables defaultTables s).tables.steer (putTables defaultTables s).steering)
      (putTables defaultTables s) := ⟨_, rfl⟩
  have hbefore : w.lights = s.lights := by
    have hput : w = _ :=
      hw.trans (putSteering_same_status (x := steerFile defaultSteer s.steering) (s := putTables defaultTables s) rfl)
    rw [hput]
    rfl
  have htables : w.tables = defaultTables := by
    rw [hw, putSteering_tables]
    rfl
  have hgrant : w.budget.grant = s.budget.grant := by
    rw [hw, putSteering_grant]
    rfl
  rw [← hw] at hu
  clear hw
  refine ⟨u.lights, ?_, ?_, fun l hr hb hm hf => ?_⟩
  · rw [howners, recomputeCap_lights, wakeScanner_lights, putLights_lights, hu, onWinchEvent_tables, driveCompute_tables, htables,
      grantOf, onWinchEvent_grant, driveCompute, putDrive_grant, hgrant]
    rfl
  · rw [hu, onWinchEvent_lights, lightsEvents_scene, driveCompute, putDrive_scene, hbefore]
  · rw [hu, onWinchEvent_kept, keptAfter_other, driveCompute, putDrive_kept hr hb, hbefore]
    intro p hp heq
    rcases winchWritten_movesAlone _ _ p hp with h | h
    · exact hm (heq.symm.trans h)
    · exact hf (heq.symm.trans h)

theorem ownersRestored_alone : DemandsAlone s.budget (ownersRestored s).budget := by
  obtain ⟨u, howners, hu⟩ := ownersRestored_eq s
  have hu' : DemandsAlone s.budget u.budget := by
    rw [hu]
    exact (onWinchEvent_alone _ _).after ((putDrive_alone _ _).after (putSteering_alone _ (putTables defaultTables s)))
  rw [howners, recomputeCap_budget, wakeScanner_budget]
  exact (putLights_alone _ u).after hu'

end

/-- LTC's list made anew ends in one composition, under the default lamps. -/
theorem lightsRestored_fields (g : Nat) (y : Lights) :
    (lightsRestored defaultTables g y).scene = y.scene ∧ (lightsRestored defaultTables g y).grantUsed = g
      ∧ (lightsRestored defaultTables g y).kept = y.kept
      ∧ (∀ o : Fin 12, (lightsRestored defaultTables g y).levels[o] =
          composedLevel defaultTables y.scene (lightsRestored defaultTables g y).active o)
      ∧ (lightsRestored defaultTables g y).filed =
          ((List.finRange 12).map fun o => (lightsRestored defaultTables g y).levels[o] * 250 / 255).sum := by
  obtain ⟨l, hl⟩ : ∃ l, lightsRestored defaultTables g y = compose defaultTables g { y with active := l } := ⟨_, rfl⟩
  rw [hl]
  obtain ⟨hfiled, hgrant, -, hactive, hscene⟩ := compose_fields defaultTables g { y with active := l }
  have hlamp (o : Fin 12) : defaultTables.lamp[o] = ⟨250, true⟩ := tab_get _ o
  refine ⟨hscene, hgrant, by simp only [compose], fun o => ?_, hfiled.trans ?_⟩
  · rw [composed_level, hactive]
  · simp only [lightsDemand, hlamp, if_true]

end Sys2Proof.Machine

/-! # Sitting 5: O27 -/

namespace Sys2Proof.Machine

section
variable (s : State)

theorem defaultsRestored_lines : LineKeeps (ownersRestored s) (defaultsRestored s) :=
  linesRewritten_keeps s.tables.input (ownersRestored_tables s)

theorem defaultsRestored_steering_filed : (defaultsRestored s).steering = steerFile defaultSteer s.steering := by
  rw [defaultsRestored_steering]
  simp [ownersRestored]
  rfl

/-- The blocks that RESTORE_DEFAULTS reaches, and what it leaves of the others. -/
theorem defaultsRestored_frame : defaultsRestored s =
    { s with
      tables := defaultTables, steering := steerFile defaultSteer s.steering
      drive := (defaultsRestored s).drive, winch := (defaultsRestored s).winch, lights := (defaultsRestored s).lights
      scanner := (wakeScanner (putTables defaultTables s)).scanner
      protection := { s.protection with cap := capFor defaultProtect s.protection.state }
      budget := { s.budget with demand := (defaultsRestored s).budget.demand }
      inputs := (defaultsRestored s).inputs } := by
  have hheld : (defaultsRestored s).heldInReset = s.heldInReset :=
    (lineRewritten_fold_keeps (R := fun x y => y.heldInReset = x.heldInReset) (fun _ => rfl) (fun k h => k.trans h)
      s.tables.input (fun n x => lineRewritten_heldInReset _ n x) _ (ownersRestored s)).trans (by simp [ownersRestored])
  have hrecord : (defaultsRestored s).record = s.record := (defaultsRestored_records s).record
  have hstore : (defaultsRestored s).store = s.store :=
    (lineRewritten_fold_keeps (R := fun x y => y.store = x.store) (fun _ => rfl) (fun k h => k.trans h)
      s.tables.input (fun n x => lineRewritten_store _ n x) _ (ownersRestored s)).trans (by simp [ownersRestored])
  have hbudget := (defaultsRestored_lines s).demands.after (ownersRestored_alone s)
  have hpending := defaultsRestored_pending s
  have hlink := defaultsRestored_link s
  have hsteering := defaultsRestored_steering_filed s
  have hscanner := defaultsRestored_scanner s
  have hprotection := defaultsRestored_protection s
  have htables := defaultsRestored_tables s
  generalize defaultsRestored s = t at *
  exact State.ext_fields hpending hheld hlink hrecord hsteering rfl rfl rfl hscanner hprotection hbudget rfl hstore htables

theorem defaultsRestored_throttlePath : (defaultsRestored s).drive =
    throttlePath defaultDrive s.link.run s.protection.state s.budget.grant[1] s.drive := by
  rw [defaultsRestored_drive, ownersRestored_drive]

theorem defaultsRestored_request :
    (defaultsRestored s).winch.request = true ↔ s.winch.record.aux1Band = some 2 := by
  obtain ⟨c, hrecord, -, hwinch⟩ := ownersRestored_winch s
  rw [(defaultsRestored_lines s).request, hwinch, winchWritten_request, hrecord, freespoolRequest_default]

/-- A winch at rest out of RUN under the default record and lines. -/
theorem defaultsRestored_resting {s : State} (hrun : s.link.run ≠ .run)
    (hst : s.winch.state = .idle ∨ s.winch.state = .clutchIn ∨ s.winch.state = .fault) :
    (defaultsRestored s).winch =
      clutchJudged (lineRises s.tables.input[1].active 1 s) (homeJudged (lineRises s.tables.input[0].active 0 s)
        { s.winch with clutchWidth := 1100, target := 0, filed := 0, request := (defaultsRestored s).winch.request
                       releaseBlock := s.winch.releaseBlock && (defaultsRestored s).winch.request }) := by
  obtain ⟨c, hrecord, hcrun, hwinch⟩ := ownersRestored_winch s
  have hrequest : (defaultsRestored s).winch.request = freespoolRequest c.record s.winch.record := by
    rw [(defaultsRestored_lines s).request, hwinch, winchWritten_request]
  have howners : (ownersRestored s).winch =
      { s.winch with clutchWidth := 1100, target := 0, filed := 0, request := (defaultsRestored s).winch.request
                     releaseBlock := s.winch.releaseBlock && (defaultsRestored s).winch.request } := by
    have hposition : (c.record.engagePosition : Int) = 1100 := by rw [hrecord]; rfl
    rw [hwinch, winchWritten_resting (by rw [hcrun]; exact hrun) hst, hrequest, hposition]
    rfl
  have hlink : (ownersRestored s).link = s.link := by simp [ownersRestored]
  have hrise (n : Fin 4) : lineRises s.tables.input[n].active n (ownersRestored s) = lineRises s.tables.input[n].active n s := by
    simp only [lineRises, ownersRestored_inputs]
  have hlines := linesRewritten_winch s.tables.input (ownersRestored_tables s) (by rw [hlink]; exact hrun)
    (by rw [howners]; exact hst) (by rw [howners]) (by rw [howners])
  rw [howners, show lineRises s.tables.input[0].active 0 (ownersRestored s) = _ from hrise 0,
    show lineRises s.tables.input[1].active 1 (ownersRestored s) = _ from hrise 1] at hlines
  exact hlines

/-- LTC after RESTORE_DEFAULTS: the list made anew, one composition under the kept scene, and the sources that stand. -/
theorem defaultsRestored_lightsFields :
    (defaultsRestored s).lights.scene = s.lights.scene ∧ (defaultsRestored s).lights.grantUsed = s.budget.grant[3]
      ∧ (defaultsRestored s).lights.active =
          ((List.finRange 16).filter fun k => defaultCue[k].mode == .whileTrue
            && triggerTrue (defaultsRestored s).lights.kept defaultCue[k]).map (newInstance defaultCue)
      ∧ (∀ o : Fin 12, (defaultsRestored s).lights.levels[o] =
          composedLevel defaultTables s.lights.scene (defaultsRestored s).lights.active o)
      ∧ (defaultsRestored s).lights.filed =
          ((List.finRange 12).map fun o => (defaultsRestored s).lights.levels[o] * 250 / 255).sum
      ∧ ∀ l, l ≠ .reverse → l ≠ .braking → l ≠ .winchMoving → l ≠ .winchFree → (∀ n, l ≠ .inLevel n) →
          keptValue (defaultsRestored s).lights.kept l = keptValue s.lights.kept l := by
  obtain ⟨y, howners, hscene, hstands⟩ := ownersRestored_lights s
  have hkeeps := defaultsRestored_lines s
  obtain ⟨hyscene, hgrant, hykept, hlevels, hfiled⟩ := lightsRestored_fields s.budget.grant[3] y
  have hactive := lightsRestored_active (g := s.budget.grant[3]) y
  have hcues (l : LevelSource) (hl : cueSource l = true) :
      keptValue (defaultsRestored s).lights.kept l = keptValue y.kept l := by
    rw [hkeeps.kept l (fun n h => by rw [h] at hl; cases hl) (fun h => by rw [h] at hl; cases hl)
      (fun h => by rw [h] at hl; cases hl), howners, hykept]
  have hlist : (fun k : Fin 16 => defaultCue[k].mode == CueMode.whileTrue && triggerTrue y.kept defaultCue[k]) =
      fun k : Fin 16 => defaultCue[k].mode == CueMode.whileTrue
        && triggerTrue (defaultsRestored s).lights.kept defaultCue[k] := by
    funext k
    rw [triggerTrue_defaults hcues]
  have hother (l : LevelSource) (hr : l ≠ .reverse) (hb : l ≠ .braking) (hm : l ≠ .winchMoving) (hf : l ≠ .winchFree)
      (hin : ∀ n, l ≠ .inLevel n) : keptValue (defaultsRestored s).lights.kept l = keptValue s.lights.kept l := by
    rw [hkeeps.kept l hin hm hf, howners, hykept, hstands l hr hb hm hf]
  have hlights := hkeeps.lights
  rw [howners] at hlights
  rw [hlist] at hactive
  rw [hscene] at hlevels hyscene
  generalize (defaultsRestored s).lights = x at *
  have hsame : x.scene = (lightsRestored defaultTables s.budget.grant[3] y).scene
      ∧ x.grantUsed = (lightsRestored defaultTables s.budget.grant[3] y).grantUsed
      ∧ x.active = (lightsRestored defaultTables s.budget.grant[3] y).active
      ∧ x.levels = (lightsRestored defaultTables s.budget.grant[3] y).levels
      ∧ x.filed = (lightsRestored defaultTables s.budget.grant[3] y).filed := by
    refine ⟨?_, ?_, ?_, ?_, ?_⟩ <;> rw [hlights]
  obtain ⟨hxscene, hxgrant, hxactive, hxlevels, hxfiled⟩ := hsame
  refine ⟨hxscene.trans hyscene, hxgrant.trans hgrant, hxactive.trans hactive, fun o => ?_, ?_, hother⟩
  · rw [hxlevels, hxactive]
    exact hlevels o
  · rw [hxfiled, hxlevels]
    exact hfiled

/-- Each line after RESTORE_DEFAULTS, with its edge flag, its arm and its source. -/
theorem defaultsRestored_line (n : Fin 4) :
    (defaultsRestored s).inputs.lines[n].level = s.inputs.lines[n].level
      ∧ (defaultsRestored s).inputs.lines[n].runCount = s.inputs.lines[n].runCount
      ∧ (defaultsRestored s).inputs.lines[n].armed =
          (s.inputs.lines[n].armed || decide (s.tables.input[n].active = .high ∧ s.inputs.lines[n].level = .high))
      ∧ (defaultsRestored s).inputs.flags[11 + n.val] =
          (s.inputs.flags[11 + n.val] || (lineRises s.tables.input[n].active n s && s.inputs.lines[n].armed))
      ∧ (s.tables.input[n].active = .high →
          keptValue (defaultsRestored s).lights.kept (.inLevel n) = lineRises s.tables.input[n].active n s) := by
  have hline := linesRewritten_line s.tables.input n (ownersRestored_tables s)
  have hrise : lineRises s.tables.input[n].active n (ownersRestored s) = lineRises s.tables.input[n].active n s := by
    simp only [lineRises, ownersRestored_inputs]
  rw [hrise, ownersRestored_inputs, ← defaultsRestored_eq_lines] at hline
  exact hline

theorem defaultsRestored_claims {s : State} (h : ClaimsFiled s) : ClaimsFiled (defaultsRestored s) :=
  (defaultsRestored_parts (c := .cueTick) s).keeps (fun _ _ => Part.claims) h

end

/-- Settles O27: the owners under the default tables, then the lines whose active level was HIGH. -/
theorem restoreDefaultsAction : Obligations.RestoreDefaultsAction := by
  intro s hs
  refine ⟨fun hr => ?_, fun hr hb => ?_, fun hr hb v a rise hv ha hrise => ?_⟩
  · by_cases hinit : s.link.run = .init
    · exact (exec_action (a := .restoreDefaults) rfl rfl hs).trans (congrArg _ (if_pos hinit))
    · exact (exec_action_past (a := .restoreDefaults) rfl rfl hs hinit).trans (congrArg _ (if_pos hr))
  · exact (exec_action_past (a := .restoreDefaults) rfl rfl hs (by simp [hr])).trans
      (congrArg _ ((if_neg (not_not.mpr hr)).trans (if_pos hb)))
  · have hexec : exec .restoreDefaults s = .next (answerAction .done (defaultsRestored (putReceiver receiverHunting s))) :=
      (exec_action_past (a := .restoreDefaults) rfl rfl hs (by simp [hr])).trans
        (congrArg Host.Outcome.next ((if_neg (not_not.mpr hr)).trans (if_neg (ne_true_of_eq_false hb))))
    have hrises (n : Fin 4) : rise n = lineRises s.tables.input[n].active n s := hrise n
    have hrun : s.link.run ≠ .run := by rw [hr]; exact nofun
    have hframe := defaultsRestored_frame (putReceiver receiverHunting s)
    have hlink : (answerAction .done (defaultsRestored (putReceiver receiverHunting s))).link = (s.answered 0x45 .done [] []).link :=
      answered_link_of_unmoved _ _ (defaultsRestored_link _)
    have hdrive := defaultsRestored_throttlePath (putReceiver receiverHunting s)
    have hrequest := defaultsRestored_request (putReceiver receiverHunting s)
    have hwinch := fun h => defaultsRestored_resting (s := putReceiver receiverHunting s) hrun h
    obtain ⟨hscene, hgrant, hactive, hlevels, hfiled, hkept⟩ := defaultsRestored_lightsFields (putReceiver receiverHunting s)
    have hlines := defaultsRestored_line (putReceiver receiverHunting s)
    have hkeeps := defaultsRestored_lines (putReceiver receiverHunting s)
    have hflags := hkeeps.flags
    have hticking := hkeeps.ticking
    rw [ownersRestored_inputs] at hflags hticking
    have hclaims : ClaimsFiled s → ClaimsFiled (defaultsRestored (putReceiver receiverHunting s)) := fun h =>
      defaultsRestored_claims (h.of_eq rfl rfl rfl rfl rfl)
    clear hkeeps
    generalize defaultsRestored (putReceiver receiverHunting s) = u at *
    obtain ⟨ht1, ht2, hdemand, hwidth, hreverse⟩ := throttlePath_default hrun hv ha hdrive
    refine ⟨_, hexec, ?frame, ht1, ht2, hdemand, hwidth, hreverse, fun h => throttlePath_default_steady hrun h hdrive,
      hrequest, fun h => ?winch, hscene, hgrant, hactive, fun l hl => ?kept, hlevels, hfiled, fun n => ?line, hflags, hticking,
      fun h => ?claims⟩
    case frame =>
      rw [steerFile_default, wakeScanner_default, capFor_default] at hframe
      have hlinked : answerAction .done u = { u with link := (s.answered 0x45 .done [] []).link } := by
        rw [← hlink]
        rfl
      have hparts := congrArg (fun x : State => { x with link := (s.answered 0x45 .done [] []).link }) hframe
      exact hlinked.trans hparts
    case winch =>
      rw [hrises 0, hrises 1]
      exact hwinch h
    case kept =>
      have hne (m : LevelSource) (hm : m ∉ [LevelSource.turnLeft, .turnRight, .aligning, .winchFault, .protCaution, .protLimit,
          .protCutoff, .failsafe, .setup]) : l ≠ m := fun e => hm (e ▸ hl)
      exact hkept l (hne _ (by simp)) (hne _ (by simp)) (hne _ (by simp)) (hne _ (by simp)) fun n => hne _ (by simp)
    case line =>
      obtain ⟨hlevel, hcount, harmed, hflag, hsource⟩ := hlines n
      rw [hrises n]
      exact ⟨hlevel, hcount, harmed, hflag, hsource⟩
    case claims => exact (hclaims h).of_eq rfl rfl rfl rfl rfl

end Sys2Proof.Machine
